-- ==== Sys2Proof/Word.lean ====
section
/-! DEFINITION. Words, sectors, flits and exact accumulator values: the data types every other file uses. -/

namespace Sys2Proof

/-- One byte. -/
abbrev Byte := BitVec 8

/-- A sector as it is stored: 32 data bytes and 4 check bytes of the sector code, 288 bits (00 conventions; 06 R201).
Byte i of the data is `data` bits [8i+7:8i]; check byte i is `chk` bits [8i+7:8i]. -/
structure Sector where
  data : BitVec 256
  chk : BitVec 32
  deriving DecidableEq, Repr

/-- A Cavo flit: a 128-bit header and its sectors (10 R347). -/
structure Flit where
  hdr : BitVec 128
  sectors : List Sector
  deriving DecidableEq, Repr

/-- A block of an update set on its way to a unit: a gradient block for the moment part, a delta block for the master part
(08 R284). -/
inductive WorkBlock where
  | moment (block : Nat)
  | master (block : Nat)
  deriving DecidableEq, Repr

/-- The three transports of the object dictionary (13 R472). -/
inductive Transport where
  | i3c | cxl | cavo
  deriving DecidableEq, Repr

/-- Who sends a dictionary request: a transport and, on Cavo, its source node (13 R459, R475). -/
structure Writer where
  via : Transport
  src : Nat
  deriving DecidableEq, Repr

/-- How the servo moves one tick of the Count (02 R32). -/
inductive Slew where
  | none | ahead | behind
  deriving DecidableEq, Repr

/-- An exact accumulator value (03 R75, R76): a finite value in units of 2^-300, or one of the values that is not finite. -/
inductive Acc where
  | finite (units : Int)
  | posInf
  | negInf
  | nan
  | rangeExceeded
  deriving DecidableEq, Repr

/-- The accumulator at zero (03 R74). -/
def Acc.zero : Acc := .finite 0

end Sys2Proof
end

