-- ==== Sys2Proof/Syntax.lean ====
section
/-! DEFINITION. The commands of the block: one constructor per row of spec/opcode_table.json. -/

namespace Sys2Proof

/-- A command: a register access, an operation, a message received or an event, with its operands. -/
inductive Instr where
  /-- POWER_ON (R575). 54 V rises into range; power-on reset releases with every rail in regulation and the Count, flags, stores and staging area cleared. -/
  | powerOn (slotId : BitVec 6) (role perstN pwrFailN laserEn : Bool)
  /-- PERST_N_FALL (R577). PERST_N falls: the module sends an abort token on every UP link, turns the lasers off, writes pending flash data and enters reset. -/
  | perstNFall
  /-- PERST_N_RESET_END (R577). The PERST_N reset ends at the later of the rising edge and 10 ms after the fall, and bring-up begins. -/
  | perstNResetEnd (slotId : BitVec 6) (role : Bool)
  /-- FUNCTION_LEVEL_RESET (R578). A CXL function-level reset aborts taken tasks, disables the queues, clears MSI-X and empties the snoop filter. -/
  | functionLevelReset
  /-- FUNCTION_RESET (R579). A write of 0x5A to FUNCTION_RESET_n resets one function as tabled and leaves it Stopped. -/
  | functionReset (w : Writer) (f : Nat)
  /-- PWR_FAIL_N_FALL (R488). PWR_FAIL_N falls: Sit-out is entered and the recorder, the saved image and the wear ledger are flushed. -/
  | pwrFailNFall
  /-- INPUT_UNDERVOLTAGE (R488). Input below 45 V for 10 µs enters Sit-out with code 0x5903. -/
  | inputUndervoltage
  /-- INPUT_OVERVOLTAGE (R504). Input above 60 V, or a rail out of regulation, halts the module with code 0x5905. -/
  | inputOvervoltage (rail : Nat)
  /-- LASER_EN_FALL (R628). LASER_EN falls: every laser turns off within 10 µs by hardware and the links go DARK. -/
  | laserEnFall
  /-- LASER_EN_RISE (R628). LASER_EN rises: the lasers reach launch power within 1.5 s and the links may train. -/
  | laserEnRise
  /-- CONTROLLER_BOOT (R582). Bring-up step 1: the ROM verifies a firmware slot, or enters recovery, and firmware applies the early values. -/
  | controllerBoot
  /-- MEMORY_BRINGUP (R582). Bring-up step 2 trains every channel and sub-channel, runs the self-check, and starts refresh and the patrols. -/
  | memoryBringup (retries : List (Nat × Bool)) (errs : List (Nat × Nat × BitVec 288))
  /-- OPTICS_BRINGUP (R582). Bring-up step 3 turns the lasers on and trains every enabled link. -/
  | opticsBringup
  /-- CXL_BRINGUP (R582). Bring-up step 4 trains the CXL port and sets Memory_Active. -/
  | cxlBringup (result width rate : Nat)
  /-- COUNT_LOCK (R582). Bring-up step 5 ends on the first entry of the servo to LOCKED. -/
  | countLock
  /-- COUNT_WAIT_EXPIRE (R582). COUNT_WAIT passes without a lock; the MZ2 writes code 0x9602 and bring-up continues. -/
  | countWaitExpire
  /-- SETTINGS_APPLY (R471). Bring-up step 6 applies the saved image as one commit, or falls back to defaults with code 0x9303. -/
  | settingsApply
  /-- READY (R582). Bring-up step 7 drives READY high, clears TRANSIT_OFF, starts the functions and makes a pending firmware slot current. -/
  | ready (up : Bool)
  /-- TICK (R26). The Count advances by one tick from the TCXO, or is slewed by the servo. -/
  | tick (slew : Slew)
  /-- BEAT_BOUNDARY (R51). At a beat boundary the Caller fires, in ascending entry number, every valid entry that the beat and measure select. -/
  | beatBoundary
  /-- MEASURE_BOUNDARY (R42). At a measure boundary the Caller may stop, rejoin or switch to a committed table. -/
  | measureBoundary
  /-- COUNT_STEP (R33). In the first tick after the Caller stops, the Count is stepped forward to the source and the servo enters ACQUIRING. -/
  | countStep
  /-- COUNT_HOLD_RELEASE (R632). A held Count runs again in the tick in which the source's time reaches it. -/
  | countHoldRelease
  /-- PPS_OUT_RISE (R29). TIME_PPS_OUT goes high at each Count value that is a multiple of 10^9. -/
  | ppsOutRise
  /-- PPS_OUT_FALL (R29). TIME_PPS_OUT returns low 100 ms after it rose. -/
  | ppsOutFall
  /-- TIME_PPS_IN_EDGE (R30). A rising edge on TIME_PPS_IN gives the servo the time written for it, or the previous edge plus 10^9 ticks. -/
  | timePpsInEdge (filter freq : Int)
  /-- TOD_NEXT_PPS (R30). A write gives the Count of the next TIME_PPS_IN edge. -/
  | todNextPps (w : Writer) (v : BitVec 64)
  /-- PTP_SYNC (R369). A PTP Sync message received on the slave port updates the servo offset and its state. -/
  | ptpSync (link : Nat) (flit : Flit) (valid : Bool) (domain : Nat) (residence : Int) (bound : Nat) (filter freq : Int)
  /-- SYNC_INTERVAL_TIMEOUT (R31). Three sync intervals without a valid Sync lose the source, so the servo enters HOLDOVER. -/
  | syncIntervalTimeout
  /-- PPS_MISSING_TIMEOUT (R31). No PPS edge within 2,100 ms loses the mode-1 source. -/
  | ppsMissingTimeout
  /-- HOLDOVER_LIMIT (R39). After 10 s of holdover the Caller is set to stop at the next measure boundary. -/
  | holdoverLimit
  /-- PTP_SYNC_SEND (R369). At each sync interval the module sends a one-step Sync on each master port while LOCKED or in HOLDOVER. -/
  | ptpSyncSend
  /-- ANNOUNCE_SEND (R369). Once per second the module sends Announce on each master port. -/
  | announceSend
  /-- REJOIN_MEASURE (R43). A write arms the measure of a host-armed rejoin; it is refused when that measure has begun. -/
  | rejoinMeasure (w : Writer) (v : BitVec 64)
  /-- LATE_FIGURE_START (R53). A figure that could not fire in its window starts as soon as its function or resource frees, before its deadline. -/
  | lateFigureStart (entry : Nat)
  /-- FIGURE_DEADLINE (R53). A figure's deadline passes, so a figure still running ends as aborted or completes, as its type says. -/
  | figureDeadline
  /-- PHASE_APPLY (R336). Once the functions have stopped, the phase image is validated and applied, its moves are issued and the functions restart. -/
  | phaseApply
  /-- HISTORY_RESET (R100). A write marks every scale and alignment history entry of a tensor unknown. -/
  | historyReset (w : Writer) (v : BitVec 32)
  /-- MODE (R127). The MODE command sets ganged or independent mode, the partitions, SHARE and the partition tables. -/
  | mode (core : Nat)
  /-- LOAD_W (R112). The LOAD_W command loads a weight set into the shadows of the named arrays. -/
  | loadW (core : Nat) (errs : List (Nat × BitVec 288))
  /-- LOAD_W_COMPLETE (R113). A load ends and the shadow becomes READY. -/
  | loadWComplete (core array : Nat)
  /-- SWAP (R115). The SWAP command exchanges the active and shadow sets. -/
  | swap (core : Nat)
  /-- PASS_SINGLE (R119). A PASS with ACC SINGLE streams N vectors and drains each line as its vector completes. -/
  | passSingle (core : Nat) (errs : List (Nat × BitVec 288))
  /-- PASS_OPEN (R119). A PASS with ACC OPEN clears, sums and keeps N lines. -/
  | passOpen (core : Nat) (errs : List (Nat × BitVec 288))
  /-- PASS_CONTINUE (R119). A PASS with ACC CONTINUE adds into the open group's lines. -/
  | passContinue (core : Nat) (errs : List (Nat × BitVec 288))
  /-- PASS_CLOSE (R119). A PASS with ACC CLOSE adds into the lines and drains them. -/
  | passClose (core : Nat) (errs : List (Nat × BitVec 288))
  /-- PASS_PUBLISH (R121). A pass ends and publishes its drained lines. -/
  | passPublish (core array : Nat) (residueBad : Bool)
  /-- DRAIN (R131). The DRAIN command arms the drain settings of the named arrays. -/
  | drain (core : Nat)
  /-- VOP_ADD (R136). The vector ADD operation. -/
  | vopAdd (core : Nat) (errs : List (Nat × BitVec 288))
  /-- VOP_MUL (R136). The vector MUL operation. -/
  | vopMul (core : Nat) (errs : List (Nat × BitVec 288))
  /-- VOP_FMA (R136). The vector FMA operation. -/
  | vopFma (core : Nat) (errs : List (Nat × BitVec 288))
  /-- VOP_MIN (R136). The vector IEEE minimum. -/
  | vopMin (core : Nat) (errs : List (Nat × BitVec 288))
  /-- VOP_MAX (R136). The vector IEEE maximum. -/
  | vopMax (core : Nat) (errs : List (Nat × BitVec 288))
  /-- VOP_SELECT (R136). The vector SELECT on C ≠ 0. -/
  | vopSelect (core : Nat) (errs : List (Nat × BitVec 288))
  /-- VOP_CONVERT (R138). The vector conversion to FMT_D, with the block scale taken from the block maximum for MX. -/
  | vopConvert (core : Nat) (errs : List (Nat × BitVec 288))
  /-- VOP_EXP2 (R136). The vector EXP2. -/
  | vopExp2 (core : Nat) (errs : List (Nat × BitVec 288))
  /-- VOP_LOG2 (R136). The vector LOG2. -/
  | vopLog2 (core : Nat) (errs : List (Nat × BitVec 288))
  /-- VOP_RCP (R136). The vector reciprocal. -/
  | vopRcp (core : Nat) (errs : List (Nat × BitVec 288))
  /-- VOP_RSQRT (R136). The vector reciprocal square root. -/
  | vopRsqrt (core : Nat) (errs : List (Nat × BitVec 288))
  /-- EXACT_SUM_VOP (R139). The vector EXACT_SUM adds into a 640-bit register. -/
  | exactSumVop (core : Nat) (errs : List (Nat × BitVec 288))
  /-- EXACT_DOT (R139). The vector exact dot product. -/
  | exactDot (core : Nat) (errs : List (Nat × BitVec 288))
  /-- EXACT_SUMSQ (R139). The vector exact sum of squares. -/
  | exactSumsq (core : Nat) (errs : List (Nat × BitVec 288))
  /-- CADD (R140). CADD adds two carry blocks into a wide carry block. -/
  | cadd (core : Nat) (errs : List (Nat × BitVec 288))
  /-- VOP_COMPLETE (R179). A VOP completes and its written sectors become produced. -/
  | vopComplete (core : Nat) (residueBad : Bool)
  /-- STREAM_START (R159). A STREAM start queues a stream after checking its descriptor, program, rings and window policy. -/
  | streamStart (core : Nat)
  /-- STREAM_STOP (R182). A STREAM stop ends the engine's running stream. -/
  | streamStop (core : Nat)
  /-- CWAIT (R147). CWAIT waits until the engine holds SECTORS of data or of free space. -/
  | cwait (core : Nat)
  /-- FWAIT (R143). FWAIT waits until a Caller or core flag reaches its target generation. -/
  | fwait (core : Nat)
  /-- WAIT_TIMEOUT (R144). A wait with TIMEOUT does not complete in time, so the task aborts with code 0x2203. -/
  | waitTimeout (core : Nat)
  /-- FLAG (R146). The FLAG command adds 1 to a core flag. -/
  | flag (core : Nat)
  /-- SYNC (R142). SYNC waits until the named arrays have published and the named units are idle. -/
  | sync (core : Nat)
  /-- LOOP (R147). LOOP sets a counter to COUNT. -/
  | loop (core : Nat)
  /-- BRANCH (R147). BRANCH decrements a counter and jumps while it is non-zero. -/
  | branch (core : Nat)
  /-- END (R183). END waits for every unit to finish, stops the read streams and completes the task. -/
  | seqEnd (core : Nat)
  /-- PREEMPTION_DONE (R149). The spill and state save end, and the pre-empting task issues its first command. -/
  | preemptionDone (core : Nat)
  /-- TASK_RESUME (R151). A pre-empted task reloads its sets and spilled lines and reissues its saved command. -/
  | taskResume (q cid : Nat)
  /-- CLAMP_ENGAGE (R541). Input power above 2,075 W engages the clamp and stops the arrays' west input. -/
  | clampEngage (watts : BitVec 16)
  /-- CLAMP_RELEASE (R541). Power below 1,950 W for 5 µs releases the clamp, and the passes resume. -/
  | clampRelease (watts : BitVec 16)
  /-- AP_FOR (R167). The address-program FOR opens a loop. -/
  | apFor (core engine : Nat)
  /-- AP_NEXT (R167). The address-program NEXT closes one iteration of a loop. -/
  | apNext (core engine : Nat)
  /-- AP_EMIT (R167). The address-program EMIT moves N sectors. -/
  | apEmit (core engine : Nat)
  /-- AP_ADD (R167). The address-program ADD moves the offset. -/
  | apAdd (core engine : Nat)
  /-- AP_END (R167). The address-program END ends the program. -/
  | apEnd (core engine : Nat)
  /-- STREAM_FAR_REQUEST (R173). The engine sends far requests while it holds credits. -/
  | streamFarRequest (core engine count : Nat)
  /-- SECTOR_ARRIVAL (R174). A far sector arrives at a ring and is checked; sectors fill in stream order. -/
  | sectorArrival (core engine pos : Nat) (first again : BitVec 288)
  /-- STREAM_WRITE_SEND (R179). The engine sends produced write sectors in ring order. -/
  | streamWriteSend (core engine : Nat)
  /-- WRITE_ACCEPTED (R179). The far end accepts a write and the ring sector is freed. -/
  | writeAccepted (core engine : Nat)
  /-- STREAM_HELD_RELEASE (R161). A stream held on a moving tensor starts when the move ends. -/
  | streamHeldRelease (core engine : Nat)
  /-- ARBITER_GRANT (R592). In each grant slot, the rank arbiter grants the oldest request of the next requester of the highest unfrozen rank. -/
  | arbiterGrant (arb room : Nat) (raised : List (Nat × Nat × Nat × Bool)) (done : List Nat)
  /-- READ_REQUEST (R236). A READ sector request returns the 36 stored bytes. -/
  | readRequest (unit : Nat) (word : BitVec 64)
  /-- WRITE_REQUEST (R211). A WRITE sector request writes a full sector and supersedes any write-combining entry. -/
  | writeRequest (unit : Nat) (word : BitVec 64) (payload : Sector)
  /-- WRITE_PARTIAL (R208). A WRITE_PARTIAL request merges into a write-combining entry, writing or evicting as needed. -/
  | writePartial (unit : Nat) (word : BitVec 64) (mask : BitVec 32) (payload : Sector)
  /-- UPDATE_WORK (R284). An UPDATE_WORK request carries a gradient or delta block to the unit that holds its state. -/
  | updateWork (tag set_ : Nat) (work : WorkBlock) (errs : List (BitVec 288))
  /-- REG_READ (R234). A REG_READ request to a base die or buffer. -/
  | regRead (unit : Nat) (word : BitVec 64)
  /-- REG_WRITE (R234). A REG_WRITE request to a base die or buffer. -/
  | regWrite (unit : Nat) (word : BitVec 64)
  /-- WC_WINDOW_EXPIRE (R209). A write-combining window expires and the controller does a read-modify-write. -/
  | wcWindowExpire (unit sector : Nat)
  /-- REFRESH (R239). A refresh interval falls due; refresh is issued or postponed as debt, taking precedence at debt 4. -/
  | refresh (pc issued : Nat)
  /-- RETRAIN_CHANNEL (R242). One channel's retrain clears its debt, waits for the step boundary and holds the channel. -/
  | retrainChannel (unit : Nat)
  /-- RETRAIN_HOLD_END (R242). The retrain hold ends, training is judged and retried once if it failed, and queued requests resume. -/
  | retrainHoldEnd (unit : Nat) (ok : Bool)
  /-- MARGIN_CHECK (R245). Every 10 ms the controller measures margin and may raise a drift alarm. -/
  | marginCheck (unit margin : Nat)
  /-- URGENT_RETRAIN (R246). A drift alarm with no RETRAIN figure due within URGENT_WAIT retrains that channel at once. -/
  | urgentRetrain (unit : Nat)
  /-- PATROL_READ (R251). The patrol reads the next sector and acts on its finding. -/
  | patrolRead (slow : Bool) (first again : BitVec 288)
  /-- PATROL_PERIOD_END (R250). A scrub period ends; an unfinished pass writes code 0x1711. -/
  | patrolPeriodEnd (slow : Bool)
  /-- MEMORY_TEMP_READING (R252). A 1 ms stack or package reading moves the thermal state. -/
  | memoryTempReading (unit : Nat) (temp : BitVec 16)
  /-- THERMAL_HOT_EXIT (R252). A unit below the exit threshold for 1 s leaves Capped or Hot. -/
  | thermalHotExit (unit : Nat)
  /-- REQUEST_SILENT_TIMEOUT (R261). A request unanswered for 10 µs loses its unit with reason 5. -/
  | requestSilentTimeout (unit : Nat)
  /-- BUFFER_LINK_REPLAY (R255). A substrate transfer to a buffer fails its CRC and is replayed. -/
  | bufferLinkReplay (buffer : Nat)
  /-- REPLAY_FAIL_TIMEOUT (R261). Replays failing for 100 µs lose the buffer with reason 9. -/
  | replayFailTimeout (buffer : Nat)
  /-- BIN_BOUNDARY (R633). A second, minute or hour of operating time begins a new count bin. -/
  | binBoundary
  /-- TG_START (R259). TG_CONTROL = 1 starts the selected traffic generators, or is refused. -/
  | tgStart (w : Writer)
  /-- TG_STOP (R258). TG_CONTROL = 2 stops the selected traffic generators. -/
  | tgStop (w : Writer)
  /-- TG_RUN_END (R258). A generator finishes its range and reports passed or failed. -/
  | tgRunEnd (unit : Nat) (errs : List (Nat × BitVec 288))
  /-- CREATE (R219). The directory CREATE command makes a resident tensor. -/
  | create (q : Nat) (entry : BitVec 1024)
  /-- DESTROY (R218). The directory DESTROY command frees a tensor with no references. -/
  | destroy (q : Nat) (entry : BitVec 1024)
  /-- MOVE (R222). The directory MOVE command puts a tensor in moving and waits for its references. -/
  | move (q : Nat) (entry : BitVec 1024)
  /-- RETURN (R227). The directory RETURN command moves a tensor back to its reservation, cleanly or with a copy. -/
  | dirReturn (q : Nat) (entry : BitVec 1024)
  /-- VACATE (R229). The directory VACATE command digests the home and makes the tensor vacant-intact. -/
  | vacate (q : Nat) (entry : BitVec 1024)
  /-- REINSTATE (R218). The directory REINSTATE command digests the home again and makes the tensor resident or damaged. -/
  | reinstate (q : Nat) (entry : BitVec 1024)
  /-- CLEAR_DAMAGE (R218). The directory CLEAR_DAMAGE command returns a tensor to resident when every sector corrects. -/
  | clearDamage (q : Nat) (entry : BitVec 1024)
  /-- SET_ATTR (R219). The directory SET_ATTR command writes the digest mark and the window fields. -/
  | setAttr (q : Nat) (entry : BitVec 1024)
  /-- MOVER_START (R222). When REFS reaches 0, the mover begins its copy or digest. -/
  | moverStart (tensor : Nat)
  /-- MOVER_DONE (R222). A copy or digest ends and the final directory write is made. -/
  | moverDone (tensor : Nat)
  /-- SET_BEGIN (R283). A triggered set begins: BEGUN is written, the step section runs and the blocks are dispatched. -/
  | setBegin (set_ : Nat)
  /-- UPDATE_STEP_START (R287). An update unit reserves its delta places and issues the reads of a step, unless a refresh, retrain or commit is pending. -/
  | updateStepStart (unit : Nat)
  /-- UPDATE_STEP_END (R287). A step's last write is accepted, held accesses are released and pending holds are issued. -/
  | updateStepEnd (unit : Nat)
  /-- UPD_FMA (R272). The update instruction FMA. -/
  | updFma (unit : Nat)
  /-- UPD_ADD (R272). The update instruction ADD. -/
  | updAdd (unit : Nat)
  /-- UPD_MUL (R272). The update instruction MUL. -/
  | updMul (unit : Nat)
  /-- UPD_DIV (R274). The update instruction DIV. -/
  | updDiv (unit : Nat)
  /-- UPD_SQRT (R274). The update instruction SQRT. -/
  | updSqrt (unit : Nat)
  /-- UPD_RSQRT (R274). The update instruction RSQRT. -/
  | updRsqrt (unit : Nat)
  /-- UPD_MIN (R272). The update instruction MIN. -/
  | updMin (unit : Nat)
  /-- UPD_MAX (R272). The update instruction MAX. -/
  | updMax (unit : Nat)
  /-- SEL (R273). The update instruction SEL on the condition MOD names. -/
  | sel (unit : Nat)
  /-- CVT (R275). The update instruction CVT rounds to a format. -/
  | cvt (unit : Nat)
  /-- LD (R272). The update instruction LD loads a state slot. -/
  | ld (unit : Nat)
  /-- ST (R272). The update instruction ST stores a state slot. -/
  | st (unit : Nat)
  /-- LDG (R272). The update instruction LDG loads the lane's gradient. -/
  | ldg (unit : Nat)
  /-- LDD (R272). The update instruction LDD loads the lane's delta. -/
  | ldd (unit : Nat)
  /-- UPD_EMIT (R272). The update instruction EMIT sets the lane's delta. -/
  | updEmit (unit : Nat)
  /-- REAPPLY (R295). A write reruns a set's update from the retained landing, or is refused. -/
  | reapply (w : Writer) (v : BitVec 32)
  /-- START_STEP (R307). A write sets COMMITTED and releases retained landings, the clip accumulators and kept triggers. -/
  | startStep (w : Writer) (v : BitVec 64)
  /-- BOW_MARGIN_EXPIRE (R318). With fewer than BOW_MARGIN beats left, an unconfirmed module contributes c0 = 0. -/
  | bowMarginExpire (tag : Nat)
  /-- BOW_RESULT (R319). The Bow exact-sum completes, and the module commits N, rolls forward or stays open. -/
  | bowResult (tag : Nat)
  /-- RESTORE_DONATE (R326). RESTORE_CONTROL = 1 reapplies unbegun mirror sets and sends the mirror state to the partner. -/
  | restoreDonate (w : Writer)
  /-- RESTORE_RECEIVE (R326). RESTORE_CONTROL = 2 puts the module in RESTORING to receive state. -/
  | restoreReceive (w : Writer)
  /-- SEED_MIRROR (R327). RESTORE_CONTROL = 3 sends the primary state to seed the partner's mirror. -/
  | seedMirror (w : Writer)
  /-- RECEIVE_MIRROR (R327). RESTORE_CONTROL = 4 receives a seeded mirror. -/
  | receiveMirror (w : Writer)
  /-- RESTORE_CANCEL (R326). RESTORE_CONTROL = 5 cancels a restore. -/
  | restoreCancel (w : Writer)
  /-- DIGEST_COMPUTED (R331). The digest engines finish a tensor digest, and the compare and repair policy proceed. -/
  | digestComputed (entry tensor : Nat) (partner : Option (Nat × List (BitVec 128)))
  /-- FRAME_RECEIVE (R350). A frame arrives, is checked, delivers its flits or NAKs, and returns credits and echoes. -/
  | frameReceive (link : Nat) (slot : BitVec 640) (flits : List Flit) (fecBad : Bool) (corrected : Nat)
  /-- FLIT_TRANSMIT (R355). The transmitter fills the next flit position by priority and credit. -/
  | flitTransmit (link : Nat)
  /-- LINK_TRAINING_COMPLETE (R357). Training completes and the link goes UP. -/
  | linkTrainingComplete (link farNode farLink rtt farBuffer : Nat)
  /-- TRAINING_TIMEOUT (R357). A link not UP within 500 ms goes DOWN with reason 9. -/
  | trainingTimeout (link : Nat)
  /-- LOSS_OF_LIGHT (R374). A lane below the loss-of-light threshold for 10 µs takes the link down. -/
  | lossOfLight (link : Nat)
  /-- ALIGNMENT_LOST (R374). Frame alignment lost for 2 frames takes the link down. -/
  | alignmentLost (link : Nat)
  /-- SCRC_TIMEOUT (R374). Eight frames without a good SCRC take the link down. -/
  | scrcTimeout (link : Nat)
  /-- HOLD_END (R358). A ring-calibration hold ends and unacknowledged frames are replayed. -/
  | holdEnd (link : Nat)
  /-- HOLD_TIMEOUT (R357). A hold longer than 8 µs takes the link down with reason 8. -/
  | holdTimeout (link : Nat)
  /-- RING_CAL_LINK (R358). The engine sends STATE hold and recalibrates one link. -/
  | ringCalLink (link : Nat)
  /-- RING_MAX_AGE_EXPIRE (R359). An engine uncalibrated for RING_MAX_AGE is recalibrated at once. -/
  | ringMaxAgeExpire (engine : Nat)
  /-- LINK_RETRY_TIMER (R376). A down link retrains every 1 s. -/
  | linkRetryTimer (link : Nat)
  /-- LINK_USABLE_TIMER (R376). After 10 s of uninterrupted UP a link is usable for routing again. -/
  | linkUsableTimer (link : Nat)
  /-- LASER_BIAS_CHECK (R360). Each second laser bias is raised for aging, and a warning or failure is raised at its limit. -/
  | laserBiasCheck (engine wavelength bias : Nat) (holds : Bool)
  /-- LINK_DISABLE (R374). LINK_CONTROL = 0 takes the link down with reason 7. -/
  | linkDisable (w : Writer) (link : Nat)
  /-- LINK_ENABLE (R376). LINK_CONTROL = 1 enables the link and ends LOCKED_OUT. -/
  | linkEnable (w : Writer) (link : Nat)
  /-- LINK_RETRAIN (R576). LINK_CONTROL = 2 resets one link and retrains it at once. -/
  | linkRetrain (w : Writer) (link : Nat)
  /-- ASYM_CAL (R371). A write starts a 64 s asymmetry calibration of a link. -/
  | asymCal (w : Writer)
  /-- ASYM_CAL_END (R371). The calibration ends, storing the asymmetry or failing with code 0x3023. -/
  | asymCalEnd (link : Nat) (bothLocked : Bool) (asym : BitVec 32)
  /-- PARTNER_LANDING (R313). A DESC OP 0x01 opens a transfer into the matching mirror landing. -/
  | partnerLanding (link : Nat) (flit : Flit)
  /-- RESTORE (R326). A DESC OP 0x02 opens a restore transfer, or delivers COMMITTED last. -/
  | restore (link : Nat) (flit : Flit)
  /-- SEED (R327). A DESC OP 0x03 opens a seeding transfer. -/
  | seed (link : Nat) (flit : Flit)
  /-- REPAIR (R367). A DESC OP 0x04 opens a repair transfer, checked against its block digest. -/
  | repair (link : Nat) (flit : Flit)
  /-- EXTRACTION (R496). A DESC OP 0x05 opens an extraction transfer into a resident tensor. -/
  | extraction (link : Nat) (flit : Flit)
  /-- POINT_TO_POINT_WRITE (R366). A DESC OP 0x06 opens a point-to-point write. -/
  | pointToPointWrite (link : Nat) (flit : Flit)
  /-- DATA_FLIT (R366). A DATA flit writes its sectors into an open transfer and completes it at the end. -/
  | dataFlit (link : Nat) (flit : Flit)
  /-- OPENED (R366). A REPORT with status 1 lets the sender send DATA. -/
  | opened (link : Nat) (flit : Flit)
  /-- COMPLETE (R366). A REPORT with status 2 completes a transfer at the sender. -/
  | complete (link : Nat) (flit : Flit)
  /-- REFUSED (R368). A REPORT with status 3 refuses a transfer. -/
  | refused (link : Nat) (flit : Flit)
  /-- APPLIED_REPORT (R314). A partner's applied report sets PARTNER_APPLIED in the matching record. -/
  | appliedReport (link : Nat) (flit : Flit)
  /-- SYNC_OFFER (R316). The follow receives the lead's sync offer and answers it. -/
  | syncOffer (link : Nat) (flit : Flit)
  /-- SYNC_ANSWER (R316). The lead receives the answer and the figure completes by comparison. -/
  | syncAnswer (link : Nat) (flit : Flit)
  /-- REDUCE (R395). A REDUCE flit's carry blocks combine with local contributions and are forwarded or landed. -/
  | reduce (link : Nat) (flit : Flit)
  /-- RECORD (R401). A RECORD flit carries block status records. -/
  | record (link : Nat) (flit : Flit)
  /-- PLAIN (R392). A PLAIN flit moves sectors unchanged. -/
  | plain (link : Nat) (flit : Flit)
  /-- COMBINE (R405). A COMBINE flit carries exact values or MAX bytes to combine. -/
  | combine (link : Nat) (flit : Flit)
  /-- ROUND_START (R402). With every record of round k held, the member starts round k+1 on the redo blocks. -/
  | roundStart (tag : Nat)
  /-- COLLECTIVE_COMPLETE (R403). A collective's last round ends, writing final blocks and histories and freeing its slot. -/
  | collectiveComplete (tag : Nat)
  /-- ABORT_TOKEN (R410). A received abort token aborts the collective, relays the token and ends the figure. -/
  | abortToken (link : Nat) (flit : Flit)
  /-- COLLECTIVE_LOCAL_FAULT (R410). A local fault aborts a collective with tokens of REASON 3. -/
  | collectiveLocalFault (tag : Nat)
  /-- STAGED_FLIT_EXPIRE (R398). Staged flits of a TAG that never started are discarded at its deadline. -/
  | stagedFlitExpire (tag : Nat)
  /-- KEPT_TOKEN_EXPIRE (R412). A kept token is dropped at its TAG's deadline. -/
  | keptTokenExpire (tag : Nat)
  /-- CXL_MEM_READ (R431). A host CXL.mem read is checked, corrected and returned unpoisoned. -/
  | cxlMemRead (hpa : BitVec 64) (cache : Nat) (first again : BitVec 288)
  /-- CXL_MEM_WRITE (R428). A host CXL.mem write gets its sector code and is written, merged or discarded. -/
  | cxlMemWrite (hpa : BitVec 64) (data : BitVec 512) (mask : BitVec 64) (cache : Nat)
  /-- BI_SNOOP_TIMEOUT (R430). An unanswered back-invalidate snoop past BI_TIMEOUT drops the line. -/
  | biSnoopTimeout (line : Nat)
  /-- HOST_REQUEST_LATE (R435). A host request waiting over 50 ms is counted with code 0x6007. -/
  | hostRequestLate
  /-- SQ_DOORBELL (R425). A write of a submission tail doorbell. -/
  | sqDoorbell (offset tail : Nat)
  /-- CQ_HEAD_DOORBELL (R425). A write of a completion head doorbell frees ring space. -/
  | cqHeadDoorbell (offset head : Nat)
  /-- TASK (R439). A TASK entry is taken and waits on its start condition. -/
  | task (q : Nat) (entry : BitVec 1024)
  /-- BARRIER (R438). A BARRIER entry completes once every earlier entry has completed. -/
  | barrier (q : Nat) (entry : BitVec 1024)
  /-- TASK_BEGIN (R440). A task's start condition holds and its cores are free, so it preloads and issues. -/
  | taskBegin (q cid : Nat)
  /-- COMPLETION_DRAIN (R437). Completions held in the buffer are posted as ring space frees. -/
  | completionDrain (q : Nat)
  /-- COALESCE_TIMEOUT (R445). COALESCE_TIME after the first completion, the vector fires. -/
  | coalesceTimeout (q : Nat)
  /-- CXL_LANE_FAILURE (R421). A lane failure retrains the port to x8 on its whole half. -/
  | cxlLaneFailure (lanes : BitVec 16)
  /-- HOST_LINK_DOWN (R422). The host link goes down; the module runs on and holds completions. -/
  | hostLinkDown
  /-- HOST_LINK_UP (R422). The host link comes up and waiting completions are posted. -/
  | hostLinkUp (width rate : Nat)
  /-- LINKDOWN_CANCEL (R423). After LINKDOWN_CANCEL of link-down, taken tasks that have not begun are cancelled. -/
  | linkdownCancel
  /-- HDM_DECODER_COMMIT (R427). An HDM decoder commit maps a host range, or fails for interleave. -/
  | hdmDecoderCommit (decoder : Nat) (base size : BitVec 64) (dpa ways : Nat)
  /-- DICT_READ (R473). A dictionary READ request. -/
  | dictRead (w : Writer) (cmd : BitVec 16) (object : BitVec 24) (length : BitVec 24)
  /-- DICT_WRITE (R473). A dictionary WRITE request, checked by length, range, class, transport and staging. -/
  | dictWrite (w : Writer) (cmd : BitVec 16) (object : BitVec 24) (length : BitVec 24) (value : List Byte)
  /-- SELECT_READ (R473). SELECT_READ writes sub 1 and reads the subindex atomically. -/
  | selectRead (w : Writer) (cmd : BitVec 16) (object : BitVec 24) (length : BitVec 24) (value : List Byte)
  /-- READ_SEGMENT (R473). READ_SEGMENT reads a segment of a DOMAIN object. -/
  | readSegment (w : Writer) (cmd : BitVec 16) (object : BitVec 24) (length : BitVec 24) (value : List Byte)
  /-- OBJECT_WRITE (R455). A write to an object with no row of its own takes effect by its change class. -/
  | objectWrite (w : Writer) (idx sub : Nat) (v : BitVec 64)
  /-- COMMIT_START (R462). COMMIT_CONTROL = 1 checks the set and time and starts a commit. -/
  | commitStart (w : Writer)
  /-- ARM (R468). COMMIT_CONTROL = 2 arms the commit for a COMMIT figure. -/
  | arm (w : Writer)
  /-- DISARM (R461). COMMIT_CONTROL = 3 disarms the commit. -/
  | disarm (w : Writer)
  /-- DISCARD (R460). COMMIT_CONTROL = 4 discards the staged values of COMMIT_SET. -/
  | discard (w : Writer)
  /-- VALIDATE_ONLY (R467). COMMIT_CONTROL = 5 validates without stopping anything. -/
  | validateOnly (w : Writer)
  /-- COMMIT_TIME_REACHED (R462). COMMIT_TIME, or COMMIT_LEAD before it, arrives and stopping begins. -/
  | commitTimeReached
  /-- COMMIT_SAFE_BOUNDARY (R462). The named functions are Stopped, so the commit validates, applies and restarts. -/
  | commitSafeBoundary
  /-- COMMIT_TIMEOUT_EXPIRE (R462). Functions miss their safe boundary within COMMIT_TIMEOUT, and the commit fails. -/
  | commitTimeoutExpire
  /-- STAGE_IDLE_EXPIRE (R460). An owner idle for STAGE_IDLE loses its staged values. -/
  | stageIdleExpire
  /-- RUN_CONTROL_START (R454). RUN_CONTROL = 1 starts a function. -/
  | runControlStart (w : Writer) (f : Nat)
  /-- RUN_CONTROL_STOP (R454). RUN_CONTROL = 2 stops a function at its safe boundary. -/
  | runControlStop (w : Writer) (f : Nat)
  /-- FUNCTION_SAFE_BOUNDARY (R452). A Stopping function reaches its safe boundary and becomes Stopped. -/
  | functionSafeBoundary (f : Nat)
  /-- SAVE_NOW (R471). SAVE_CONTROL = 1 writes the saved image at once. -/
  | saveNow (w : Writer) (ok : Bool)
  /-- SAVE_VOID (R471). SAVE_CONTROL = 2 voids both saved images. -/
  | saveVoid (w : Writer)
  /-- SAVED_IMAGE_WRITE (R469). Within 1 s of values taking effect, a new saved image is written whole and marked current. -/
  | savedImageWrite (ok : Bool)
  /-- HANDLER_ENTRY (R483). The handler takes the highest-severity entry, setting lower ones aside. -/
  | handlerEntry
  /-- HANDLER_ENTRY_DONE (R483). Handling an entry ends and the handler resumes a set-aside entry. -/
  | handlerEntryDone
  /-- SITOUT_POWER_DOWN (R489). Within 1 ms of entry, the compute units are powered down and the operating point becomes Sit-out. -/
  | sitoutPowerDown
  /-- SITOUT_REQUEST (R488). A write of 0x5A enters Sit-out with code 0x9405. -/
  | sitoutRequest (w : Writer) (v : BitVec 8)
  /-- WATCHDOG_EXPIRE (R500). The watchdog expires: Sit-out and a firmware restart, or halt in Sit-out. -/
  | watchdogExpire
  /-- FIRMWARE_RESTART_DONE (R500). Firmware restarts from flash and the dictionary answers again. -/
  | firmwareRestartDone
  /-- CONTROL_PARITY_ERROR (R503). A control-array parity error enters Sit-out. -/
  | controlParityError (array : Nat)
  /-- DIE_NETWORK_HEADER_FAIL (R503). A die-network header failing after retry enters Sit-out. -/
  | dieNetworkHeaderFail (node : Nat)
  /-- TCXO_STOPPED (R503). The monitor detects a stopped TCXO and the module enters Sit-out. -/
  | tcxoStopped
  /-- EXTRACT_START (R495). EXTRACT_CONTROL = 1 opens an extraction transfer in Sit-out. -/
  | extractStart (w : Writer)
  /-- EXTRACT_CANCEL (R495). EXTRACT_CONTROL = 2 cancels the extraction. -/
  | extractCancel (w : Writer)
  /-- EXTRACT_SECTOR (R496). The extraction sends the next sector, corrected, as stored or skipped. -/
  | extractSector
  /-- ALERT_CLEAR (R506). A write clears ALERT_LATCH except the Sit-out or halt bit. -/
  | alertClear (w : Writer)
  /-- RECORD_UPDATE (R511). Within each 4 µs, batched events of one pair update or create their record. -/
  | recordUpdate
  /-- FLUSH (R518). FLUSH_CONTROL = 1 requests a recorder flush. -/
  | flush (w : Writer)
  /-- FLUSH_SNAPSHOT (R519). A flush copies every record to the snapshot buffer within 20 µs. -/
  | flushSnapshot
  /-- FLUSH_COMPLETE (R519). The image and header are programmed, code 0x9501 is written or the flush is retried. -/
  | flushComplete (ok : Bool)
  /-- SLOT_ERASE (R521). The controller erases a flash slot until two erased slots are ready. -/
  | slotErase
  /-- FIND (R508). A write of FIND selects the record of a code and source. -/
  | find (w : Writer) (v : BitVec 32)
  /-- TELEMETRY_SAMPLE (R527). At each millisecond of the Count, a 128-byte sample is taken into the ring. -/
  | telemetrySample (volts amps watts : BitVec 16) (engines : List (BitVec 16))
  /-- POWER_SAMPLE (R536). Every 10 µs, input power is sampled into the window average. -/
  | powerSample (watts : BitVec 16)
  /-- THROTTLE_PERIOD (R537). Each 1 ms, THROTTLE_GAP is set against the effective budget, possibly changing to Reduced. -/
  | throttlePeriod (gap : BitVec 16) (activityLow : Bool)
  /-- OP_REQUEST_FULL (R544). OP_REQUEST = 0 ends Surge, or changes to Full. -/
  | opRequestFull (w : Writer)
  /-- OP_REQUEST_SURGE (R543). OP_REQUEST = 1 requests Surge, or is refused with a reason. -/
  | opRequestSurge (w : Writer)
  /-- OP_REQUEST_REDUCED (R534). OP_REQUEST = 2 changes to Reduced. -/
  | opRequestReduced (w : Writer)
  /-- CORE_RAIL_RAISED (R534). The core rail reaches its new level and PASS issue is held. -/
  | coreRailRaised
  /-- POINT_CLOCK_SWITCH (R534). With no pass in flight the clock switches, passes resume and the rail is lowered if slower. -/
  | pointClockSwitch
  /-- SURGE_MAX_CONTINUOUS (R544). 30 s of continuous Surge ends Surge. -/
  | surgeMaxContinuous
  /-- HOTSPOT_READING (R547). Every 100 µs, the die hot spot is checked against its limits. -/
  | hotspotReading (temp gap : BitVec 16)
  /-- HOTSPOT_SITOUT (R547). A hot spot above 105 °C for 1 ms enters Sit-out. -/
  | hotspotSitout (temp : BitVec 16)
  /-- HOTSPOT_HALT (R547). The comparator at 115 °C halts the module. -/
  | hotspotHalt
  /-- FLOW_ESTIMATE (R551). Each second, flow and coolant are estimated and the budget is derated. -/
  | flowEstimate (watts inlet outlet : BitVec 16) (valid : Bool)
  /-- VOLTAGE_OUT_OF_RANGE (R552). Input outside 48–58 V for 10 ms writes code 0x5115 and ends Surge. -/
  | voltageOutOfRange (volts : BitVec 16)
  /-- OPTICAL_ENGINE_OVERTEMP (R549). An engine above 90 °C for 100 ms has its lasers turned off. -/
  | opticalEngineOvertemp (engine : Nat)
  /-- WEAR_CHARGE (R553). Each second, the ledger adds wear units and Surge seconds. -/
  | wearCharge (temp : BitVec 16)
  /-- LEDGER_WRITE (R555). Every 60 s, and at Sit-out, the ledger is written to flash. -/
  | ledgerWrite (failures : Nat)
  /-- FW_DATA (R561). A write stores 8 bytes at FW_OFFSET and advances it. -/
  | fwData (w : Writer) (v : BitVec 64)
  /-- FW_FROM_FLOOR (R561). A write copies an image from the Floor into the inactive slot. -/
  | fwFromFloor (w : Writer) (v : BitVec 64)
  /-- FW_VERIFY (R561). FW_CONTROL = 1 checks the inactive slot and marks it pending. -/
  | fwVerify (w : Writer)
  /-- FW_CLEAR_PENDING (R562). FW_CONTROL = 2 clears the pending mark. -/
  | fwClearPending (w : Writer)
  /-- FUSE_SVN (R564). A write blows security-version fuses, or is refused. -/
  | fuseSvn (w : Writer) (v : BitVec 8)
  /-- REVOKE_KEY (R565). A write revokes a signing key, or is refused. -/
  | revokeKey (w : Writer) (k : BitVec 8)
  /-- ATTEST (R569). ATTEST_CONTROL = 1 starts building a signed report. -/
  | attest (w : Writer)
  /-- REPORT_BUILT (R569). The report is built within 50 ms and ATTEST_STATE becomes ready. -/
  | reportBuilt
  /-- MEASURE_TENSOR (R571). A write starts measuring a tensor into M3. -/
  | measureTensor (w : Writer) (v : BitVec 32)
  /-- MEASUREMENT_DONE (R571). A measurement extends M3, or fails when the tensor was written. -/
  | measurementDone
  /-- TOKEN_DATA (R572). A write stores 8 token bytes at TOKEN_OFFSET. -/
  | tokenData (w : Writer) (v : BitVec 64)
  /-- DEBUG_SUBMIT (R573). DEBUG_CONTROL = 1 checks a debug token and opens its scopes. -/
  | debugSubmit (w : Writer)
  /-- DEBUG_CLOSE (R573). DEBUG_CONTROL = 2 closes every debug scope. -/
  | debugClose (w : Writer)
  /-- FREEZE (R598). A FREEZE write stops new grants to classes, or is refused for COLLECTIVE. -/
  | freeze (w : Writer) (v : BitVec 8)
  /-- POWER_REMOVED (R557). 54 V is removed and the hold-up ends, so nothing on the module runs and the Count, SRAM, staged values and tiers are lost. -/
  | powerRemoved
  /-- PWR_FAIL_N_RISE (R581). PWR_FAIL_N rises, allowing power-on reset to release or bring-up to begin. -/
  | pwrFailNRise
  /-- UNIT_INTERNAL_FAULT (R261). A base die or Lomlek buffer reports an internal fault, and the unit is lost with reason 8. -/
  | unitInternalFault (unit : Nat)
  /-- OPTICAL_ENGINE_FAULT (R504). An optical engine fails, takes its eight links down and writes code 0x3901. -/
  | opticalEngineFault (engine : Nat)
  /-- OPTICAL_ENGINE_TEMP_READING (R549). An optical engine temperature reading writes code 0x5111 above 80 °C and lets a darkened engine's links leave DARK once it is below 75 °C. -/
  | opticalEngineTempReading (engine : Nat) (temp : BitVec 16)
  /-- BACK_INVALIDATE_ANSWER (R429). The host answers a back-invalidate snoop, and the waiting module access proceeds. -/
  | backInvalidateAnswer (line : Nat) (data : Option (BitVec 512))
  /-- DICT_RESPONSE_DROP (R604). A dictionary response that cannot be sent within 2 ms for lack of credit is dropped. -/
  | dictResponseDrop
  /-- DYNAMIC_ADDRESS_ASSIGNMENT (R622). A SETDASA or ENTDAA command on I3C gives the module's target its dynamic address. -/
  | dynamicAddressAssignment (addr : BitVec 7)
  deriving DecidableEq, Repr

end Sys2Proof
end

