-- ==== Sys2Proof/Machine/Bits.lean ====
section
/-! DEFINITION. Bit fields, byte order and sign of plain numbers: the helpers every field of a register, header or entry
is read and written with. -/

namespace Sys2Proof.Machine

open Sys2Proof

/-- Bits [hi:lo] of `x`. -/
def fld (x hi lo : Nat) : Nat := x / 2 ^ lo % 2 ^ (hi + 1 - lo)

/-- Bit `i` of `x`. -/
def bitOf (x i : Nat) : Bool := x / 2 ^ i % 2 == 1

/-- `x` with bits [hi:lo] replaced by `v`. -/
def setFld (x hi lo v : Nat) : Nat :=
  x - fld x hi lo * 2 ^ lo + v % 2 ^ (hi + 1 - lo) * 2 ^ lo

/-- 1 for true. -/
def b2n (b : Bool) : Nat := if b then 1 else 0

/-- The two's-complement value of the low `w` bits of `x`. -/
def toSigned (w x : Nat) : Int :=
  let y := x % 2 ^ w
  if y < 2 ^ (w - 1) then (y : Int) else (y : Int) - (2 ^ w : Nat)

/-- The low `w` bits of `x` in two's complement. -/
def ofSigned (w : Nat) (x : Int) : Nat := (x % ((2 ^ w : Nat) : Int)).toNat

/-- `n` bytes of `x`, least significant first (13 R448). -/
def leBytes (n x : Nat) : List Byte :=
  (List.range n).map fun i => BitVec.ofNat 8 (x / 2 ^ (8 * i))

/-- The number whose bytes, least significant first, are `bs`. -/
def ofLeBytes : List Byte → Nat
  | [] => 0
  | b :: bs => b.toNat + 256 * ofLeBytes bs

/-- Item `i` of `l`, or `d`. -/
def nth {α : Type} (d : α) (l : List α) (i : Nat) : α := l.getD i d

/-- `l` with item `i` changed by `f`; unchanged when there is none. -/
def upd {α : Type} (f : α → α) (l : List α) (i : Nat) : List α := l.modify i f

/-- The sum of `l`. -/
def sumNat (l : List Nat) : Nat := l.foldl (· + ·) 0

/-- The number of set bits among the low `n` bits of `x`. -/
def popCount (n x : Nat) : Nat := ((List.range n).filter (bitOf x)).length

/-- The set bits of `x` below `n`, in ascending order. -/
def bitList (n x : Nat) : List Nat := (List.range n).filter (bitOf x)

/-- `l` without the first element that satisfies `p`. -/
def dropFirst {α : Type} (p : α → Bool) : List α → List α
  | [] => []
  | a :: l => if p a then l else a :: dropFirst p l

/-- `l` with every element that satisfies `p` changed by `f`. -/
def mapIf {α : Type} (p : α → Bool) (f : α → α) (l : List α) : List α :=
  l.map fun a => if p a then f a else a

/-- `l` split into pieces of `n` (structural on the fuel, the length of `l`). -/
def chunks {α : Type} (n : Nat) (l : List α) : List (List α) :=
  (List.range ((l.length + n - 1) / n)).map fun i => (l.drop (i * n)).take n

/-- Insertion into a list sorted by `key`, after equal keys. -/
def insertBy {α : Type} (key : α → Nat) (a : α) : List α → List α
  | [] => [a]
  | b :: l => if key a < key b then a :: b :: l else b :: insertBy key a l

/-- `l` sorted by `key`, equal keys in order of appearance. -/
def sortBy {α : Type} (key : α → Nat) (l : List α) : List α := l.reverse.foldr (insertBy key) []

end Sys2Proof.Machine
end

