-- ==== Sys2Proof/Machine/Numeric.lean ====
section
/-! DEFINITION. Number formats, the exact accumulator, the rounding procedure, the rounding generator, MX and carry blocks
(03 Number formats, rounding and the bit-pattern promise). -/

namespace Sys2Proof.Machine

open Sys2Proof

/-! ### Exact values -/

/-- A value read from a number format: NaN, an infinity, or (-1)^neg · m · 2^e. -/
inductive FVal where
  | nan
  | inf (neg : Bool)
  | fin (neg : Bool) (m : Nat) (e : Int)
  deriving DecidableEq, Repr

/-- Positive zero. -/
def FVal.zero : FVal := .fin false 0 0

/-- An integer times a power of two as an exact value. -/
def FVal.ofInt (x : Int) (e : Int) : FVal := .fin (decide (x < 0)) x.natAbs e

/-- The integer m · 2^k, rounded toward minus infinity for k < 0. -/
def scaleInt (x : Int) (k : Int) : Int :=
  if 0 ≤ k then x * 2 ^ k.toNat else x / 2 ^ (-k).toNat

/-- (-1)^neg · m as an integer. -/
def signed (neg : Bool) (m : Nat) : Int := if neg then -(m : Int) else (m : Int)

/-- Product (03 R76, rows 1 to 3). -/
def FVal.mul : FVal → FVal → FVal
  | .nan, _ => .nan
  | _, .nan => .nan
  | .inf s, .inf t => .inf (s != t)
  | .inf s, .fin t m _ => if m = 0 then .nan else .inf (s != t)
  | .fin s m _, .inf t => if m = 0 then .nan else .inf (s != t)
  | .fin s m e, .fin t n f => .fin (s != t) (m * n) (e + f)

/-- Sum; an exact zero sum is +0 unless both addends are -0 (IEEE 754 round to nearest even, 03 R91). -/
def FVal.add : FVal → FVal → FVal
  | .nan, _ => .nan
  | _, .nan => .nan
  | .inf s, .inf t => if s = t then .inf s else .nan
  | .inf s, .fin _ _ _ => .inf s
  | .fin _ _ _, .inf t => .inf t
  | .fin s m e, .fin t n f =>
    let g := min e f
    let x := scaleInt (signed s m) (e - g) + scaleInt (signed t n) (f - g)
    if x = 0 then .fin (s && t && m == 0 && n == 0) 0 0 else FVal.ofInt x g

/-- -v. -/
def FVal.neg : FVal → FVal
  | .nan => .nan
  | .inf s => .inf (!s)
  | .fin s m e => .fin (!s) m e

/-- Order of two values that are not NaN, with -0 below +0. -/
def FVal.lt (a b : FVal) : Bool :=
  match a, b with
  | .nan, _ => false
  | _, .nan => false
  | .inf s, .inf t => s && !t
  | .inf s, .fin _ _ _ => s
  | .fin _ _ _, .inf t => !t
  | .fin s m e, .fin t n f =>
    let g := min e f
    let x := scaleInt (signed s m) (e - g)
    let y := scaleInt (signed t n) (f - g)
    if x = 0 ∧ y = 0 then s && !t else decide (x < y)

/-- Numerical equality, zeros equal. -/
def FVal.eq (a b : FVal) : Bool :=
  match a, b with
  | .inf s, .inf t => s == t
  | .fin s m e, .fin t n f =>
    let g := min e f
    decide (scaleInt (signed s m) (e - g) = scaleInt (signed t n) (f - g))
  | _, _ => false

/-- IEEE 754-2019 minimum: NaN propagates and -0 orders below +0 (03 R91). -/
def FVal.minimum (a b : FVal) : FVal :=
  match a, b with
  | .nan, _ => .nan
  | _, .nan => .nan
  | a, b => if b.lt a then b else a

/-- IEEE 754-2019 maximum (03 R91). -/
def FVal.maximum (a b : FVal) : FVal :=
  match a, b with
  | .nan, _ => .nan
  | _, .nan => .nan
  | a, b => if a.lt b then b else a

/-! ### Rounding (03 R78, R79) -/

/-- The rounding modes. -/
inductive Rounding where
  | rne | sr
  deriving DecidableEq, Repr

/-- A binary floating-point target: p significand bits, emin, exponent and largest value of its normals (03 R66, R78). -/
structure FpFormat where
  p : Nat
  emin : Int
  maxT : Nat
  maxQ : Int
  deriving DecidableEq, Repr

/-- round_to on a magnitude m · 2^e > 0: the kept magnitude and the weight of its last bit, or none on overflow. -/
def roundTo (f : FpFormat) (mode : Rounding) (r m : Nat) (e : Int) : Option (Nat × Int) :=
  let q : Int := max ((Nat.log2 m : Int) + e) f.emin - ((f.p : Int) - 1)
  let t : Nat :=
    if q ≤ e then m * 2 ^ (e - q).toNat
    else
      let w := 2 ^ (q - e).toNat
      let t := m / w
      let d := m % w
      match mode with
      | .rne => if 2 * d > w ∨ (2 * d = w ∧ t % 2 = 1) then t + 1 else t
      | .sr => if d * 2 ^ 24 / w + r ≥ 2 ^ 24 then t + 1 else t
  let g := min q f.maxQ
  if t * 2 ^ (q - g).toNat > f.maxT * 2 ^ (f.maxQ - g).toNat then none else some (t, q)

/-- The exponent and fraction fields of the value t · 2^q. -/
def packFields (f : FpFormat) (t : Nat) (q : Int) : Nat :=
  (q - (f.emin - ((f.p : Int) - 1))).toNat * 2 ^ (f.p - 1) + t

/-- FP32 (03 R78). -/
def fp32 : FpFormat := ⟨24, -126, 2 ^ 24 - 1, 104⟩

/-- BF16 (03 R78). -/
def bf16 : FpFormat := ⟨8, -126, 2 ^ 8 - 1, 120⟩

/-- A value rounded to an IEEE format with an 8-bit exponent; NaN and infinities under 03 R65, R78. A zero is written as +0, as
round_to has it; a negative value that rounds to zero keeps its sign (log entry 21). -/
def encodeIeee (f : FpFormat) (mode : Rounding) (r : Nat) (v : FVal) : Nat :=
  let sb := 2 ^ (f.p + 7)
  let inf := 255 * 2 ^ (f.p - 1)
  match v with
  | .nan => inf + 2 ^ (f.p - 2)
  | .inf s => b2n s * sb + inf
  | .fin s m e =>
    if m = 0 then 0
    else match roundTo f mode r m e with
      | none => b2n s * sb + inf
      | some (t, q) => b2n s * sb + packFields f t q

/-- A value as an FP32 result of IEEE 754 arithmetic or of a move, by round-to-nearest-even: a zero keeps its sign (03 R91). -/
def toFp32 (v : FVal) : Nat :=
  match v with
  | .fin s 0 _ => b2n s * 2 ^ 31
  | w => encodeIeee fp32 .rne 0 w

/-- The value of an IEEE format with an 8-bit exponent and `mb` fraction bits; subnormals are kept (03 R64). -/
def decodeIeee (mb x : Nat) : FVal :=
  let s := bitOf x (mb + 8)
  let e := fld x (mb + 7) mb
  let m := x % 2 ^ mb
  if e = 255 then (if m = 0 then .inf s else .nan)
  else if e = 0 then .fin s m (-126 - (mb : Int))
  else .fin s (m + 2 ^ mb) ((e : Int) - 127 - (mb : Int))

/-- The value of an FP32 word. -/
def ofFp32 (x : Nat) : FVal := decodeIeee 23 x

/-- The value of a BF16 word. -/
def ofBf16 (x : Nat) : FVal := decodeIeee 7 x

/-! ### FP32 operations, correctly rounded (03 R91) -/

/-- IEEE minimum of two FP32 words. -/
def fMin (a b : Nat) : Nat := toFp32 ((ofFp32 a).minimum (ofFp32 b))

/-- IEEE maximum of two FP32 words. -/
def fMax (a b : Nat) : Nat := toFp32 ((ofFp32 a).maximum (ofFp32 b))

/-- A magnitude known to lie strictly between m · 2^e and (m + 1) · 2^e when `inexact`, exactly m · 2^e otherwise, as a
value with one more bit that rounds the same. -/
def sticky (m : Nat) (inexact : Bool) (e : Int) : Nat × Int := (2 * m + b2n inexact, e - 1)

/-- Quotient of two magnitudes with 64 extra bits and a sticky bit. -/
def divMag (m : Nat) (e : Int) (n : Nat) (f : Int) : Nat × Int :=
  let k := 64 + Nat.log2 n
  let a := m * 2 ^ k
  sticky (a / n) (a % n != 0) (e - f - k)

/-- Quotient as a value that rounds as the exact one does (IEEE 754; division of a finite non-zero value by zero is an
infinity). -/
def FVal.div : FVal → FVal → FVal
  | .nan, _ => .nan
  | _, .nan => .nan
  | .inf _, .inf _ => .nan
  | .inf s, .fin t _ _ => .inf (s != t)
  | .fin s _ _, .inf t => .fin (s != t) 0 0
  | .fin s m e, .fin t n f =>
    if n = 0 then (if m = 0 then .nan else .inf (s != t))
    else if m = 0 then .fin (s != t) 0 0
    else let (a, g) := divMag m e n f; .fin (s != t) a g

/-- Square root as a value that rounds as the exact one does (IEEE 754: the root of -0 is -0, of a negative value NaN). -/
def FVal.sqrt : FVal → FVal
  | .nan => .nan
  | .inf s => if s then .nan else .inf false
  | .fin s m e =>
    if m = 0 then .fin s 0 0
    else if s then .nan
    else
      let e' := if e % 2 = 0 then e else e - 1
      let a := (if e % 2 = 0 then m else 2 * m) * 2 ^ 128
      let r := Nat.sqrt a
      let (x, g) := sticky r (r * r != a) (e' / 2 - 64)
      .fin false x g

/-- Reciprocal square root as a value that rounds as the exact one does. -/
def FVal.rsqrt : FVal → FVal
  | .nan => .nan
  | .inf s => if s then .nan else .fin false 0 0
  | .fin s m e =>
    if m = 0 then .inf s
    else if s then .nan
    else
      -- 1/sqrt(m 2^e) = sqrt(2^(2k) / m') with e made even; the quotient keeps over 100 significant bits
      let e' := if e % 2 = 0 then e else e - 1
      let a := if e % 2 = 0 then m else 2 * m
      let k := 2 * (Nat.log2 a + 80)
      let num := 2 ^ k
      let qt := num / a
      let r := Nat.sqrt qt
      let (x, g) := sticky r (r * r * a != num) (-(e' / 2) - (k / 2 : Nat))
      .fin false x g

/-- 2^f for a fraction f of `bits` bits, as `acc` over 2^320: `root` is 2^(2^-i) for the next bit, rounded down. -/
def exp2Bits (f : Nat) : Nat → Nat → Nat → Nat
  | 0, _, acc => acc
  | i + 1, root, acc =>
    let r := Nat.sqrt (root * 2 ^ 320)
    exp2Bits f i r (if bitOf f i then acc * r / 2 ^ 320 else acc)

/-- 2^x as a value that rounds as the exact one does: 300 fraction bits, exact for an integer x (04 R136; log entry 12). -/
def FVal.exp2 : FVal → FVal
  | .nan => .nan
  | .inf s => if s then .fin false 0 0 else .inf false
  | .fin s m e =>
    let x := scaleInt (signed s m) (e + 160)
    let k := x / 2 ^ 160
    let f := (x % 2 ^ 160).toNat
    if k > 200 then .inf false
    else if k < -200 then .fin false 1 (-400)
    else if f = 0 then .fin false 1 k
    else
      let (a, g) := sticky (exp2Bits f 160 (2 ^ 321) (2 ^ 320)) true (k - 320)
      .fin false a g

/-- `n` fraction bits of log2(y), y in units of 2^-400 between 1 and 2, by repeated squaring. -/
def log2Bits : Nat → Nat → Nat → Nat
  | 0, _, acc => acc
  | n + 1, y, acc =>
    let z := y * y / 2 ^ 400
    if 2 ^ 401 ≤ z then log2Bits n (z / 2) (2 * acc + 1) else log2Bits n z (2 * acc)

/-- log2 x as a value that rounds as the exact one does: 120 fraction bits, exact for a power of two; IEEE 754-2019 gives
-∞ for zero and NaN below it (03 R91; 04 R136; log entry 12). -/
def FVal.log2 : FVal → FVal
  | .nan => .nan
  | .inf s => if s then .nan else .inf false
  | .fin s m e =>
    if m = 0 then .inf true
    else if s then .nan
    else
      let l := Nat.log2 m
      let k : Int := (l : Int) + e
      if m = 2 ^ l then FVal.ofInt k 0
      else
        let f := log2Bits 120 (m * 2 ^ 400 / 2 ^ l) 0
        FVal.ofInt (2 * (k * 2 ^ 120 + (f : Int)) + 1) (-121)

/-! ### The column accumulator (03 R73 to R77) -/

/-- An exact value on the 2^-300 grid, rounded down where it is finer. -/
def accUnits (neg : Bool) (m : Nat) (e : Int) : Int := scaleInt (signed neg m) (e + 300)

/-- A finite number of units, or range exceeded (03 R75). -/
def accOfUnits (u : Int) : Acc := if u.natAbs < 2 ^ 638 then .finite u else .rangeExceeded

/-- A value entered into an accumulator. -/
def accOf : FVal → Acc
  | .nan => .nan
  | .inf true => .negInf
  | .inf false => .posInf
  | .fin s m e => accOfUnits (accUnits s m e)

/-- Exact addition; non-finite kinds combine under 03 R76. -/
def accAdd : Acc → Acc → Acc
  | .finite x, .finite y => accOfUnits (x + y)
  | .nan, _ => .nan
  | _, .nan => .nan
  | .posInf, .negInf => .nan
  | .negInf, .posInf => .nan
  | .posInf, _ => .posInf
  | _, .posInf => .posInf
  | .negInf, _ => .negInf
  | _, .negInf => .negInf
  | .rangeExceeded, _ => .rangeExceeded
  | _, .rangeExceeded => .rangeExceeded

/-- The 640 bits of an accumulator (03 R73). -/
def accBits : Acc → Nat
  | .finite u => ofSigned 640 u
  | .posInf => 2 ^ 638
  | .negInf => 2 ^ 638 + 1
  | .nan => 2 ^ 638 + 2
  | .rangeExceeded => 2 ^ 638 + 3

/-- The accumulator value 640 bits hold (03 R73). -/
def accOfBits (x : Nat) : Acc :=
  match fld x 639 638 with
  | 1 => (match x % 4 with | 0 => .posInf | 1 => .negInf | 2 => .nan | _ => .rangeExceeded)
  | 2 => .nan
  | _ => .finite (toSigned 640 x)

/-- An accumulator is finite. -/
def accFinite : Acc → Bool
  | .finite _ => true
  | _ => false

/-- The non-finite kind of 03 R73. -/
def accKind : Acc → Nat
  | .finite _ => 0
  | .posInf => 0
  | .negInf => 1
  | .nan => 2
  | .rangeExceeded => 3

/-- An accumulator as a value to round: range exceeded drains as NaN, zero as +0 (03 R77, R83). -/
def accVal : Acc → FVal
  | .finite u => FVal.ofInt u (-300)
  | .posInf => .inf false
  | .negInf => .inf true
  | _ => .nan

/-! ### The stochastic-rounding generator (03 R85, R86) -/

/-- mix64 (03 R85). -/
def mix64 (x : BitVec 64) : BitVec 64 :=
  let z := x + 0x9E3779B97F4A7C15#64
  let z := (z ^^^ (z >>> 30)) * 0xBF58476D1CE4E5B9#64
  let z := (z ^^^ (z >>> 27)) * 0x94D049BB133111EB#64
  z ^^^ (z >>> 31)

/-- k_step of a step (03 R86). -/
def stepKey (seed : BitVec 64) (step : Nat) : BitVec 64 := mix64 (seed + BitVec.ofNat 64 step)

/-- The 24 random bits of one rounded element (03 R86). -/
def randBits (kstep : BitVec 64) (place tensor element : Nat) : Nat :=
  let kplace := mix64 (kstep ^^^ (BitVec.ofNat 64 place <<< 56) ^^^ BitVec.ofNat 64 tensor)
  (mix64 (kplace ^^^ BitVec.ofNat 64 element)).toNat / 2 ^ 40

/-! ### MX blocks (03 R66 to R69, R80) -/

/-- An MX element format (03 R66). -/
structure ElemFormat where
  width : Nat
  ebits : Nat
  mbits : Nat
  bias : Nat
  emax : Nat
  maxT : Nat
  deriving DecidableEq, Repr

/-- E2M1. -/
def e2m1 : ElemFormat := ⟨4, 2, 1, 1, 2, 3⟩
/-- E2M3. -/
def e2m3 : ElemFormat := ⟨6, 2, 3, 1, 2, 15⟩
/-- E3M2. -/
def e3m2 : ElemFormat := ⟨6, 3, 2, 3, 4, 7⟩
/-- E4M3. -/
def e4m3 : ElemFormat := ⟨8, 4, 3, 7, 8, 14⟩
/-- E5M2. -/
def e5m2 : ElemFormat := ⟨8, 5, 2, 15, 15, 7⟩

/-- The element format as a rounding target. -/
def ElemFormat.fp (f : ElemFormat) : FpFormat :=
  ⟨f.mbits + 1, 1 - (f.bias : Int), f.maxT, (f.emax : Int) - f.mbits⟩

/-- The value of an element (03 R66): E4M3 and E5M2 have their NaN and infinity encodings. -/
def elemVal (f : ElemFormat) (x : Nat) : FVal :=
  let s := bitOf x (f.ebits + f.mbits)
  let e := fld x (f.ebits + f.mbits - 1) f.mbits
  let m := x % 2 ^ f.mbits
  if f = e4m3 ∧ e = 15 ∧ m = 7 then .nan
  else if f = e5m2 ∧ e = 31 then (if m = 0 then .inf s else .nan)
  else if e = 0 then .fin s m (1 - (f.bias : Int) - f.mbits)
  else .fin s (m + 2 ^ f.mbits) ((e : Int) - f.bias - f.mbits)

/-- A value times 2^k. -/
def FVal.scale (k : Int) : FVal → FVal
  | .fin s m e => .fin s m (e + k)
  | v => v

/-- The value of an element under scale byte `sc`; 0xFF makes it NaN (03 R67). -/
def mxVal (f : ElemFormat) (sc x : Nat) : FVal :=
  if sc = 255 then .nan else (elemVal f x).scale ((sc : Int) - 127)

/-- Element j of a packed block (03 R68). -/
def mxElem (f : ElemFormat) (block j : Nat) : Nat := block / 2 ^ (f.width * j) % 2 ^ f.width

/-- An element of a finite value, +0 for a zero (03, round_to), or none on overflow. -/
def mxEncode (f : ElemFormat) (mode : Rounding) (r : Nat) (v : FVal) : Option Nat :=
  match v with
  | .fin s m e =>
    if m = 0 then some 0
    else (roundTo f.fp mode r m e).map fun (t, q) => b2n s * 2 ^ (f.width - 1) + packFields f.fp t q
  | _ => none

/-- Elements packed as one little-endian bit string (03 R68). -/
def mxPack (f : ElemFormat) : List Nat → Nat
  | [] => 0
  | x :: xs => x + 2 ^ f.width * mxPack f xs

/-- An MX block as written: scale byte, packed elements, raises. -/
structure MxBlock where
  scale : Nat
  elems : Nat
  raises : Nat
  deriving DecidableEq, Repr

/-- Steps 3 to 5 of 03 R80 from scale exponent `x`, the values and their random bits in pairs; `fuel` bounds the raises. -/
def mxTry (f : ElemFormat) (mode : Rounding) (vs : List (FVal × Nat)) : Nat → Int → Nat → MxBlock
  | 0, _, n => ⟨255, 0, n⟩
  | fuel + 1, x, n =>
    if x > 127 then ⟨255, 0, n⟩
    else match vs.mapM fun (v, r) => mxEncode f mode r (v.scale (-x)) with
      | some es => ⟨(127 + x).toNat, mxPack f es, n⟩
      | none => mxTry f mode vs fuel (x + 1) (n + 1)

/-- A block of finite values drained into an MX format with history H and headroom h (03 R80). -/
def mxDrain (f : ElemFormat) (mode : Rounding) (hist : Int) (h : Nat) (vs : List (FVal × Nat)) : MxBlock :=
  let x : Int := hist - 127 + h - f.emax
  mxTry f mode vs 512 (if x < -127 then -127 else x) 0

/-- floor(log2 m) of the largest magnitude of a list of finite values; none when all are zero. -/
def maxLog2 (vs : List FVal) : Option Int :=
  vs.foldl (fun a v => match v with
    | .fin _ m e => if m = 0 then a else
        let k := (Nat.log2 m : Int) + e
        (match a with | none => some k | some b => some (max b k))
    | _ => a) none

/-- A history byte from a block's largest magnitude (03 R95). -/
def histByte : Option Int → Nat
  | none => 0
  | some k => (max 1 (min 254 (127 + k))).toNat

/-! ### Carry blocks (03 R70 to R72, R81, R97) -/

/-- The exponent a carry block is written with (03 R71): below 0x07 it is 0x07. -/
def carryExp (a : Int) : Nat := if a < 7 then 7 else a.toNat

/-- An integer fits 32 bits. -/
def fits32 (n : Int) : Bool := decide (-(2 ^ 31 : Int) ≤ n ∧ n < 2 ^ 31)

/-- A carry block: exponent (0xFF for NaN) and 32 integers. -/
structure Carry where
  exp : Nat
  vals : List Int
  deriving DecidableEq, Repr

/-- The NaN carry block (03 R71). -/
def carryNan : Carry := ⟨255, List.replicate 32 0⟩

/-- floor(u · 2^-300 / 2^(A - 157)) (03 R81). -/
def carryInt (a : Nat) (u : Int) : Int := scaleInt u (157 - (a : Int) - 300)

/-- Conversion of exact units at exponent A, raised by 8 until every integer fits (03 R81). -/
def carryTry (us : List Int) : Nat → Nat → Nat → Carry × Nat
  | 0, _, n => (carryNan, n)
  | fuel + 1, a, n =>
    if a > 254 then (carryNan, n)
    else
      let vs := us.map (carryInt a)
      if vs.all fits32 then (⟨a, vs⟩, n) else carryTry us fuel (a + 8) (n + 1)

/-- Exact units drained to carry format at exponent A; the second component counts the raises. -/
def carryDrain (a : Nat) (us : List Int) : Carry × Nat := carryTry us 64 (carryExp a) 0

/-- ceil(log2 p) for p at least 1. -/
def ceilLog2 (p : Nat) : Nat := if p ≤ 1 then 0 else Nat.log2 (p - 1) + 1

/-- The exponent a contributor converts a block at (03 R97). -/
def contribExp (hist : Int) (p : Nat) : Nat := (max 7 (hist + 2 + ceilLog2 p)).toNat

/-- An integer at exponent A re-expressed at A' ≥ A (03 R72). -/
def reexpress (a a' : Nat) (n : Int) : Int := n / 2 ^ (a' - a)

/-- The exact value of a carry element. -/
def carryVal (a : Nat) (n : Int) : FVal := if a = 255 then .nan else FVal.ofInt n ((a : Int) - 157)

/-- The integer of 32 bits, little-endian two's complement. -/
def carryBytes (vs : List Int) : List Byte := vs.flatMap fun n => leBytes 4 (ofSigned 32 n)

/-- CONVERT to an MX format: the scale comes from the block's largest magnitude (04 R138); a block with a value that is
not finite is written non-finite (03 R69). -/
def mxConvert (f : ElemFormat) (mode : Rounding) (vs : List (FVal × Nat)) : MxBlock :=
  if vs.any fun (v, _) => match v with | .fin _ _ _ => false | _ => true then ⟨255, 0, 0⟩
  else
    let x : Int := match maxLog2 (vs.map (·.1)) with
      | none => -127
      | some k => k - f.emax
    mxTry f mode vs 512 (max x (-127)) 0

/-- The binary format of p significand bits and the exponent range of FP32 (08 R275). -/
def narrowed (p : Nat) : FpFormat := ⟨p, -126, 2 ^ p - 1, 127 - ((p : Int) - 1)⟩

/-- A value rounded to p bits and kept as FP32 (08 R275). -/
def roundNarrow (p : Nat) (mode : Rounding) (r : Nat) (v : FVal) : Nat :=
  match v with
  | .fin s m e =>
    if m = 0 then 0
    else match roundTo (narrowed p) mode r m e with
      | none => b2n s * 2 ^ 31 + 255 * 2 ^ 23
      | some (t, q) => toFp32 (.fin s t q)
  | w => toFp32 w

end Sys2Proof.Machine
end

