-- ==== Sys2Proof/Config.lean ====
section
/-! DEFINITION. What one module fixes and what the spec leaves open: constants without a body, so that nothing can be
proved from a value of theirs (log entries 6, 13, 14, 15). -/

namespace Sys2Proof.Config

/-- A byte the spec leaves undefined: the free value of draw `seed` at address `addr` (log entry 6). -/
opaque freeByte (seed addr : Nat) : Byte

/-- A 64-bit value the spec leaves open: the free value of draw `seed` (log entry 6). -/
opaque freeWord (seed : Nat) : BitVec 64

/-- VENDOR_ID, Jestaut's PCI vendor ID (13, object 0x1000 sub 1; log entry 14). -/
opaque vendorId : BitVec 16

/-- SERIAL (13, object 0x1000 sub 5; log entry 14). -/
opaque serial : BitVec 64

/-- HW_REVISION (13, object 0x1000 sub 6; log entry 14). -/
opaque hwRevision : BitVec 16

/-- Whether the module is a JZ2-1280-WL, the long-reach order number (00 R3; log entry 14). -/
opaque longReach : Bool

/-- CERT_CHAIN, the certificate chain (17 R567; log entry 14). -/
opaque certChain : List Byte

/-- M0, the SHAKE256 digest of the boot ROM, 64 bytes (17 R568; log entry 14). -/
opaque romMeasurement : List Byte

/-- The fused digest of signing key `k`, 64 bytes (17 R559; log entry 14). -/
opaque fusedKeyDigest (k : Nat) : List Byte

/-- The Jestaut debug key whose digest is fused (17 R572; log entry 14). -/
opaque debugKey : List Byte

/-- The bytes of DEBUG_CHALLENGE number `draw` (17 R572; log entry 15). -/
opaque randomByte (draw addr : Nat) : Byte

/-- The 288 bits of a traffic generator's PRBS31 (pattern 0) and walking-ones (pattern 3) sectors, whose seeding by the sector
address the spec does not state (07 R258; log entry 25). -/
opaque tgPattern (pattern seed sector : Nat) : BitVec 288

/-- The history byte that a drain of an MX block with a non-finite value writes: 03 R95 gives a byte for finite blocks alone. It
is a function of the byte before and of the block's accumulators, so that equal runs agree (03 R102; log entry 115). -/
opaque nonfiniteHist (hist : BitVec 8) (block : List (BitVec 640)) : BitVec 8

/-- Whether `sig` is a valid ML-DSA-65 signature of `msg` by public key `key` with context string `ctx` (17 R559, R572; log
entry 13). -/
opaque mldsaVerify (key msg ctx sig : List Byte) : Bool

/-- The ML-DSA-65 signature of `msg` with context string `ctx` under the module's identity key (17 R566, R570; log entry
13). -/
opaque mldsaSign (msg ctx : List Byte) : List Byte

/-- The bytes of the MCTP packet that answers `request` over Cavo from endpoint `eid` with a dictionary message (13 R472): the packet's
own layout is that of DMTF DSP0236, which the spec does not repeat (log entry 126). -/
opaque mctpPacket (eid : Nat) (request : List (BitVec 256)) (message : List Byte) : List Byte

/-- The bytes of a PTP message this module sends, Sync (or Announce), for a domain and an error bound (10 R369, R373): their layout
is that of IEEE 1588-2019, which the spec does not repeat (log entry 49). -/
opaque ptpMessage (sync : Bool) (domain bound : Nat) : List Byte

/-- The data of a PTP message's sectors with the time stamp of the frame that carries it, where the message has one (10 R370; log
entry 49). -/
opaque ptpStamped (message : List (BitVec 256)) (stamp : Nat) : List (BitVec 256)

end Sys2Proof.Config
end

