-- ==== Sys2Proof/Machine/Sparse.lean ====
section
/-! DEFINITION. Sparse maps from numbers as plain data: pairs with keys strictly rising and no pair at the default. The
dictionary's registers and every byte memory are kept so. -/

namespace Sys2Proof.Machine

variable {V : Type}

/-- The value at `k`, or `d` where no pair has the key. -/
def spGet (d : V) : List (Nat × V) → Nat → V
  | [], _ => d
  | (j, v) :: m, k => if k = j then v else if k < j then d else spGet d m k

/-- The map with the pair (k, v) in place of any pair at k. -/
def spInsert (k : Nat) (v : V) : List (Nat × V) → List (Nat × V)
  | [] => [(k, v)]
  | (j, w) :: m => if k < j then (k, v) :: (j, w) :: m else if k = j then (k, v) :: m else (j, w) :: spInsert k v m

/-- The map without a pair at k. -/
def spErase (k : Nat) : List (Nat × V) → List (Nat × V)
  | [] => []
  | (j, w) :: m => if k < j then (j, w) :: m else if k = j then m else (j, w) :: spErase k m

/-- The map with value v at k; the default is not listed. -/
def spSet [DecidableEq V] (d : V) (k : Nat) (v : V) (m : List (Nat × V)) : List (Nat × V) :=
  if v = d then spErase k m else spInsert k v m

/-- Every key of `m` is greater than `b`. -/
def spAbove (b : Nat) (m : List (Nat × V)) : Bool := m.all fun p => decide (b < p.1)

/-- Keys strictly rising. -/
def spSorted : List (Nat × V) → Bool
  | [] => true
  | (j, _) :: m => spAbove j m && spSorted m

/-- The canonical form: keys strictly rising, no pair at the default. -/
def spWf [DecidableEq V] (d : V) (m : List (Nat × V)) : Bool :=
  spSorted m && m.all fun p => decide (p.2 ≠ d)

end Sys2Proof.Machine
end

