-- ==== Sys2Proof/Machine/State.lean ====
section
/-! DEFINITION. The state of the module as plain data: every register, store, queue, counter, mode and pin the spec
gives it, and the queue of waiting commands. Each field cites the file and rule of spec/ that names it. -/

namespace Sys2Proof.Machine

open Sys2Proof

/-- Power and reset phase of the whole module (18 R575, R577, R581; 17 R563; 14 R499; 16 R557). -/
inductive Phase where
  | unpowered
  | held
  | recovery
  | active
  | halted
  deriving DecidableEq, Repr

/-- Servo state (02 R34 table). -/
inductive Servo where
  | unset
  | acquiring
  | locked
  | holdover
  deriving DecidableEq, Repr

/-- Run state of a function (13 R454). -/
inductive RunState where
  | stopped
  | starting
  | running
  | stopping
  deriving DecidableEq, Repr

/-- State of a Cavo link (10 R357). -/
inductive LinkState where
  | dark
  | training
  | up
  | hold
  | down
  | lockedOut
  deriving DecidableEq, Repr

/-- What the test access port answers: IEEE 1149.1 BYPASS or IDCODE, or another instruction (20 R623). -/
inductive TapInstr where
  | bypass
  | idcode
  | other
  deriving DecidableEq, Repr

/-- Shadow weight set of an array (04 R112). -/
inductive ShadowState where
  | empty
  | loading
  | ready
  deriving DecidableEq, Repr

/-- Where a taken task stands (12 R440, 04 R148). -/
inductive TaskState where
  | waiting
  | running
  | preempted
  deriving DecidableEq, Repr

/-- COMMIT_STATE 1 to 7 of a commit (13 R461). -/
inductive CommitPhase where
  | armed
  | waitTime
  | stopping
  | validating
  | waitBoundary
  | applying
  | restarting
  deriving DecidableEq, Repr

/-- Where a directory command stands (06 R220, R222, R227, R229). -/
inductive JobPhase where
  | queued
  | waitRefs
  | copying
  | digesting
  deriving DecidableEq, Repr

/-- State of a collective slot (11 SLOT_n). -/
inductive CollPhase where
  | waiting
  | running
  | ending
  deriving DecidableEq, Repr

/-- Why the Caller is to stop at the next measure boundary (02 R33, R39; 13 R454). -/
inductive StopCause where
  | holdover
  | step
  | runControl
  deriving DecidableEq, Repr

/-- The Count (kept apart: only the commands that may move it can). -/
structure Clock where
  /-- the Count, ticks of 1 ns (02 R26). -/
  count : BitVec 64
  /-- the Count has been set since it last started from 0 (02 R29). -/
  everSet : Bool
  /-- the Count is held for a source behind it (02 R632). -/
  held : Bool
  /-- ticks still to pass before the source's time reaches the held Count (02 R632). -/
  heldUntil : Nat
  /-- TCXO ticks since the clocks started, whether the Count moves or not (02 R27). -/
  ticks : Nat
  deriving DecidableEq, Repr

/-- Clock at reset. -/
def Clock.init : Clock :=
  ⟨0,
   false,
   false,
   0,
   0⟩

/-- One-time fuses (kept apart: only the fuse commands can change them). -/
structure Fuses where
  /-- fused security version 0-63; DESIGN CHOICE 0, entry 1 (17 R564). -/
  svn : Nat
  /-- revocation fuse of signing keys 0-3; DESIGN CHOICE 0, entry 1 (17 R565). -/
  revoked : BitVec 4
  deriving DecidableEq, Repr

/-- Fuses at reset. -/
def Fuses.init : Fuses :=
  ⟨0,
   0⟩

/-- Input pins as driven by the board. -/
structure Pins where
  /-- PERST_N level; input, DESIGN CHOICE high, entry 1 (18 R575, 20 R618). -/
  perstN : Bool
  /-- PWR_FAIL_N level; input, DESIGN CHOICE high, entry 1 (20 R615). -/
  pwrFailN : Bool
  /-- LASER_EN level; input, DESIGN CHOICE low (the recommended pull-down of R587), entry 1 (20 R628). -/
  laserEn : Bool
  /-- SLOT_ID strap level; input, DESIGN CHOICE 0, entry 1 (12 R446, 20 R619). -/
  slotId : BitVec 6
  /-- PARTNER_ROLE strap level; input, DESIGN CHOICE low, entry 1 (09 R310). -/
  role : Bool
  deriving DecidableEq, Repr

/-- Pins at reset. -/
def Pins.init : Pins :=
  ⟨true,
   true,
   false,
   0,
   false⟩

/-- An operating-point change under way (16 R534). -/
structure PointChange where
  /-- point asked for (16 R534). -/
  target : Nat
  /-- the core rail has reached its level and PASS issue is held (16 R534). -/
  railUp : Bool
  /-- cause of R544 when the change ends Surge (16 R544). -/
  cause : Nat
  deriving DecidableEq, Repr

/-- PointChange at reset. -/
def PointChange.init : PointChange :=
  ⟨1,
   false,
   0⟩

/-- The wear ledger (16 R553-R556). -/
structure Ledger where
  /-- wear units since manufacture, in 2^-64 unit; DESIGN CHOICE 0, entry 1 (16 R553). -/
  units : Nat
  /-- the module's operating seconds; DESIGN CHOICE 0, entry 1 (16 R556). -/
  seconds : Nat
  /-- Surge seconds of the last 24 hours, newest bin first (16 R554). -/
  surgeBins : List Nat
  /-- the ledger is ahead of schedule (16 R556). -/
  ahead : Bool
  deriving DecidableEq, Repr

/-- Ledger at reset. -/
def Ledger.init : Ledger :=
  ⟨0,
   0,
   List.replicate 24 0,
   false⟩

/-- Operating point, budgets, clamp, temperatures, wear (16). -/
structure Power where
  /-- phase of the module (18 R575). -/
  phase : Phase
  /-- operating hours, 1/16 s, from manufacture; DESIGN CHOICE 0, entry 1 (15 R510). -/
  opTime : Nat
  /-- power-cycle count; DESIGN CHOICE 0, entry 1 (15 R510). -/
  cycles : BitVec 20
  /-- change of point in progress (16 R534). -/
  change : Option PointChange
  /-- issue of new PASSes is held (16 R534). -/
  passHold : Bool
  /-- software placed the module at Reduced (16 R538). -/
  softReduced : Bool
  /-- TCXO tick at which Surge began (16 R544). -/
  surgeAt : Nat
  /-- operating time when the last Surge ended (16 R543). -/
  surgeEndAt : Option Nat
  /-- input-power samples (10 us) since the last change of point, newest first (16 R536). -/
  samples : List Nat
  /-- throttling has begun (16 R537). -/
  throttling : Bool
  /-- ms that throttling has kept array activity below 70% (16 R538). -/
  lowMs : Nat
  /-- ms without an inserted idle cycle and below 80% of POWER_BUDGET (16 R538). -/
  idleFreeMs : Nat
  /-- consecutive 100 us readings above 100 C (16 R547). -/
  hot100 : Nat
  /-- code 0x5110 written for this excursion (16 R547). -/
  hot100Noted : Bool
  /-- readings in a row with the die hot spot above 105 C (16 R547). -/
  hot105 : Nat
  /-- the over-current clamp is engaged (16 R541). -/
  clamp : Bool
  /-- TCXO tick when the clamp engaged (16 R541). -/
  clampAt : Nat
  /-- core clocks run up to cycAt, in thousandths (00 R8, 16 R533). -/
  cyc : Nat
  /-- TCXO tick at which the core clock last changed (00 R8, 16 R533). -/
  cycAt : Nat
  /-- core clocks run when the clamp engaged, in thousandths (00 R8, 04 R154). -/
  clampCyc : Nat
  /-- clamp stalls of the last second: end in TCXO ticks, length in ns (16 R544). -/
  clampWin : List (Nat × Nat)
  /-- seconds of estimated flow below 1.6 L/min (16 R551). -/
  flowLowSecs : Nat
  /-- seconds of estimated flow at 1.8 L/min or more while derated (16 R551). -/
  flowOkSecs : Nat
  /-- budget derated for low flow (16 R551). -/
  flowDerate : Bool
  /-- inlet above 45 C noted with code 0x5904 (14 R504). -/
  inlet45 : Bool
  /-- inlet below 20 C noted with code 0x5114 (16 R551). -/
  inlet20 : Bool
  /-- input voltage outside 48-58 V for 10 ms (16 R552). -/
  voltOut : Bool
  /-- the wear ledger as kept in SRAM (16 R553). -/
  ledger : Ledger
  /-- seconds since the ledger was last written to flash (16 R555). -/
  ledgerSecs : Nat
  deriving DecidableEq, Repr

/-- Power at reset. -/
def Power.init : Power :=
  ⟨.active,
   0,
   0,
   none,
   false,
   false,
   0,
   none,
   [],
   false,
   0,
   0,
   0,
   false,
   0,
   false,
   0,
   0,
   0,
   0,
   [],
   0,
   0,
   false,
   false,
   false,
   false,
   Ledger.init,
   0⟩

/-- One recorder image in flash (15 R520). -/
structure RecImage where
  /-- IMAGE_SEQ (15 R520). -/
  seq : Nat
  /-- CAUSE (15 R520). -/
  cause : Nat
  /-- CAUSE_VALUE (15 R520). -/
  causeValue : Nat
  /-- COUNT at the snapshot (15 R520). -/
  count : BitVec 64
  /-- HOURS (15 R520). -/
  hours : Nat
  /-- CYCLES (15 R520). -/
  cycles : BitVec 20
  /-- CLASS_TOTALS 1 to 9 (15 R520). -/
  classTotals : List Nat
  /-- the records, in record order (15 R520). -/
  records : List (BitVec 512)
  deriving DecidableEq, Repr

/-- RecImage at reset. -/
def RecImage.init : RecImage :=
  ⟨0,
   0,
   0,
   0,
   0,
   0,
   [],
   []⟩

/-- State of a recorder slot of the flash (15 R521). -/
inductive SlotState where
  | erased
  | used
  | invalid
  deriving DecidableEq, Repr

/-- One of seven recorder slots of the flash. -/
structure RecSlot where
  /-- erased, holding an image, or without a valid header; DESIGN CHOICE erased, entry 1 (15 R521). -/
  state : SlotState
  /-- the image (15 R520). -/
  image : Option RecImage
  deriving DecidableEq, Repr

/-- RecSlot at reset. -/
def RecSlot.init : RecSlot :=
  ⟨.erased,
   none⟩

/-- The configuration flash: survives loss of 54 V (16 R557). -/
structure Flash where
  /-- current saved image: values by object key; DESIGN CHOICE none, entry 1 (13 R469). -/
  image : Option (List (Nat × BitVec 64))
  /-- both images marked void (13 R471). -/
  voided : Bool
  /-- firmware slot 0, bytes; DESIGN CHOICE all zero, entry 1 (17 R558). -/
  fw0 : List Host.Cell
  /-- firmware slot 1, bytes; DESIGN CHOICE all zero, entry 1 (17 R558). -/
  fw1 : List Host.Cell
  /-- current firmware slot; DESIGN CHOICE 0, entry 1 (17 R558). -/
  currentSlot : Nat
  /-- pending firmware slot (17 R561). -/
  pendingSlot : Option Nat
  /-- the pending slot has had its one boot (17 R562). -/
  pendTried : Bool
  /-- recorder slots (15 R518). -/
  recSlots : List RecSlot
  /-- images written since manufacture; DESIGN CHOICE 0, entry 1 (15 R520). -/
  imageSeq : Nat
  /-- wear ledger as last written (16 R555). -/
  ledger : Ledger
  /-- the previous boot ended in recovery (17 R563). -/
  recoveryMark : Bool
  deriving DecidableEq, Repr

/-- Flash at reset. -/
def Flash.init : Flash :=
  ⟨none,
   false,
   [],
   [],
   0,
   none,
   false,
   List.replicate 7 RecSlot.init,
   0,
   Ledger.init,
   false⟩

/-- Boot, resets and bring-up. -/
structure Boot where
  /-- step 7 has been reached (18 R582). -/
  ready : Bool
  /-- slot booted; DESIGN CHOICE 0, entry 1 (17 BOOT_SLOT). -/
  bootSlot : Nat
  /-- firmware is running (end of step 1; cleared while it restarts, R500) (18 R582). -/
  fwRunning : Bool
  /-- this boot is the first of a pending slot (17 R562). -/
  fromPending : Bool
  /-- Memory_Active of the CXL DVSEC (18 R582). -/
  memoryActive : Bool
  /-- bring-up steps completed (18 R582). -/
  stepDone : Nat
  /-- the previous boot ended in recovery (17 BOOT_STATUS). -/
  prevRecovery : Bool
  /-- KEY_INDEX of the running image; DESIGN CHOICE 0, entry 1 (17 R565). -/
  runKey : Nat
  /-- I3C address: static 0x30 + SLOT_ID[3:0] until one is assigned (20 R622). -/
  i3cAddr : Nat
  /-- saved values changed and not yet written (13 R469). -/
  saveDirty : Bool
  /-- keys of saved values that took effect before bring-up step 6 (18 R585). -/
  early : List Nat
  /-- TCXO tick at which bring-up began (18 R583). -/
  beganAt : Nat
  /-- TCXO tick at which the bring-up step in progress began (18 R582). -/
  stepAt : Nat
  deriving DecidableEq, Repr

/-- Boot at reset. -/
def Boot.init : Boot :=
  ⟨false,
   0,
   false,
   false,
   false,
   0,
   false,
   0,
   0x30,
   false,
   [],
   0,
   0⟩

/-- One staged value (13 R458). -/
structure Staged where
  /-- object key (13 R458). -/
  key : Nat
  /-- value (13 R458). -/
  value : BitVec 64
  deriving DecidableEq, Repr

/-- Staged at reset. -/
def Staged.init : Staged :=
  ⟨0,
   0⟩

/-- A commit accepted or armed (13 R461, R462). -/
structure Commit where
  /-- COMMIT_STATE (13 R461). -/
  phase : CommitPhase
  /-- function set (13 R461). -/
  fset : BitVec 16
  /-- COMMIT_TIME (13 R461). -/
  time : BitVec 64
  /-- COMMIT figure carrying it out: 16 x Caller entry + measure mod 16 (13 R468). -/
  figure : Option Nat
  /-- deadline of the figure that drives it, a Count; else the TCXO tick at which COMMIT_TIMEOUT ends (13 R468). -/
  deadline : Nat
  /-- functions the commit stopped (13 R462). -/
  stopped : List Nat
  /-- measure boundary at which a Caller commit applies (13 R463). -/
  applyAt : Option Nat
  deriving DecidableEq, Repr

/-- Commit at reset. -/
def Commit.init : Commit :=
  ⟨.armed,
   0,
   0,
   none,
   0,
   [],
   none⟩

/-- A dictionary response (13 R473). -/
structure Response where
  /-- the requester (13 R473). -/
  writer : Writer
  /-- the 64-bit header: COMMAND + 0x80, TAG, the abort code or 0, LENGTH (13 R473, R477). -/
  header : BitVec 64
  /-- value (13 R473). -/
  value : List Byte
  deriving DecidableEq, Repr

/-- Response at reset. -/
def Response.init : Response :=
  ⟨⟨.i3c, 0⟩,
   0,
   []⟩

/-- The dictionary server. -/
structure Dict where
  /-- staging area (13 R458). -/
  staged : List Staged
  /-- its owner (13 R459). -/
  owner : Option Writer
  /-- STAGE_MODE of I3C, CXL, Cavo (13 R458). -/
  stageMode : List Bool
  /-- the commit armed or in progress (13 R462). -/
  commit : Option Commit
  /-- selector values by transport and index, unlisted at 0 (13 R451). -/
  selectors : List (Nat × Nat)
  /-- responses given, oldest first (13 R473). -/
  responses : List Response
  /-- responses over Cavo that have been given: flit, TCXO tick (13 R472; 19 R604). -/
  outbound : List (Flit × Nat)
  /-- abort code of the last request answered, 0 for success (13 R473). -/
  lastAbort : Nat
  /-- the end of the commit in progress frees the area (13 R460). -/
  releaseDue : Bool
  /-- operating second of the last staging write or write to 0x2010 by the owner (13 R460). -/
  idleAt : Nat
  deriving DecidableEq, Repr

/-- Dict at reset. -/
def Dict.init : Dict :=
  ⟨[],
   none,
   [false, false, false],
   none,
   [],
   [],
   [],
   0,
   false,
   0⟩

/-- The servo and its sources. -/
structure Timing where
  /-- SERVO_STATE (02 R34). -/
  servo : Servo
  /-- filtered offset of the source: source time minus Count, ticks (02 R33). -/
  offset : Int
  /-- error bound the source reports (02 R373). -/
  bound : Nat
  /-- consecutive intervals within 100 ns (02 R34). -/
  good : Nat
  /-- no valid source; DEDUCED true before a first time arrives (02 R31). -/
  lost : Bool
  /-- a step of the Count waits for the Caller to stop (02 R33). -/
  stepDue : Bool
  /-- Count at entry to HOLDOVER (02 R39). -/
  holdoverAt : Option Nat
  /-- TimeDegraded (02 R38). -/
  degraded : Bool
  /-- an edge has arrived since the timing started (02 R30). -/
  ppsSeen : Bool
  /-- TCXO tick of the last valid Sync (02 R31). -/
  syncAt : Nat
  /-- TCXO tick of the last edge (02 R30). -/
  ppsEdge : Nat
  /-- source time of the last edge, when known (02 R30). -/
  ppsTime : Option Nat
  /-- TOD_NEXT_PPS written since the last edge: value, Count of the write (02 R30). -/
  tod : Option (Nat × Nat)
  /-- TIME_PPS_OUT drive level (02 R29). -/
  ppsOut : Bool
  /-- Count at which TIME_PPS_OUT rose (02 R29). -/
  ppsOutAt : Nat
  /-- TCXO tick of the last slewed tick (02 R32). -/
  lastSlew : Nat
  /-- TCXO tick at which Sync left the master ports last (10 R369). -/
  syncSent : Option Nat
  /-- TCXO tick at which Announce left them last (10 R369). -/
  announced : Option Nat
  deriving DecidableEq, Repr

/-- Timing at reset. -/
def Timing.init : Timing :=
  ⟨.unset,
   0,
   0,
   0,
   true,
   false,
   none,
   false,
   false,
   0,
   0,
   none,
   none,
   false,
   0,
   0,
   none,
   none⟩

/-- A figure fired or late. -/
structure Fig where
  /-- Caller entry (02 R46). -/
  entry : Nat
  /-- DESC as it fired (02 R46). -/
  desc : BitVec 64
  /-- PARAM as it fired (02 R46). -/
  param : BitVec 64
  /-- measure of its firing (02 R47). -/
  measure : Nat
  /-- Count of its deadline (02 R47). -/
  deadline : Nat
  /-- Count at which its beat began (02 R52). -/
  fired : Nat
  /-- started, on time or late (02 R52). -/
  started : Bool
  /-- start held while a tensor moves (11 R389). -/
  heldMove : Bool
  deriving DecidableEq, Repr

/-- Fig at reset. -/
def Fig.init : Fig :=
  ⟨0,
   0,
   0,
   0,
   0,
   0,
   false,
   false⟩

/-- The Caller. -/
structure Caller where
  /-- the Caller may fire (02 R42). -/
  firing : Bool
  /-- figures in flight or late, in firing order (02 R47). -/
  figs : List Fig
  /-- the Caller stops at the next measure boundary (02 R39). -/
  stopDue : Option StopCause
  /-- REJOIN_MEASURE has been written and not used (02 R42). -/
  rejoinArmed : Bool
  /-- Count of the boundary at which the Caller last stopped (02 R42). -/
  stopAt : Option Nat
  /-- beat number (Count / 2^B) whose entries have fired (02 R51). -/
  lastBeat : Option Nat
  /-- collective count c of each Caller entry, unlisted at 0 (11 R391). -/
  counts : List (Nat × Nat)
  /-- measure whose boundary has been acted on (02 R39). -/
  lastMeasure : Option Nat
  /-- by flag: TCXO tick of its last increment and the highest entry that ended in that tick (02 R57). -/
  flagLast : List (Nat × Nat × Nat)
  deriving DecidableEq, Repr

/-- Caller at reset. -/
def Caller.init : Caller :=
  ⟨false,
   [],
   none,
   false,
   none,
   none,
   [],
   none,
   []⟩

/-- A range whose contents the spec leaves undefined. -/
structure Undef where
  /-- first device address (11 R413, 04 R121). -/
  start : Nat
  /-- bytes (11 R413, 04 R121). -/
  len : Nat
  /-- which free value it holds (entry 6) (MODEL). -/
  seed : Nat
  deriving DecidableEq, Repr

/-- Undef at reset. -/
def Undef.init : Undef :=
  ⟨0,
   0,
   0⟩

/-- Every addressed memory: tiers, Floor, core stores (06 R193). -/
structure Memory where
  /-- data bytes by device address; unlisted bytes read 0 (R201, R260, R576; before step 2 DESIGN CHOICE, entry 5) (06 R193). -/
  cells : List Host.Cell
  /-- check bytes at 4 x (address / 32) + i; unlisted read 0 (06 R205). -/
  check : List Host.Cell
  /-- undefined ranges (11 R413). -/
  undef : List Undef
  deriving DecidableEq, Repr

/-- Memory at reset. -/
def Memory.init : Memory :=
  ⟨[],
   [],
   []⟩

/-- Write-combining entry (06 R208). -/
structure WcEntry where
  /-- channel 0-255 or 256 + sub-channel (06 R208). -/
  unit : Nat
  /-- sector number (device address / 32) (06 R208). -/
  addr : Nat
  /-- bytes (06 R208). -/
  data : BitVec 256
  /-- byte mask (06 R208). -/
  mask : BitVec 32
  /-- TCXO tick of the first arrival (06 R208). -/
  since : Nat
  /-- the task that writes it: queue x 65,536 + CID (06 R212). -/
  task : Option Nat
  deriving DecidableEq, Repr

/-- WcEntry at reset. -/
def WcEntry.init : WcEntry :=
  ⟨0,
   0,
   0,
   0,
   0,
   none⟩

/-- Answer of a base die or buffer (07 R235). -/
structure MemAnswer where
  /-- channel or 256 + sub-channel (07 R235). -/
  unit : Nat
  /-- TAG (07 R235). -/
  tag : Nat
  /-- STATUS (07 R235). -/
  status : Nat
  /-- the 36 stored bytes of a READ (07 R235). -/
  sector : Option Sector
  /-- value of a REG_READ (07 R234). -/
  reg : Option (BitVec 64)
  deriving DecidableEq, Repr

/-- MemAnswer at reset. -/
def MemAnswer.init : MemAnswer :=
  ⟨0,
   0,
   0,
   none,
   none⟩

/-- A request held for a retrain hold or an update step (07 R242, 08 R290). -/
structure MemReq where
  /-- channel or 256 + sub-channel (07 R234). -/
  unit : Nat
  /-- request word (07 R234). -/
  word : BitVec 64
  /-- byte mask (07 R234). -/
  mask : BitVec 32
  /-- sector sent with it (07 R234). -/
  payload : Sector
  /-- TCXO tick of its arrival (08 MAX_HOLD). -/
  since : Nat
  deriving DecidableEq, Repr

/-- MemReq at reset. -/
def MemReq.init : MemReq :=
  ⟨0,
   0,
   0,
   ⟨0, 0⟩,
   0⟩

/-- A write of an engine held for an update step or a retrain hold (07 R242; 08 R291). -/
structure LateWrite where
  /-- sector number (08 R291). -/
  sector : Nat
  /-- the 36 bytes (08 R291). -/
  x : Sector
  /-- byte mask; all ones for a whole sector (06 R207). -/
  mask : BitVec 32
  /-- the task that wrote, its key (06 R212). -/
  task : Option Nat
  /-- TCXO tick of its arrival (08 MAX_HOLD). -/
  since : Nat
  deriving DecidableEq, Repr

/-- LateWrite at reset. -/
def LateWrite.init : LateWrite :=
  ⟨0,
   ⟨0, 0⟩,
   0,
   none,
   0⟩

/-- A channel being retrained (07 R242). -/
structure Retrain where
  /-- flat channel or 256 + u (07 R242). -/
  unit : Nat
  /-- second attempt (07 R247). -/
  second : Bool
  /-- outside a figure (07 R246). -/
  urgent : Bool
  /-- TCXO tick at which the hold began (07 HOLD_TICKS). -/
  since : Nat
  deriving DecidableEq, Repr

/-- Retrain at reset. -/
def Retrain.init : Retrain :=
  ⟨0,
   false,
   false,
   0⟩

/-- Channels a RETRAIN figure still owes (07 R243). -/
structure RetrainFig where
  /-- figure: 16 x Caller entry + measure mod 16 (07 R243). -/
  entry : Nat
  /-- units still to retrain, ascending (07 R243). -/
  todo : List Nat
  deriving DecidableEq, Repr

/-- RetrainFig at reset. -/
def RetrainFig.init : RetrainFig :=
  ⟨0,
   []⟩

/-- Corrected or uncorrectable sectors of one channel in the last hour (07 R256). -/
structure HourCount where
  /-- one-minute bins, newest first (07 R256). -/
  bins : List Nat
  /-- recently counted addresses, newest first (07 R256). -/
  recent : List Nat
  deriving DecidableEq, Repr

/-- HourCount at reset. -/
def HourCount.init : HourCount :=
  ⟨List.replicate 60 0,
   []⟩

/-- Patrol scrub of one tier (07 R248). -/
structure Patrol where
  /-- next device address; the slow pointer starts at 0x080_0000_0000 (07 R248). -/
  pointer : Nat
  /-- TCXO tick at which the pass began (07 R248). -/
  startAt : Nat
  /-- SCRUB_PERIOD in effect when the pass began (07 R248). -/
  period : Nat
  /-- earliest time of the next read, in thousandths of a TCXO tick (07 R249). -/
  nextAt : Nat
  /-- code 0x1711 written for this pass (07 R250). -/
  behind : Bool
  /-- the patrols start at the end of bring-up step 2 (18 R582). -/
  active : Bool
  deriving DecidableEq, Repr

/-- Patrol at reset. -/
def Patrol.init : Patrol :=
  ⟨0,
   0,
   14400,
   0,
   false,
   false⟩

/-- Traffic generator of one channel (07 R258). -/
structure Tg where
  /-- TG_PATTERN (07 R258). -/
  pattern : Nat
  /-- TG_MODE (07 R258). -/
  mode : Nat
  /-- TG_START (07 R258). -/
  start : Nat
  /-- TG_COUNT (07 R258). -/
  count : Nat
  /-- TG_SEED (07 R258). -/
  seed : Nat
  /-- TG_STATUS (07 R258). -/
  status : Nat
  /-- TG_ERRORS (07 R258). -/
  errors : Nat
  /-- TG_FIRST_FAIL (07 R258). -/
  first : BitVec 64
  deriving DecidableEq, Repr

/-- Tg at reset. -/
def Tg.init : Tg :=
  ⟨0,
   0,
   0,
   0,
   1,
   0,
   0,
   0⟩

/-- Running the tiers (06, 07). -/
structure MemOps where
  /-- write-combining entries, oldest first (06 R208). -/
  wc : List WcEntry
  /-- answers on their way to the compute die (07 R235). -/
  answers : List MemAnswer
  /-- requests held (07 R242). -/
  held : List MemReq
  /-- writes of engines held, oldest first (08 R291). -/
  late : List LateWrite
  /-- 0 normal, 1 hot, 2 capped, 3 lost of stacks 0-7 and packages 8-19 (07 R252). -/
  thermal : List Nat
  /-- TCXO tick + 1 since which a unit reads below 92 °C, unlisted not (07 R252). -/
  below92 : List (Nat × Nat)
  /-- TCXO tick + 1 since which a unit reads below 83 °C, unlisted not (07 R252). -/
  below83 : List (Nat × Nat)
  /-- lost units and reasons: stacks 0-7, buffers 8-13, packages 14-25 (07 R261). -/
  lost : List (Nat × Nat)
  /-- refresh debt of each pseudo-channel (2c, 2c+1) and sub-channel (512+u); unlisted 0 (07 R239). -/
  debt : List (Nat × Nat)
  /-- pseudo-channels whose debt reached 4 and is not yet 0 (07 R239). -/
  precedence : List Nat
  /-- channels in a retrain hold (07 R242). -/
  training : List Retrain
  /-- channels RETRAIN figures still owe (07 R243). -/
  figTodo : List RetrainFig
  /-- channels with a drift alarm (07 R245). -/
  alarms : List Nat
  /-- TCXO tick of each channel's last retrain (07 R245). -/
  trainedAt : List (Nat × Nat)
  /-- distinct corrected sectors per unit (07 R256). -/
  ce : List (Nat × HourCount)
  /-- confirmed uncorrectable sectors per unit (07 R256). -/
  ue : List (Nat × HourCount)
  /-- transit errors of this second: stacks 0-7, buffers 8-13 (07 R257). -/
  transit : List (Nat × Nat)
  /-- fast patrol (07 R248). -/
  patrolFast : Patrol
  /-- slow patrol (07 R248). -/
  patrolSlow : Patrol
  /-- traffic generators, unlisted idle at their defaults (07 R258). -/
  tgs : List (Nat × Tg)
  deriving DecidableEq, Repr

/-- MemOps at reset. -/
def MemOps.init : MemOps :=
  ⟨[],
   [],
   [],
   [],
   List.replicate 20 0,
   [],
   [],
   [],
   [],
   [],
   [],
   [],
   [],
   [],
   [],
   [],
   [],
   Patrol.init,
   { Patrol.init with pointer := 0x8000000000, period := 28800 },
   []⟩

/-- A directory command taken (06 R219, R220). -/
structure DirJob where
  /-- command sector (06 R219). -/
  cmd : BitVec 256
  /-- entry image of CREATE and SET_ATTR (06 R219). -/
  image : BitVec 256
  /-- submission queue, none for an internal command (12 R438). -/
  queue : Option Nat
  /-- CID (12 R438). -/
  cid : Nat
  /-- IRQ (12 R438). -/
  irq : Bool
  /-- progress (06 R220). -/
  phase : JobPhase
  /-- the entry as it stood before the command (06 R225). -/
  before : BitVec 256
  deriving DecidableEq, Repr

/-- DirJob at reset. -/
def DirJob.init : DirJob :=
  ⟨0,
   0,
   none,
   0,
   false,
   .queued,
   0⟩

/-- A weight set loaded into one array (04 R112). -/
structure WeightSet where
  /-- the LOAD_W command, kept for reloads (R148) (04 R147). -/
  cmd : BitVec 256
  /-- the rows of the image (04 R113). -/
  rows : List (List Byte)
  /-- the scale bytes, row-block order (04 R110). -/
  scales : List Byte
  deriving DecidableEq, Repr

/-- WeightSet at reset. -/
def WeightSet.init : WeightSet :=
  ⟨0,
   [],
   []⟩

/-- An armed drain (04 R131, R132). -/
structure DrainArm where
  /-- the DRAIN command (04 R147). -/
  cmd : BitVec 256
  /-- vectors drained since it was armed (04 R132). -/
  done : Nat
  deriving DecidableEq, Repr

/-- DrainArm at reset. -/
def DrainArm.init : DrainArm :=
  ⟨0,
   0⟩

/-- A pass in flight or not yet published (04 R121). -/
structure PassFlight where
  /-- the PASS command (04 R147). -/
  cmd : BitVec 256
  /-- bytes to publish: core-store byte addresses, bytes (04 R121). -/
  writes : List (Nat × BitVec 8)
  /-- history bytes to write back, core-store byte addresses (04 R133). -/
  hist : List (Nat × BitVec 8)
  /-- core-store byte ranges undefined if the pass does not end (04 R121). -/
  regions : List (Nat × Nat)
  /-- recorder codes and values of its drain (03 R82, R83). -/
  notes : List (Nat × Nat)
  deriving DecidableEq, Repr

/-- PassFlight at reset. -/
def PassFlight.init : PassFlight :=
  ⟨0,
   [],
   [],
   [],
   []⟩

/-- One matrix array (04). -/
structure Array where
  /-- active set (04 R112). -/
  active : Option WeightSet
  /-- shadow state (04 R112). -/
  shadow : ShadowState
  /-- set in the shadow (04 R112). -/
  shadowSet : Option WeightSet
  /-- N of the open accumulation group (04 R120). -/
  group : Option Nat
  /-- accumulator lines, unlisted zero (04 R119). -/
  lines : List (List Acc)
  /-- armed drain (04 R131). -/
  drain : Option DrainArm
  /-- passes not yet published (04 R121). -/
  flight : List PassFlight
  deriving DecidableEq, Repr

/-- Array at reset. -/
def Array.init : Array :=
  ⟨none,
   .empty,
   none,
   none,
   [],
   none,
   []⟩

/-- A VOP in flight (04 R150). -/
structure VopFlight where
  /-- the VOP command (04 R147). -/
  cmd : BitVec 256
  /-- core-store bytes to be produced (05 R179). -/
  writes : List (Nat × BitVec 8)
  /-- recorder codes and values (03 R75). -/
  notes : List (Nat × Nat)
  /-- groups of 512 elements whose results are in the core store: how far it had come when a pre-emption stopped it (04 R150). -/
  done : Nat
  /-- 640-bit sum of an EXACT operation after each 512 elements (04 R150). -/
  sums : List (BitVec 640)
  deriving DecidableEq, Repr

/-- VopFlight at reset. -/
def VopFlight.init : VopFlight :=
  ⟨0,
   [],
   [],
   0,
   []⟩

/-- A far request in flight (05 R173). -/
structure FarReq where
  /-- stream-order position (05 R174). -/
  pos : Nat
  /-- far sector number (device address / 32); none for a skipped row (05 R165). -/
  far : Option Nat
  /-- far offset (05 R167). -/
  off : Int
  /-- sector as it stood when read (05 R162). -/
  sector : Sector
  deriving DecidableEq, Repr

/-- FarReq at reset. -/
def FarReq.init : FarReq :=
  ⟨0,
   none,
   0,
   ⟨0, 0⟩⟩

/-- A stream running or queued (05 R164). -/
structure Stream where
  /-- descriptor header (05 R164). -/
  hdr : BitVec 256
  /-- address program (05 R166). -/
  prog : List (BitVec 64)
  /-- index descriptor (05 R169). -/
  index : BitVec 256
  /-- pc (05 R167). -/
  pc : Nat
  /-- offset (05 R167). -/
  off : Int
  /-- c[k] (05 R167). -/
  loopC : List Nat
  /-- o[k] (05 R167). -/
  loopO : List Int
  /-- top[k] (05 R167). -/
  loopTop : List Nat
  /-- next index of the list (05 R170). -/
  idxPos : Nat
  /-- the program or list has ended (05 R167). -/
  ended : Bool
  /-- far offsets named and not yet requested; none a null row (05 R167). -/
  todo : List (Option Int)
  /-- sectors named so far (05 R167). -/
  emitted : Nat
  /-- sectors requested (05 R173). -/
  requested : Nat
  /-- requests in flight (05 R173). -/
  inFlight : List FarReq
  /-- positions arrived and not yet filled, with their far offsets (05 R174). -/
  arrived : List (Nat × Option Int)
  /-- sectors filled in stream order (05 R174). -/
  filled : Nat
  /-- ring sectors freed (05 R175). -/
  freed : Nat
  /-- sectors produced (05 R179). -/
  produced : Nat
  /-- sectors sent (05 R179). -/
  sent : Nat
  /-- writes accepted (05 R179). -/
  accepted : Nat
  /-- byte-valid masks of partly written near sectors (05 R187). -/
  masks : List (Nat × BitVec 32)
  /-- held on a moving tensor (05 R161). -/
  held : Bool
  /-- stopped (05 R182). -/
  stopped : Bool
  /-- suspended (05 R190). -/
  suspended : Bool
  /-- holds a reference to its tensor (05 R161). -/
  hasRef : Bool
  /-- ring positions read by the consumer behind an unfreed one (05 R175). -/
  taken : List Nat
  /-- TCXO tick since which an update step holds the next access (08 R290, R291). -/
  heldAt : Option Nat
  deriving DecidableEq, Repr

/-- Stream at reset. -/
def Stream.init : Stream :=
  ⟨0,
   [],
   0,
   0,
   0,
   List.replicate 6 0,
   List.replicate 6 0,
   List.replicate 6 0,
   0,
   false,
   [],
   0,
   0,
   [],
   [],
   0,
   0,
   0,
   0,
   0,
   [],
   false,
   false,
   false,
   false,
   [],
   none⟩

/-- A stream engine (05). -/
structure Engine where
  /-- running stream (05 R159). -/
  run : Option Stream
  /-- queued stream (05 R159). -/
  queued : Option Stream
  /-- the read stream that completed last, whose filled sectors its consumer may still take (05 R174, R181). -/
  last : Option Stream
  /-- faulted (05 ENGINE_STATUS). -/
  faulted : Bool
  deriving DecidableEq, Repr

/-- Engine at reset. -/
def Engine.init : Engine :=
  ⟨none,
   none,
   none,
   false⟩

/-- A core (04). -/
structure Core where
  /-- task running: queue x 65,536 + CID (12 R440). -/
  task : Option Nat
  /-- 0 idle, 1 running, 2 waiting, 3 pre-empting, 4 aborted (04 CORE_STATUS). -/
  status : Nat
  /-- last wait outcome (04 CORE_STATUS). -/
  outcome : Nat
  /-- PROG_ADDR of the task (12 R439). -/
  base : Nat
  /-- command index (04 CORE_STATUS). -/
  pc : Nat
  /-- LOOP counters (04 R147). -/
  ctrs : List Nat
  /-- ganged (04 R126). -/
  gang : Bool
  /-- partition mode of A0-A3 (04 R122). -/
  part : List Nat
  /-- SHARE of A0-A3 (04 R124). -/
  share : List Bool
  /-- partition table sectors; DESIGN CHOICE 0, entry 1 (04 R125). -/
  ptab : List Nat
  /-- A0-A3 (04). -/
  arrays : List Array
  /-- VOPs in issue order (04 R142). -/
  vops : List VopFlight
  /-- stream engines 0-3 (05). -/
  engines : List Engine
  /-- TCXO tick at which the waiting command issued (04 R144). -/
  waitAt : Option Nat
  /-- TIMEOUT of the waiting command, beats (04 R144). -/
  waitTmo : Nat
  /-- a pre-emption has been requested (04 R148). -/
  preempting : Bool
  /-- Count of the request (04 R149). -/
  preemptAt : Nat
  /-- core clocks run at the request, in thousandths (00 R8, 04 R149). -/
  preemptCyc : Nat
  /-- the task that pre-empts it: queue x 65,536 + CID (12 R440). -/
  claim : Option Nat
  deriving DecidableEq, Repr

/-- Core at reset. -/
def Core.init : Core :=
  ⟨none,
   0,
   0,
   0,
   0,
   [0, 0, 0, 0],
   false,
   [0, 0, 0, 0],
   [false, false, false, false],
   [0, 0, 0, 0],
   List.replicate 4 Array.init,
   [],
   List.replicate 4 Engine.init,
   none,
   0,
   false,
   0,
   0,
   none⟩

/-- A task taken from a queue (12 R439). -/
structure Task where
  /-- queue (12 R439). -/
  queue : Nat
  /-- the submission entry (12 R438). -/
  body : BitVec 1024
  /-- waiting, running or pre-empted (12 R440). -/
  state : TaskState
  /-- cores that have run END (04 R147). -/
  ended : List Nat
  /-- saved state of pre-empted cores (04 R148). -/
  saved : List (Nat × Core)
  /-- phase in which it was pre-empted (09 R336). -/
  phase : Nat
  /-- sectors of core stores and the Floor that its passes, VOPs and streams have written (03 R104, 04 R152). -/
  stored : List Nat
  /-- tensors that its streams have written (03 R104, 05 R192). -/
  tensors : List Nat
  deriving DecidableEq, Repr

/-- Task at reset. -/
def Task.init : Task :=
  ⟨0,
   0,
   .waiting,
   [],
   [],
   1,
   [],
   []⟩

/-- A submission and completion queue pair (12 R436, R437). -/
structure Queue where
  /-- tail doorbell (12 R425). -/
  tail : Nat
  /-- head index (12 R436). -/
  head : Nat
  /-- completion entries posted, ring index (12 R443). -/
  cqTail : Nat
  /-- completion head doorbell (12 R425). -/
  cqHead : Nat
  /-- PHASE of the next entry (12 R443). -/
  cqPhase : Bool
  /-- completion buffer: entry, IRQ (12 R437). -/
  buf : List (BitVec 128 × Bool)
  /-- CIDs taken and not completed (12 R438). -/
  open_ : List Nat
  /-- BARRIERs waiting: CID, IRQ, CIDs they wait on (12 R438). -/
  barriers : List (Nat × Bool × List Nat)
  /-- head entry waiting (12 QUEUE_STATE). -/
  waiting : Bool
  /-- held on a full completion buffer (12 R437). -/
  heldFull : Bool
  /-- completions posted since the vector fired (12 R445). -/
  coalesced : Nat
  /-- COALESCE_TIME is running (12 R445). -/
  timer : Bool
  /-- TCXO tick of the first completion posted since the vector fired (12 R445). -/
  firstAt : Nat
  /-- CIDs whose completion has been posted (START 4) (12 R440). -/
  done : List Nat
  deriving DecidableEq, Repr

/-- Queue at reset. -/
def Queue.init : Queue :=
  ⟨0,
   0,
   0,
   0,
   true,
   [],
   [],
   [],
   false,
   false,
   0,
   false,
   0,
   []⟩

/-- An HDM decoder (12 R427). -/
structure Decoder where
  /-- committed (12 R427). -/
  committed : Bool
  /-- host base (12 R427). -/
  base : Nat
  /-- bytes (12 R427). -/
  size : Nat
  /-- first CXL DPA (12 R427). -/
  dpa : Nat
  /-- last commit failed (12 R427). -/
  failed : Bool
  deriving DecidableEq, Repr

/-- Decoder at reset. -/
def Decoder.init : Decoder :=
  ⟨false,
   0,
   0,
   0,
   false⟩

/-- Data returned to a host CXL.mem read. -/
structure HostRead where
  /-- CXL DPA of the line (12 R431). -/
  dpa : Nat
  /-- 64 bytes (12 R431). -/
  data : BitVec 512
  deriving DecidableEq, Repr

/-- HostRead at reset. -/
def HostRead.init : HostRead :=
  ⟨0,
   0⟩

/-- A host access held by an update step or a snoop (08 R290, 12 R429). -/
structure HostAcc where
  /-- write (08 R291). -/
  write : Bool
  /-- CXL DPA (12 R426). -/
  dpa : Nat
  /-- write data (12 R428). -/
  data : BitVec 512
  /-- byte enables (12 R428). -/
  mask : BitVec 64
  /-- how the host holds the line afterwards: 0 not at all, 1 unmodified, 2 possibly modified (12 R429). -/
  cache : Nat
  deriving DecidableEq, Repr

/-- HostAcc at reset. -/
def HostAcc.init : HostAcc :=
  ⟨false,
   0,
   0,
   0,
   0⟩

/-- The CXL port and the queue engine (12). -/
structure HostIf where
  /-- host link up (12 R422). -/
  up : Bool
  /-- operating time at which it went down (12 R423). -/
  downAt : Option Nat
  /-- queue pairs (12 R436). -/
  queues : List Queue
  /-- completions written to host memory: queue, entry, oldest first (12 R443). -/
  posted : List (Nat × BitVec 128)
  /-- MSI-X vectors signalled, oldest first (12 R444). -/
  irqs : List Nat
  /-- Count (ms) at which vectors 16-22 last fired (12 R445). -/
  vecAt : List (Nat × Nat)
  /-- the MSI-X table is in its cleared state (18 R578). -/
  msixClear : Bool
  /-- snoop filter: line (DPA / 64), host may hold it modified; oldest first (12 R429). -/
  snoop : List (Nat × Bool)
  /-- back-invalidate snoops unanswered and the access waiting on each (12 R429). -/
  snoopWait : List (Nat × Option HostAcc)
  /-- host accesses held by an update step (08 R290). -/
  waitAcc : List HostAcc
  /-- read data returned, oldest first (12 R431). -/
  reads : List HostRead
  /-- General Media event records: CXL DPAs (12 R431). -/
  media : List Nat
  /-- HDM decoders (12 R427). -/
  decoders : List Decoder
  /-- LINKDOWN_CANCEL has acted in this link-down (12 R423). -/
  cancelled : Bool
  /-- lanes that have failed since the link came up (12 R421). -/
  badLanes : BitVec 16
  /-- TCXO tick at which each unanswered snoop was sent: line, tick (12 R430). -/
  snoopSent : List (Nat × Nat)
  /-- queue from which an entry was taken last (12 R436). -/
  served : Nat
  deriving DecidableEq, Repr

/-- HostIf at reset. -/
def HostIf.init : HostIf :=
  ⟨false,
   none,
   List.replicate 16 Queue.init,
   [],
   [],
   [],
   true,
   [],
   [],
   [],
   [],
   [],
   List.replicate 4 Decoder.init,
   false,
   0,
   [],
   15⟩

/-- Per-lane registers of one block in an update unit (08 R271). -/
structure Lane where
  /-- f0-f15 (08 R271). -/
  f : List (BitVec 32)
  /-- the lane's delta (08 R272). -/
  delta : BitVec 32
  deriving DecidableEq, Repr

/-- Lane at reset. -/
def Lane.init : Lane :=
  ⟨List.replicate 16 0,
   0⟩

/-- A block being processed in an update step (08 R277). -/
structure BlockRun where
  /-- SET (08 R284). -/
  set_ : Nat
  /-- BLOCK (08 R284). -/
  block : Nat
  /-- EXP (08 R284). -/
  exp : Nat
  /-- PART (08 R284). -/
  part : Nat
  /-- gradient integers or deltas (08 R284). -/
  payload : List Sector
  /-- lanes (08 R264). -/
  lanes : List Lane
  /-- state slots read, then as stored: slot j lane i at 32j + i (08 R268). -/
  state : List (BitVec 32)
  /-- the block is skipped (08 R296). -/
  skip : Bool
  deriving DecidableEq, Repr

/-- BlockRun at reset. -/
def BlockRun.init : BlockRun :=
  ⟨0,
   0,
   0,
   0,
   [],
   List.replicate 32 Lane.init,
   [],
   false⟩

/-- An update unit: bank unit c (0-255) or Lomlek unit 256 + b (08 R264). -/
structure UpdUnit where
  /-- blocks waiting (08 R284). -/
  queue : List BlockRun
  /-- blocks of the running update step (08 R287). -/
  step : List BlockRun
  /-- next instruction of the step (08 R270). -/
  ip : Nat
  /-- the boundary it stands at has been given to a refresh, a retrain or a commit, and counted (the model's own) (08 R288). -/
  gave : Bool
  deriving DecidableEq, Repr

/-- UpdUnit at reset. -/
def UpdUnit.init : UpdUnit :=
  ⟨[],
   [],
   0,
   false⟩

/-- A set between BEGUN and APPLIED (08 R293). -/
structure SetRun where
  /-- set (08 R293). -/
  set_ : Nat
  /-- step values t0-t7 (08 R271). -/
  t : List (BitVec 32)
  /-- NSQ used (08 R293). -/
  nsq : BitVec 32
  /-- next block to dispatch (08 R284). -/
  next : Nat
  /-- blocks whose moment part has not been written (08 R293). -/
  moments : Nat
  /-- blocks whose master part has not been written (08 R293). -/
  masters : Nat
  /-- code 0x2405 written in this step (08 R297). -/
  noted : Bool
  /-- stopped by a fault of the update function (08 R298). -/
  torn : Bool
  deriving DecidableEq, Repr

/-- SetRun at reset. -/
def SetRun.init : SetRun :=
  ⟨0,
   List.replicate 8 0,
   0,
   0,
   0,
   0,
   false,
   false⟩

/-- A delta block on its way to a Lomlek unit (08 R285). -/
structure Delta where
  /-- set (08 R284). -/
  set_ : Nat
  /-- block (08 R284). -/
  block : Nat
  /-- deltas (08 R284). -/
  values : List (BitVec 32)
  deriving DecidableEq, Repr

/-- Delta at reset. -/
def Delta.init : Delta :=
  ⟨0,
   0,
   []⟩

/-- Assembly-buffer sector (08 R286). -/
structure Asm where
  /-- sector number (08 R286). -/
  addr : Nat
  /-- bytes (08 R286). -/
  data : BitVec 256
  /-- bytes present (08 R286). -/
  mask : BitVec 32
  deriving DecidableEq, Repr

/-- Asm at reset. -/
def Asm.init : Asm :=
  ⟨0,
   0,
   0⟩

/-- Update engines (08). -/
structure Update where
  /-- update units, unlisted idle (08 R264). -/
  units : List (Nat × UpdUnit)
  /-- sets in progress (08 R293). -/
  sets : List SetRun
  /-- delta queues (08 R285). -/
  deltas : List Delta
  /-- assembly buffer, oldest first (08 R286). -/
  assembly : List Asm
  /-- sets triggered in the open step (08 R281). -/
  triggered : List Nat
  /-- kept triggers, in set order (08 R282). -/
  kept : List Nat
  /-- sets whose landing has been received in the open step (08 R295). -/
  landed : List Nat
  /-- clip accumulators (08 R299). -/
  clipAcc : List Acc
  /-- the clip tensor has been written (08 R300). -/
  clipReady : List Bool
  /-- the group has its NSQ (08 R301). -/
  nsqValid : List Bool
  deriving DecidableEq, Repr

/-- Update at reset. -/
def Update.init : Update :=
  ⟨[],
   [],
   [],
   [],
   [],
   [],
   [],
   List.replicate 4 Acc.zero,
   [false, false, false, false],
   [false, false, false, false]⟩

/-- A restore or seeding in progress (09 R326, R327). -/
structure RestoreRun where
  /-- RESTORE_CONTROL that started it (09 R326). -/
  kind : Nat
  /-- sets still to send (09 R326). -/
  sets : List Nat
  /-- mirror sets being reapplied first (09 R326). -/
  waitApply : List Nat
  /-- sets received (09 R326). -/
  got : List Nat
  deriving DecidableEq, Repr

/-- RestoreRun at reset. -/
def RestoreRun.init : RestoreRun :=
  ⟨0,
   [],
   [],
   []⟩

/-- A tensor digest in progress (09 R331). -/
structure DigestRun where
  /-- DIGEST figure: 16 x Caller entry + measure mod 16 (09 R331). -/
  entry : Nat
  /-- tensor (09 R331). -/
  tensor : Nat
  /-- computed (09 R331). -/
  done : Bool
  /-- marked invalid (09 R332). -/
  invalid : Bool
  /-- tensor digest (09 R329). -/
  digest : BitVec 128
  /-- block digests (09 R329). -/
  blocks : List (BitVec 128)
  /-- the partner's tensor id and block digests (09 R331). -/
  partner : Option (Nat × List (BitVec 128))
  /-- blocks at which this module disagrees with its replica majority (09 R333). -/
  disagrees : List Nat
  /-- blocks to be repaired here (09 R333). -/
  awaits : List Nat
  deriving DecidableEq, Repr

/-- DigestRun at reset. -/
def DigestRun.init : DigestRun :=
  ⟨0,
   0,
   false,
   false,
   0,
   [],
   none,
   [],
   []⟩

/-- A PHASE figure in progress (09 R336). -/
structure PhaseRun where
  /-- figure: 16 x Caller entry + measure mod 16 (09 R336). -/
  entry : Nat
  /-- phase switched to (09 R336). -/
  target : Nat
  /-- Count of its firing (09 R336). -/
  at_ : Nat
  /-- functions it stopped (09 R336). -/
  stopped : List Nat
  deriving DecidableEq, Repr

/-- PhaseRun at reset. -/
def PhaseRun.init : PhaseRun :=
  ⟨0,
   0,
   0,
   []⟩

/-- Training state (09). -/
structure Training where
  /-- JOB_SEED in effect for the open step (03 R89). -/
  seed : BitVec 64
  /-- retained landing tensors (09 R322). -/
  retained : List Nat
  /-- restore in progress (09 R326). -/
  restore : Option RestoreRun
  /-- digests of DIGEST figures (09 R331). -/
  digests : List DigestRun
  /-- phase switch in progress (09 R336). -/
  phase : Option PhaseRun
  /-- landings to send: set, LANDING tensor, in order of completion (09 R313). -/
  promenade : List (Nat × Nat)
  /-- PROMENADE_SYNC figure waiting for the partner: 16 x Caller entry + measure mod 16 (09 R316). -/
  syncEntry : Option Nat
  deriving DecidableEq, Repr

/-- Training at reset. -/
def Training.init : Training :=
  ⟨0,
   [],
   none,
   [],
   none,
   [],
   none⟩

/-- A frame kept for replay (10 R350). -/
structure Frame where
  /-- FRAME_NO (10 R346). -/
  no : Nat
  /-- flits (10 R344). -/
  flits : List Flit
  /-- frame slot as it was last sent (10 R346). -/
  slot : BitVec 640
  deriving DecidableEq, Repr

/-- Frame at reset. -/
def Frame.init : Frame :=
  ⟨0,
   [],
   0⟩

/-- A Cavo link (10). -/
structure Link where
  /-- state (10 R357). -/
  state : LinkState
  /-- TCXO tick at which the link entered its state (10 R357, R376). -/
  stateAt : Nat
  /-- TCXO tick at which training ended last (10 R376). -/
  upAt : Nat
  /-- last reason (10 R374). -/
  reason : Nat
  /-- NODE of the far end (10 R346). -/
  farNode : Nat
  /-- LINK of the far end (10 R346). -/
  farLink : Nat
  /-- the far end's TRANSIT_OFF (10 R377). -/
  farTransitOff : Bool
  /-- has gone down once (10 R376). -/
  everDown : Bool
  /-- usable for routing (10 R376). -/
  usable : Bool
  /-- operating seconds of the last downs (10 R376). -/
  downTimes : List Nat
  /-- RTT, ticks; DESIGN CHOICE 0 before a first measurement, entry 1 (10 R346). -/
  rtt : Nat
  /-- number of the next frame sent (10 R346). -/
  txNo : Nat
  /-- last frame received good in order (ACK_NO) (10 R346). -/
  rxNo : Nat
  /-- a frame has been received since training (10 R346). -/
  rxAny : Bool
  /-- replay asked for (10 R350). -/
  nak : Bool
  /-- NAKs in a row of the same frame (10 R351). -/
  nakRun : Nat
  /-- that frame (10 R351). -/
  nakFrame : Nat
  /-- transmit replay store (10 R350). -/
  replay : List Frame
  /-- numbers of the frames after ACK_NO that are still to be sent again (10 R350). -/
  replaying : List Nat
  /-- frame that is being sent again (10 R350). -/
  again : Option Frame
  /-- flit positions of it already sent (10 R350, R355). -/
  againPos : Nat
  /-- dedicated credits: VL0, VL1 c0, c1, VL2 c0, c1, VL3 c0, c1 (10 R353). -/
  cred : List Nat
  /-- shared credits held (10 R353). -/
  shared : Nat
  /-- shared slots of the far receiver (10 R353). -/
  sharedAll : Nat
  /-- shared credits used by VL1, VL2 and VL3 (10 R353). -/
  sharedLow : Nat
  /-- credits to return in the next frame slot, dedicated then shared (10 R346). -/
  ret : List Nat
  /-- flits waiting to be sent, oldest first (10 R355). -/
  txq : List Flit
  /-- flits placed in the frame being filled (10 R344). -/
  cur : List Flit
  /-- frame slot of the frame being filled (10 R346). -/
  slot : BitVec 640
  /-- frame that left the fibre last (10 R344). -/
  wire : Option Frame
  /-- the Sit-out token is due in the next flit position (10 R356). -/
  tokenDue : Bool
  /-- VL3 flits placed in this frame (10 R355). -/
  vl3InFrame : Nat
  /-- position within the window of 100 (11 R399). -/
  winPos : Nat
  /-- TAG of the collective that sent last (11 R399). -/
  colTurn : Nat
  /-- flits in the receive buffer (10 R353). -/
  rx : List Flit
  /-- the VL2 class 0 credit kept for the Sit-out token is held (10 R356). -/
  token0 : Bool
  /-- ECHO_NO: last frame received (10 R346). -/
  echoNo : Nat
  /-- asymmetry calibration running (10 R371). -/
  asymCal : Bool
  /-- TCXO tick at which the calibration began (10 R371). -/
  asymAt : Nat
  /-- TX_STAMP of the frames sent that the far end has not echoed past (10 R346). -/
  stamps : List (Nat × Nat)
  /-- TCXO tick at which the last frame arrived (ECHO_DELAY) (10 R346). -/
  echoAt : Nat
  /-- sum of the round trips measured in this second (10 R346). -/
  rttSum : Nat
  /-- their number (10 R346). -/
  rttNum : Nat
  /-- TCXO tick at which this second began (10 R346). -/
  rttAt : Nat
  /-- PTP flits received and not yet taken, with the TX_STAMP and the arrival Count of the frame that delivered each (10 R370). -/
  ptpRx : List (Flit × Nat × Nat)
  deriving DecidableEq, Repr

/-- Link at reset. -/
def Link.init : Link :=
  ⟨.dark,
   0,
   0,
   0,
   0,
   0,
   false,
   false,
   false,
   [],
   0,
   0,
   0,
   false,
   false,
   0,
   0,
   [],
   [],
   none,
   0,
   [0, 0, 0, 0, 0, 0, 0],
   0,
   0,
   0,
   [0, 0, 0, 0, 0, 0, 0, 0],
   [],
   [],
   0,
   none,
   false,
   0,
   0,
   0,
   [],
   true,
   0,
   false,
   0,
   [],
   0,
   0,
   0,
   0,
   []⟩

/-- An optical engine and its lasers (10, 16 R549). -/
structure OptEngine where
  /-- operating second of the last calibration (10 R359). -/
  calAge : Nat
  /-- lasers that hold launch power (10 R360). -/
  laserOk : List Bool
  /-- code 0x3022 written (10 R360). -/
  warned : List Bool
  /-- lasers off for temperature (16 R549). -/
  hotOff : Bool
  /-- code 0x5111 written (16 R549). -/
  hotNoted : Bool
  /-- engine failed (14 R504). -/
  faulted : Bool
  /-- TCXO tick since which the engine has read above 90 C (16 R549). -/
  hot90At : Option Nat
  deriving DecidableEq, Repr

/-- OptEngine at reset. -/
def OptEngine.init : OptEngine :=
  ⟨0,
   [true, true],
   [false, false],
   false,
   false,
   false,
   none⟩

/-- Engines a RING_CAL figure still owes (10 R358). -/
structure RingFig where
  /-- figure: 16 x Caller entry + measure mod 16 (10 R358). -/
  entry : Nat
  /-- engines still to calibrate (10 R358). -/
  engines : List Nat
  /-- next link of the first of them (10 R358). -/
  next : Nat
  /-- outside a figure (10 R359). -/
  urgent : Bool
  deriving DecidableEq, Repr

/-- RingFig at reset. -/
def RingFig.init : RingFig :=
  ⟨0,
   [],
   0,
   false⟩

/-- A routed transfer (10 R366). -/
structure Xfer where
  /-- node at the other end (10 R366). -/
  peer : Nat
  /-- XFER (10 R348). -/
  no : Nat
  /-- sector 0 of the DESC (10 R366). -/
  desc : BitVec 256
  /-- sectors 1 to 7 (10 R367). -/
  extra : List Sector
  /-- local tensor (10 R366). -/
  tensor : Nat
  /-- status 1 received or sent (10 R366). -/
  opened : Bool
  /-- DATA flit offsets accepted (10 R366). -/
  got : List Nat
  /-- next FOFF to send (10 R366). -/
  next : Nat
  /-- PART (10 R367). -/
  part : Nat
  /-- matching set (10 R366). -/
  set_ : Nat
  deriving DecidableEq, Repr

/-- Xfer at reset. -/
def Xfer.init : Xfer :=
  ⟨0,
   0,
   0,
   [],
   0,
   false,
   [],
   0,
   0,
   0⟩

/-- Routing, transfers, optics (10). -/
structure Net where
  /-- optical engines (10 R338). -/
  engines : List OptEngine
  /-- laser bank at launch power (20 R628). -/
  laserOn : Bool
  /-- transfers open into this module (10 R366). -/
  rxX : List Xfer
  /-- transfers from this module (10 R366). -/
  txX : List Xfer
  /-- next XFER (10 R348). -/
  xferNo : Nat
  /-- RING_CAL work (10 R358). -/
  ringFigs : List RingFig
  /-- flits delivered to this module: link, flit (10 R363). -/
  local_ : List (Nat × Flit)
  /-- routed flits waiting while the links function is stopped (link 64: originated here) (13 R452). -/
  waitFlits : List (Nat × Flit)
  deriving DecidableEq, Repr

/-- Net at reset. -/
def Net.init : Net :=
  ⟨List.replicate 8 OptEngine.init,
   false,
   [],
   [],
   0,
   [],
   [],
   []⟩

/-- A unit (block, element or sector) of a collective at one stage (11 R394). -/
structure Unit where
  /-- STAGE (11 R392). -/
  stage : Nat
  /-- ROUND (11 R392). -/
  round : Nat
  /-- BLOCK (11 R392). -/
  idx : Nat
  /-- exponent (11 R395). -/
  exp : Nat
  /-- MIX (11 R395). -/
  mix : Bool
  /-- integers (11 R394). -/
  vals : List Int
  /-- exact value (EXACT_SUM) (11 R405). -/
  acc : Acc
  /-- bytes (MAX) (11 R407). -/
  bytes : List Byte
  /-- contributors folded in: child indices, 4 for the ring predecessor, 5 for the member's own (11 R384). -/
  from_ : List Nat
  deriving DecidableEq, Repr

/-- Unit at reset. -/
def Unit.init : Unit :=
  ⟨0,
   0,
   0,
   0,
   false,
   [],
   Acc.zero,
   [],
   []⟩

/-- A collective in a slot (11 R387). -/
structure Coll where
  /-- Caller entry (11 R388). -/
  entry : Nat
  /-- TAG (11 R388). -/
  tag : Nat
  /-- figure type: 0 COLLECTIVE, 1 BOW, 6 DIGEST (11 R387). -/
  kind : Nat
  /-- plan as it stood at firing (11 R381). -/
  plan : List (BitVec 256)
  /-- T (11 R379). -/
  tensor : Nat
  /-- state (11 SLOT_n). -/
  phase : CollPhase
  /-- round (11 R402). -/
  round : Nat
  /-- last stage begun (11 0x3105). -/
  stage : Nat
  /-- generation READY_FLAG must reach (11 R391). -/
  target : Nat
  /-- blocks of this round and their target exponents; empty in round 0 (11 R402). -/
  redo : List (Nat × Nat)
  /-- partial sums and results per stage (11 R394). -/
  partials : List Unit
  /-- status records held for this round (11 R401). -/
  records : List (Nat × BitVec 16)
  /-- VALUE bytes of blocks done (11 R403). -/
  values : List (Nat × BitVec 8)
  /-- final units held: own ones and gathered ones (11 R397). -/
  finals : List Unit
  /-- units accepted: stage, round, kind, block, neighbour (11 R396). -/
  seen : List (Nat × Nat × Nat × Nat × Nat)
  /-- gather stages whose own shard has been sent: 2 x stage for records of this round, 2 x stage + 1 for final units (11 R384). -/
  sentOwn : List Nat
  /-- Count of the figure's deadline (02 R47). -/
  deadline : Nat
  /-- lost links whose traffic moved to a spare (11 R414). -/
  spareUsed : List Nat
  /-- BOW: c0 contributed (09 R318). -/
  c0 : Option Bool
  /-- blocks were realigned (11 0x3102). -/
  realigned : Bool
  /-- stages stopped by a lost link (11 R415). -/
  stuck : List Nat
  /-- a source block was found above its round's target: software wrote a source while the collective ran (11 R402). -/
  above : Bool
  deriving DecidableEq, Repr

/-- Coll at reset. -/
def Coll.init : Coll :=
  ⟨0,
   0,
   0,
   [],
   0,
   .waiting,
   0,
   0,
   0,
   [],
   [],
   [],
   [],
   [],
   [],
   [],
   0,
   [],
   none,
   false,
   [],
   false⟩

/-- A kept abort token (11 R412). -/
structure KeptToken where
  /-- TAG (11 R412). -/
  tag : Nat
  /-- ORIGIN (11 R409). -/
  origin : Nat
  /-- REASON (11 R409). -/
  reason : Nat
  /-- Count of its TAG's deadline (11 R635). -/
  deadline : Nat
  deriving DecidableEq, Repr

/-- KeptToken at reset. -/
def KeptToken.init : KeptToken :=
  ⟨0,
   0,
   0,
   0⟩

/-- The collective engine (11). -/
structure Collectives where
  /-- slots held, in firing order (11 R387). -/
  slots : List Coll
  /-- flits staged in the landing buffer: link, flit, Count of the TAG's deadline (11 R398, R635). -/
  staged : List (Nat × Flit × Nat)
  /-- TAGs of collectives that have ended: TAG, Count of the deadline (11 R408, R410). -/
  ended : List (Nat × Nat)
  /-- kept tokens (11 R412). -/
  tokens : List KeptToken
  deriving DecidableEq, Repr

/-- Collectives at reset. -/
def Collectives.init : Collectives :=
  ⟨[],
   [],
   [],
   []⟩

/-- An error-queue entry (14 R482). -/
structure ErrEntry where
  /-- CODE (14 R482). -/
  code : Nat
  /-- SEV (14 R482). -/
  sev : Nat
  /-- SOURCE (14 R482). -/
  source : Nat
  /-- VALUE (14 R482). -/
  value : Nat
  /-- COUNT (14 R482). -/
  count : BitVec 64
  deriving DecidableEq, Repr

/-- ErrEntry at reset. -/
def ErrEntry.init : ErrEntry :=
  ⟨0,
   0,
   0,
   0,
   0⟩

/-- An extraction (14 R495). -/
structure Extract where
  /-- source tensor (14 R495). -/
  tensor : Nat
  /-- next sector (14 R496). -/
  next : Nat
  /-- end sector (14 R496). -/
  last : Nat
  /-- its transfer number (14 R496). -/
  xfer : Nat
  /-- first sector (14 R495). -/
  first : Nat
  /-- sectors of the DATA flit being filled (14 R496). -/
  buf : List Sector
  /-- a sector of that flit was not sent (14 R496). -/
  cut : Bool
  /-- some sector was not sent (14 R496). -/
  missing : Bool
  deriving DecidableEq, Repr

/-- Extract at reset. -/
def Extract.init : Extract :=
  ⟨0,
   0,
   0,
   0,
   0,
   [],
   false,
   false⟩

/-- Faults and Sit-out (14). -/
structure Faults where
  /-- ordinary entries, oldest first (14 R482). -/
  queue : List ErrEntry
  /-- overflow entry (14 R484). -/
  overflow : Option ErrEntry
  /-- entry in hand (14 R483). -/
  hand : Option ErrEntry
  /-- entries set aside, last first (14 R483). -/
  aside : List ErrEntry
  /-- counts of this hour by resource (14 R502). -/
  hourCounts : List (Nat × Nat)
  /-- cores and update units powered down (14 R489). -/
  powerDown : Bool
  /-- extraction in progress (14 R495). -/
  extract : Option Extract
  deriving DecidableEq, Repr

/-- Faults at reset. -/
def Faults.init : Faults :=
  ⟨[],
   none,
   none,
   [],
   [],
   false,
   none⟩

/-- A detected event, waiting for its recorder update (15 R511). -/
structure Event where
  /-- code (14 R482). -/
  code : Nat
  /-- source (14 R482). -/
  source : Nat
  /-- value (15 R509). -/
  value : Nat
  /-- Count at detection (14 R482). -/
  count : BitVec 64
  /-- operating hours, 1/16 s (15 R508). -/
  hours : Nat
  /-- its bucket was empty as it was reported (15 R516). -/
  bare : Bool
  deriving DecidableEq, Repr

/-- Event at reset. -/
def Event.init : Event :=
  ⟨0,
   0,
   0,
   0,
   0,
   false⟩

/-- A recorder record (15 R508). -/
structure Rec where
  /-- CODE (15 R508). -/
  code : Nat
  /-- SOURCE (15 R508). -/
  source : Nat
  /-- GEN (15 R512). -/
  gen : Nat
  /-- COUNT (15 R508). -/
  count : Nat
  /-- MIN (15 R508). -/
  min : Nat
  /-- MAX (15 R508). -/
  max : Nat
  /-- HIST (15 R508). -/
  hist : List Nat
  /-- FIRST_HOURS (15 R508). -/
  firstHours : Nat
  /-- FIRST_CYCLES (15 R508). -/
  firstCycles : Nat
  /-- FIRST_SEQ (15 R508). -/
  firstSeq : Nat
  /-- LAST_HOURS (15 R508). -/
  lastHours : Nat
  /-- LAST_CYCLES (15 R508). -/
  lastCycles : Nat
  /-- LAST_SEQ (15 R508). -/
  lastSeq : Nat
  deriving DecidableEq, Repr

/-- Rec at reset. -/
def Rec.init : Rec :=
  ⟨0,
   0,
   0,
   0,
   0,
   0,
   List.replicate 16 0,
   0,
   0,
   0,
   0,
   0,
   0⟩

/-- A recorder flush (15 R519). -/
structure FlushRun where
  /-- CAUSE (15 R520). -/
  cause : Nat
  /-- CAUSE_VALUE (15 R520). -/
  value : Nat
  /-- requested by PWR_FAIL_N (15 R522). -/
  powerFail : Bool
  /-- snapshot taken (15 R519). -/
  snap : Option RecImage
  /-- slot being programmed (15 R521). -/
  slot : Nat
  /-- the one retry has been used (15 R523). -/
  retried : Bool
  /-- reset of the recorder function: the records empty after the snapshot (18 R579). -/
  emptyAfter : Bool
  deriving DecidableEq, Repr

/-- FlushRun at reset. -/
def FlushRun.init : FlushRun :=
  ⟨0,
   0,
   false,
   none,
   0,
   false,
   false⟩

/-- The event recorder (15). -/
structure Recorder where
  /-- records in use, in record order (15 R507). -/
  records : List Rec
  /-- events not yet applied (15 R511). -/
  batch : List Event
  /-- hold queue: events by pair (15 R517). -/
  hold : List (List Event)
  /-- token buckets: code, tokens in 1/16, operating time of the last refill (15 R515). -/
  buckets : List (Nat × Nat × Nat)
  /-- notifications held in this second (15 R516). -/
  heldSec : Nat
  /-- running flush (15 R519). -/
  flush : Option FlushRun
  /-- pending flush (15 R522). -/
  flushPend : Option FlushRun
  /-- operating second of the last S2 flush (15 R518). -/
  lastS2 : Option Nat
  deriving DecidableEq, Repr

/-- Recorder at reset. -/
def Recorder.init : Recorder :=
  ⟨[],
   [],
   [],
   [],
   0,
   none,
   none,
   none⟩

/-- A telemetry snapshot (15 R529). -/
structure Snapshot where
  /-- firing Count (15 R529). -/
  count : BitVec 64
  /-- values (15 R529). -/
  values : List (BitVec 64)
  deriving DecidableEq, Repr

/-- Snapshot at reset. -/
def Snapshot.init : Snapshot :=
  ⟨0,
   []⟩

/-- Telemetry (15). -/
structure Telemetry where
  /-- sample ring, oldest first (15 R527). -/
  samples : List (BitVec 1024)
  /-- snapshots by set, newest first (15 R529). -/
  snaps : List (Nat × Snapshot)
  deriving DecidableEq, Repr

/-- Telemetry at reset. -/
def Telemetry.init : Telemetry :=
  ⟨[],
   []⟩

/-- Boot integrity and attestation (17). -/
structure Security where
  /-- debug token bytes (17 R572). -/
  token : List Host.Cell
  /-- MODEL: number of challenges drawn; the 32 bytes are Config.freeByte (entry 15) (17 R572). -/
  challenge : Nat
  /-- refused debug tokens since power-on (17 R572). -/
  refusals : Nat
  /-- M3 (17 R571). -/
  m3 : List Byte
  /-- tensors to measure, in order; the first is being measured (17 R571). -/
  measuring : List Nat
  /-- the tensor was written during its digest (17 R571). -/
  measWritten : Bool
  /-- report being built (17 R569). -/
  attest : Option (List Byte)
  /-- last report (17 R570). -/
  report : List Byte
  /-- identity key erased (17 R573). -/
  keyErased : Bool
  /-- debug scopes unlocked since power-on (17 R570). -/
  scopesSeen : BitVec 3
  /-- instruction of the test access port; PRESUMED IDCODE, as IEEE 1149.1 resets it, entry 122 (20 R623). -/
  tap : TapInstr
  deriving DecidableEq, Repr

/-- Security at reset. -/
def Security.init : Security :=
  ⟨[],
   0,
   0,
   List.replicate 64 0,
   [],
   false,
   none,
   [],
   false,
   0,
   .idcode⟩

/-- A request raised at an arbiter (19 R593). -/
structure ArbReq where
  /-- arbiter 0-399 (19 R590). -/
  arb : Nat
  /-- class 1-8 (19 R591). -/
  cls : Nat
  /-- requester (19 R591). -/
  requester : Nat
  /-- request (19 R593). -/
  id : Nat
  /-- belongs to an update step already begun (19 R599). -/
  stepStarted : Bool
  deriving DecidableEq, Repr

/-- ArbReq at reset. -/
def ArbReq.init : ArbReq :=
  ⟨0,
   0,
   0,
   0,
   false⟩

/-- The rank arbiters (19). -/
structure Arb where
  /-- raised requests, oldest first (19 R593). -/
  waiting : List ArbReq
  /-- granted and outstanding (19 R598). -/
  granted : List ArbReq
  /-- requester last granted, by arbiter x 8 + rank, stored + 1; unlisted none (19 R592). -/
  rot : List (Nat × Nat)
  /-- cap windows: channel, window number (Count / 1,024), sectors granted (07 R252). -/
  capWin : List (Nat × Nat × Nat)
  /-- COMMIT_FREEZE (19 R601). -/
  commitFreeze : BitVec 8
  deriving DecidableEq, Repr

/-- Arb at reset. -/
def Arb.init : Arb :=
  ⟨[],
   [],
   [],
   [],
   0⟩

/-- The whole module. -/
structure State where
  /-- queue of waiting commands, first in first out (MODEL). -/
  pending : List Instr
  /-- the Count (02). -/
  clk : Clock
  /-- fuses (17). -/
  fuse : Fuses
  /-- input pins (20). -/
  pins : Pins
  /-- power (16). -/
  pow : Power
  /-- configuration flash (15 16 17 13). -/
  flash : Flash
  /-- boot and bring-up (18). -/
  boot : Boot
  /-- dictionary registers by object key, unlisted at their default (the objects below) (13 R447). -/
  regs : List (Nat × BitVec 64)
  /-- dictionary server (13). -/
  dict : Dict
  /-- RUN_STATE_1 to 7 (13 R454, 18 R585). -/
  run : List RunState
  /-- servo (02). -/
  tim : Timing
  /-- Caller (02). -/
  cal : Caller
  /-- memories (06). -/
  mem : Memory
  /-- memory operation (06 07). -/
  mo : MemOps
  /-- directory commands, in order of acceptance (06 R220). -/
  jobs : List DirJob
  /-- cores 0-15 (04). -/
  cores : List Core
  /-- tasks taken (12). -/
  tasks : List Task
  /-- host interface (12). -/
  host : HostIf
  /-- update engines (08). -/
  upd : Update
  /-- training state (09). -/
  trn : Training
  /-- links L0-L63 (10). -/
  links : List Link
  /-- routing and transfers (10). -/
  net : Net
  /-- collective engine (11). -/
  col : Collectives
  /-- faults (14). -/
  flt : Faults
  /-- recorder (15). -/
  rcd : Recorder
  /-- telemetry (15). -/
  tel : Telemetry
  /-- security (17). -/
  sec : Security
  /-- arbiters (19). -/
  arb : Arb
  /-- counter that keys the free values; DESIGN CHOICE 0, entry 6 (MODEL). -/
  free : Nat
  deriving DecidableEq, Repr

/-- Why the module stops with a fault. No command of this block does so in ordinary use. -/
inductive Fault where
  /-- Raised by the operations on addressed memory for an address that the memory map does not give (06 R193). Safe. -/
  | noSuchAddress (addr : Nat)
  deriving DecidableEq, Repr

/-- Why a command has no meaning. -/
inductive Refusal where
  /-- Raised by an arm of `exec` whose command has not been given its meaning. Safe. -/
  | notModelled (mnemonic : String)
  deriving DecidableEq, Repr

/-- The module right after power-on reset is released: bring-up step 1 is in progress, every function is Stopped, every
object is at its default, no command waits, and the event of the reset is to be recorded (18 R575, R576, R582, code 0x9603). -/
def State.reset : State :=
  { pending := [],
    clk := Clock.init,
    fuse := Fuses.init,
    pins := Pins.init,
    pow := Power.init,
    flash := Flash.init,
    boot := Boot.init,
    regs := [],
    dict := Dict.init,
    run := List.replicate 7 .stopped,
    tim := Timing.init,
    cal := Caller.init,
    mem := Memory.init,
    mo := MemOps.init,
    jobs := [],
    cores := List.replicate 16 Core.init,
    tasks := [],
    host := HostIf.init,
    upd := Update.init,
    trn := Training.init,
    links := List.replicate 64 Link.init,
    net := Net.init,
    col := Collectives.init,
    flt := Faults.init,
    rcd := { Recorder.init with batch := [{ Event.init with code := 0x9603 }] },
    tel := Telemetry.init,
    sec := Security.init,
    arb := Arb.init,
    free := 0 }

end Sys2Proof.Machine
end

