-- ==== Sys2Proof/Machine/Objects.lean ====
section
/-! DEFINITION. The object dictionary: every object with its attributes (13 R447), and the named register behind each
object that holds a stored value. -/

namespace Sys2Proof.Machine

open Sys2Proof

/-- What a count does at the top of its range: saturate, wrap, or what the spec does not say. -/
inductive Overflow where
  | sat | wrap | unsaid
  deriving DecidableEq, Repr

/-- A stored register of the dictionary: object, selected item, default, bytes (13 R447, R451). -/
structure RegId where
  idx : Nat
  sub : Nat
  sel : Nat := 0
  dflt : Nat := 0
  size : Nat
  ovf : Overflow := .unsaid
  deriving DecidableEq, Repr

/-- Access of an object (13 R449). -/
inductive Access where
  | ro | rw | wo
  deriving DecidableEq, Repr

/-- Change class of an object (13 R455). -/
inductive Change where
  | live | stopped | commit | fixed
  deriving DecidableEq, Repr

/-- A row of the dictionary tables: indices, subindices, bytes (0 for a string or a domain), access, change class, Save,
default, defined bits, accepted ranges and step of the values, the F mark and the I3C-only mark (13 R447, R475). -/
structure ObjRow where
  idx0 : Nat
  idx1 : Nat
  sub0 : Nat
  sub1 : Nat
  size : Nat
  access : Access
  change : Change
  save : Bool
  dflt : Nat
  mask : Nat
  ranges : List (Nat × Nat) := []
  step : Nat := 1
  fabric : Bool := false
  i3cOnly : Bool := false
  deriving DecidableEq, Repr

/-- A valid DESC whose deadline lies in the measure of its firing: type, beat, deadline beat, modulus, phase (02 R46). -/
def mkDesc (type beat dbeat modulus phase : Nat) : Nat :=
  2 ^ 63 + type * 2 ^ 56 + beat * 2 ^ 44 + dbeat * 2 ^ 28 + modulus * 2 ^ 16 + phase * 2 ^ 4

/-- The DESC of entry n at the default schedule (02 R61). -/
def defaultDesc (n : Nat) : Nat :=
  if 448 ≤ n ∧ n ≤ 479 then mkDesc 2 4088 4090 32 (n - 448)
  else if 480 ≤ n ∧ n ≤ 485 then mkDesc 3 4090 4092 32 (n - 480)
  else if n = 486 ∨ n = 487 then mkDesc 4 4064 4086 1 0
  else if 488 ≤ n ∧ n ≤ 495 then mkDesc 5 4092 4094 8 (n - 488)
  else if n = 496 then mkDesc 11 0 1 1 0
  else 2 ^ 16

/-- The PARAM of entry n at the default schedule (02 R61). -/
def defaultParam (n : Nat) : Nat :=
  if 448 ≤ n ∧ n ≤ 479 then (n - 448) * 2 ^ 59
  else if 480 ≤ n ∧ n ≤ 485 then (n - 480) * 2 ^ 61
  else if n = 487 then 2 ^ 63
  else if 488 ≤ n ∧ n ≤ 495 then 2 ^ (n - 488) * 2 ^ 56
  else 0

/-- COUNT (02, object 0x3000 sub 1): current Count, latched (R28). -/
def Obj.COUNT : RegId :=
  { idx := 0x3000, sub := 1, size := 8 }

/-- TIME_MODE (02, object 0x3001 sub 1): 0 PTP over Cavo, 1 PPS and time of day. -/
def Obj.TIME_MODE : RegId :=
  { idx := 0x3001, sub := 1, size := 1 }

/-- PTP_LINK (02, object 0x3001 sub 2): designated link L0–L63 for mode 0. -/
def Obj.PTP_LINK : RegId :=
  { idx := 0x3001, sub := 2, size := 1 }

/-- LOG_SYNC_INTERVAL (02, object 0x3001 sub 3): log2 of sync interval in seconds, −7 to 0. -/
def Obj.LOG_SYNC_INTERVAL : RegId :=
  { idx := 0x3001, sub := 3, dflt := 252, size := 1 }

/-- PTP_DOMAIN (02, object 0x3001 sub 4): PTP domain number. -/
def Obj.PTP_DOMAIN : RegId :=
  { idx := 0x3001, sub := 4, size := 1 }

/-- SERVO_STATE (02, object 0x3002 sub 1): 0 UNSET, 1 ACQUIRING, 2 LOCKED, 3 HOLDOVER. -/
def Obj.SERVO_STATE : RegId :=
  { idx := 0x3002, sub := 1, size := 1 }

/-- EST_ERROR (02, object 0x3002 sub 2): estimated time error, ticks. -/
def Obj.EST_ERROR : RegId :=
  { idx := 0x3002, sub := 2, size := 4 }

/-- HOLDOVER_TIME (02, object 0x3002 sub 3): time in current holdover, ms. -/
def Obj.HOLDOVER_TIME : RegId :=
  { idx := 0x3002, sub := 3, size := 4 }

/-- FREQ_ADJUST (02, object 0x3002 sub 4): servo frequency correction, parts per 10^12. -/
def Obj.FREQ_ADJUST : RegId :=
  { idx := 0x3002, sub := 4, size := 4 }

/-- BEAT_SHIFT (02, object 0x3010 sub 1): B, 10–24 (R45). -/
def Obj.BEAT_SHIFT : RegId :=
  { idx := 0x3010, sub := 1, dflt := 16, size := 1 }

/-- MEASURE (02, object 0x3011 sub 1): current measure number. -/
def Obj.MEASURE : RegId :=
  { idx := 0x3011, sub := 1, size := 8 }

/-- BEAT_INDEX (02, object 0x3011 sub 2): current beat index. -/
def Obj.BEAT_INDEX : RegId :=
  { idx := 0x3011, sub := 2, size := 2 }

/-- REJOIN_POLICY (02, object 0x3020 sub 1): 0 host-armed, 1 automatic (R42). -/
def Obj.REJOIN_POLICY : RegId :=
  { idx := 0x3020, sub := 1, size := 1 }

/-- REJOIN_MEASURE (02, object 0x3020 sub 2): measure at which to rejoin under policy 0. -/
def Obj.REJOIN_MEASURE : RegId :=
  { idx := 0x3020, sub := 2, size := 8 }

/-- FLAG_n (02, object 0x3030 sub 1–255): [31] last outcome, 1 aborted; [30:0] generation. -/
def Obj.FLAG (n : Nat) : RegId :=
  { idx := 0x3030, sub := n, size := 4 }

/-- FIRED (02, object 0x3040 sub 1): figures started, on time or late, saturating (R52). -/
def Obj.FIRED : RegId :=
  { idx := 0x3040, sub := 1, size := 4, ovf := .sat }

/-- LATE (02, object 0x3040 sub 2): figures started after their firing window, saturating. -/
def Obj.LATE : RegId :=
  { idx := 0x3040, sub := 2, size := 4, ovf := .sat }

/-- SKIPPED (02, object 0x3040 sub 3): figures skipped, saturating. -/
def Obj.SKIPPED : RegId :=
  { idx := 0x3040, sub := 3, size := 4, ovf := .sat }

/-- ENDED_AT_DEADLINE (02, object 0x3040 sub 4): figures ended by their deadline, started or not; SCRUB and HOST_WINDOW not counted (R53); saturating. -/
def Obj.CAL_ENDED_AT_DEADLINE : RegId :=
  { idx := 0x3040, sub := 4, size := 4, ovf := .sat }

/-- ENTRY_n.DESC (02, object 0x3100 sub 1): bits [127:64] of entry n = index − 0x3100. -/
def Obj.ENTRY_DESC (n : Nat) : RegId :=
  { idx := 0x3100 + n, sub := 1, dflt := (defaultDesc n), size := 8 }

/-- ENTRY_n.PARAM (02, object 0x3100 sub 2): bits [63:0] of entry n. -/
def Obj.ENTRY_PARAM (n : Nat) : RegId :=
  { idx := 0x3100 + n, sub := 2, dflt := (defaultParam n), size := 8 }

/-- JOB_SEED (03, object 0x4100 sub 1): key of the rounding generator (R86); takes effect when the next step opens (R89). -/
def Obj.JOB_SEED : RegId :=
  { idx := 0x4100, sub := 1, size := 8 }

/-- STEP_KEY (03, object 0x4100 sub 2): k_step of the step in progress. -/
def Obj.STEP_KEY : RegId :=
  { idx := 0x4100, sub := 2, size := 8 }

/-- MX_HEADROOM (03, object 0x4101 sub 1): h of R80, 0–3. -/
def Obj.MX_HEADROOM : RegId :=
  { idx := 0x4101, sub := 1, dflt := 1, size := 1 }

/-- CARRY_HEADROOM (03, object 0x4101 sub 2): fixed headroom of R97, in bits. -/
def Obj.CARRY_HEADROOM : RegId :=
  { idx := 0x4101, sub := 2, dflt := 2, size := 1 }

/-- RECOMPUTED_TILES (03, object 0x4102 sub 1): blocks drained with a raise, saturating (R82). -/
def Obj.RECOMPUTED_TILES : RegId :=
  { idx := 0x4102, sub := 1, size := 4, ovf := .sat }

/-- NONFINITE_DRAINS (03, object 0x4102 sub 2): drains that wrote a non-finite value (R83). -/
def Obj.NONFINITE_DRAINS : RegId :=
  { idx := 0x4102, sub := 2, size := 4 }

/-- CARRY_REDOS (03, object 0x4102 sub 3): reduced blocks redone at A_max + 8 (R93). -/
def Obj.CARRY_REDOS : RegId :=
  { idx := 0x4102, sub := 3, size := 4 }

/-- CORE_STATUS_n (04, object 0x4001 sub 1–16): core n − 1: [31:28] 0 idle, 1 running, 2 waiting, 3 pre-empting, 4 aborted; [27:24] last wait outcome; [23:0] command index. -/
def Obj.CORE_STATUS (n : Nat) : RegId :=
  { idx := 0x4001, sub := n, size := 4 }

/-- PREEMPTIONS (04, object 0x4002 sub 1): pre-emptions honoured, saturating. -/
def Obj.PREEMPTIONS : RegId :=
  { idx := 0x4002, sub := 1, size := 4, ovf := .sat }

/-- CLAMP_STALLS (04, object 0x4002 sub 2): over-current stalls, saturating. -/
def Obj.CLAMP_STALLS : RegId :=
  { idx := 0x4002, sub := 2, size := 4, ovf := .sat }

/-- CLAMP_CYCLES (04, object 0x4002 sub 3): cycles spent stalled. -/
def Obj.CLAMP_CYCLES : RegId :=
  { idx := 0x4002, sub := 3, size := 8 }

/-- THROTTLE_CYCLES (04, object 0x4002 sub 4): idle cycles inserted before passes (R153). -/
def Obj.THROTTLE_CYCLES : RegId :=
  { idx := 0x4002, sub := 4, size := 8 }

/-- CORE_FLAG_n (04, object 0x4010 sub 1–64): core flag n − 1: [30:0] generation. -/
def Obj.CORE_FLAG (n : Nat) : RegId :=
  { idx := 0x4010, sub := n, size := 4 }

/-- READ_SHARE (05, object 0x5001 sub 1): read share, percent (R186). -/
def Obj.READ_SHARE : RegId :=
  { idx := 0x5001, sub := 1, dflt := 60, size := 1 }

/-- WRITE_SHARE (05, object 0x5001 sub 2): write share, percent. -/
def Obj.WRITE_SHARE : RegId :=
  { idx := 0x5001, sub := 2, dflt := 25, size := 1 }

/-- REMOTE_SHARE (05, object 0x5001 sub 3): remote share, percent. -/
def Obj.REMOTE_SHARE : RegId :=
  { idx := 0x5001, sub := 3, dflt := 15, size := 1 }

/-- ENGINE_STATUS_n (05, object 0x5010 sub 1–64): core (n − 1) div 4, engine (n − 1) mod 4: [31:28] 0 idle, 1 running, 2 running with one queued, 3 suspended, 4 faulted, 5 held on a move; [27:0] sectors moved by the running stream, saturating. -/
def Obj.ENGINE_STATUS (n : Nat) : RegId :=
  { idx := 0x5010, sub := n, size := 4, ovf := .sat }

/-- STREAM_FAULTS (05, object 0x5020 sub 1): faulted streams, saturating. -/
def Obj.STREAM_FAULTS : RegId :=
  { idx := 0x5020, sub := 1, size := 4, ovf := .sat }

/-- PARTIAL_SECTORS (05, object 0x5020 sub 2): partial sectors sent (R188). -/
def Obj.PARTIAL_SECTORS : RegId :=
  { idx := 0x5020, sub := 2, size := 4 }

/-- HELD_ON_MOVE (05, object 0x5020 sub 3): streams held on a moving tensor (R161). -/
def Obj.HELD_ON_MOVE : RegId :=
  { idx := 0x5020, sub := 3, size := 4 }

/-- STOPPED_AT_END (05, object 0x5020 sub 4): streams stopped by END (R183). -/
def Obj.STOPPED_AT_END : RegId :=
  { idx := 0x5020, sub := 4, size := 4 }

/-- LAST_FAULT_TENSOR (05, object 0x5030 sub 1): [23:0] tensor id of the last fault. -/
def Obj.LAST_FAULT_TENSOR : RegId :=
  { idx := 0x5030, sub := 1, size := 4 }

/-- LAST_FAULT_OFFSET (05, object 0x5030 sub 2): far offset of the last fault, in sectors. -/
def Obj.LAST_FAULT_OFFSET : RegId :=
  { idx := 0x5030, sub := 2, size := 8 }

/-- FAST_USABLE (06, object 0x6001 sub 1): bytes of fast-tier tensor space. -/
def Obj.FAST_USABLE : RegId :=
  { idx := 0x6001, sub := 1, dflt := 0x7fc0000000, size := 8 }

/-- SLOW_USABLE (06, object 0x6001 sub 2): bytes of slow-tier tensor space. -/
def Obj.SLOW_USABLE : RegId :=
  { idx := 0x6001, sub := 2, dflt := 0xc000000000, size := 8 }

/-- CORRECTED_FAST (06, object 0x6002 sub 1): sectors corrected from the fast tier. -/
def Obj.CORRECTED_FAST : RegId :=
  { idx := 0x6002, sub := 1, size := 8 }

/-- CORRECTED_SLOW (06, object 0x6002 sub 2): sectors corrected from the slow tier. -/
def Obj.CORRECTED_SLOW : RegId :=
  { idx := 0x6002, sub := 2, size := 8 }

/-- CORRECTED_SRAM (06, object 0x6002 sub 3): sectors corrected from core stores and the Floor. -/
def Obj.CORRECTED_SRAM : RegId :=
  { idx := 0x6002, sub := 3, size := 8 }

/-- UNCORRECTABLE (06, object 0x6002 sub 4): stored sectors confirmed uncorrectable (R206). -/
def Obj.UNCORRECTABLE : RegId :=
  { idx := 0x6002, sub := 4, size := 4 }

/-- DIR_ENTRY_W0–W3 (06, object 0x6010 sub 2–5): entry bits [63:0] up to [255:192] of the selected id. -/
def Obj.DIR_ENTRY_W (n : Nat) : RegId :=
  { idx := 0x6010, sub := n, size := 8 }

/-- WC_WINDOW (06, object 0x6020 sub 1): merge window, ticks, 64–65,535 (R208). -/
def Obj.WC_WINDOW : RegId :=
  { idx := 0x6020, sub := 1, dflt := 1000, size := 2 }

/-- WC_RMW (06, object 0x6020 sub 2): read-modify-writes (R209). -/
def Obj.WC_RMW : RegId :=
  { idx := 0x6020, sub := 2, size := 8 }

/-- WC_EVICTIONS (06, object 0x6020 sub 3): evictions of a full buffer (R210). -/
def Obj.WC_EVICTIONS : RegId :=
  { idx := 0x6020, sub := 3, size := 8 }

/-- MOVES (06, object 0x6030 sub 1): copies completed, saturating. -/
def Obj.MOVES : RegId :=
  { idx := 0x6030, sub := 1, size := 4, ovf := .sat }

/-- CLEAN_RETURNS (06, object 0x6030 sub 2): returns without transfer. -/
def Obj.CLEAN_RETURNS : RegId :=
  { idx := 0x6030, sub := 2, size := 4 }

/-- FULL_RETURNS (06, object 0x6030 sub 3): returns with transfer. -/
def Obj.FULL_RETURNS : RegId :=
  { idx := 0x6030, sub := 3, size := 4 }

/-- MOVED_SECTORS (06, object 0x6030 sub 4): sectors copied by movers. -/
def Obj.MOVED_SECTORS : RegId :=
  { idx := 0x6030, sub := 4, size := 8 }

/-- CLEAN_CHECK (06, object 0x6030 sub 5): 0 both digests, 1 home only (R228). -/
def Obj.CLEAN_CHECK : RegId :=
  { idx := 0x6030, sub := 5, size := 1 }

/-- MOVER_STATUS_n (06, object 0x6031 sub 1–8): mover n − 1: [31:28] 0 idle, 1 waiting on REFS, 2 copying, 3 digesting; [23:0] tensor id. -/
def Obj.MOVER_STATUS (n : Nat) : RegId :=
  { idx := 0x6031, sub := n, size := 4 }

/-- TG_PATTERN (07, object 0xE100 sub 2): 0 PRBS31 seeded by TG_SEED and the sector address; 1 sector address in every 32-bit word; 2 0x55 and 0xAA in alternate sectors; 3 walking ones; 4 all zeros. -/
def Obj.TG_PATTERN (q : Nat) : RegId :=
  { idx := 0xe100, sub := 2, sel := q, size := 1 }

/-- TG_MODE (07, object 0xE100 sub 3): 0 READ_CHECK (decode only); 1 WRITE; 2 WRITE_THEN_READ; 3 READ_COMPARE. -/
def Obj.TG_MODE (q : Nat) : RegId :=
  { idx := 0xe100, sub := 3, sel := q, size := 1 }

/-- TG_START (07, object 0xE100 sub 4): first sector: 0 to 2^26 − 1 on a fast-tier channel, 0 to 2^29 − 1 on a slow-tier sub-channel. -/
def Obj.TG_START (q : Nat) : RegId :=
  { idx := 0xe100, sub := 4, sel := q, size := 4 }

/-- TG_COUNT (07, object 0xE100 sub 5): sectors; 0 = to the end of the unit. -/
def Obj.TG_COUNT (q : Nat) : RegId :=
  { idx := 0xe100, sub := 5, sel := q, size := 4 }

/-- TG_SEED (07, object 0xE100 sub 6): PRBS31 seed, non-zero. -/
def Obj.TG_SEED (q : Nat) : RegId :=
  { idx := 0xe100, sub := 6, sel := q, dflt := 1, size := 4 }

/-- TG_STATUS (07, object 0xE100 sub 8): 0 idle, 1 running, 2 passed, 3 failed, 4 stopped. -/
def Obj.TG_STATUS (q : Nat) : RegId :=
  { idx := 0xe100, sub := 8, sel := q, size := 1 }

/-- TG_ERRORS (07, object 0xE100 sub 9): mismatched sectors, or uncorrectable sectors in READ_CHECK; saturating. -/
def Obj.TG_ERRORS (q : Nat) : RegId :=
  { idx := 0xe100, sub := 9, sel := q, size := 4, ovf := .sat }

/-- TG_FIRST_FAIL (07, object 0xE100 sub 10): [63:35] sector; [34:29] mismatched bytes, up to 36; [28:0] 0. -/
def Obj.TG_FIRST_FAIL (q : Nat) : RegId :=
  { idx := 0xe100, sub := 10, sel := q, size := 8 }

/-- STACK_TEMP_n (07, object 0x6100 sub 1–8): stack n − 1, hottest die, 1/8 °C. -/
def Obj.STACK_TEMP (n : Nat) : RegId :=
  { idx := 0x6100, sub := n, size := 2 }

/-- PACKAGE_TEMP_n (07, object 0x6100 sub 9–20): LPDDR6 package n − 9, 1/8 °C. -/
def Obj.PACKAGE_TEMP (n : Nat) : RegId :=
  { idx := 0x6100, sub := n, size := 2 }

/-- STACK_STATE_n (07, object 0x6101 sub 1–8): [31:28] 0 normal, 1 hot, 2 capped, 3 lost; [27:24] reason of R261. -/
def Obj.STACK_STATE (n : Nat) : RegId :=
  { idx := 0x6101, sub := n, size := 4 }

/-- BUFFER_STATE_n (07, object 0x6101 sub 9–14): buffer n − 9: [31:28] 0 running, 3 lost; [27:24] reason; [23:20] and [19:16] its packages' states as for a stack. -/
def Obj.BUFFER_STATE (n : Nat) : RegId :=
  { idx := 0x6101, sub := n, size := 4 }

/-- FORCED_REFRESH (07, object 0x6110 sub 1): refreshes that took precedence under R239. -/
def Obj.FORCED_REFRESH : RegId :=
  { idx := 0x6110, sub := 1, size := 8 }

/-- ALARM_MARGIN (07, object 0x6120 sub 1): percent, 10–75 (R245). -/
def Obj.ALARM_MARGIN : RegId :=
  { idx := 0x6120, sub := 1, dflt := 25, size := 1 }

/-- URGENT_WAIT (07, object 0x6120 sub 2): ms, 0–10,000 (R246). -/
def Obj.URGENT_WAIT : RegId :=
  { idx := 0x6120, sub := 2, dflt := 100, size := 4 }

/-- RETRAIN_MAX_AGE (07, object 0x6120 sub 3): s, 10–600 (R244). -/
def Obj.RETRAIN_MAX_AGE : RegId :=
  { idx := 0x6120, sub := 3, dflt := 60, size := 4 }

/-- URGENT_RETRAINS (07, object 0x6120 sub 4): urgent retrains, saturating. -/
def Obj.URGENT_RETRAINS : RegId :=
  { idx := 0x6120, sub := 4, size := 4, ovf := .sat }

/-- FIGURE_RETRAINS (07, object 0x6120 sub 5): channels retrained in figures, saturating. -/
def Obj.FIGURE_RETRAINS : RegId :=
  { idx := 0x6120, sub := 5, size := 4, ovf := .sat }

/-- HOLD_TICKS (07, object 0x6120 sub 6): total hold time of all retrains. -/
def Obj.HOLD_TICKS : RegId :=
  { idx := 0x6120, sub := 6, size := 8 }

/-- FAST_SCRUB_PERIOD (07, object 0x6130 sub 1): s, 3,600–86,400. -/
def Obj.FAST_SCRUB_PERIOD : RegId :=
  { idx := 0x6130, sub := 1, dflt := 14400, size := 4 }

/-- SLOW_SCRUB_PERIOD (07, object 0x6130 sub 2): s, 3,600–172,800. -/
def Obj.SLOW_SCRUB_PERIOD : RegId :=
  { idx := 0x6130, sub := 2, dflt := 28800, size := 4 }

/-- FAST_FIG_RATE (07, object 0x6130 sub 3): GB/s, 8–1,024. -/
def Obj.FAST_FIG_RATE : RegId :=
  { idx := 0x6130, sub := 3, dflt := 64, size := 2 }

/-- SLOW_FIG_RATE (07, object 0x6130 sub 4): GB/s, 2–256. -/
def Obj.SLOW_FIG_RATE : RegId :=
  { idx := 0x6130, sub := 4, dflt := 16, size := 2 }

/-- FAST_POINTER (07, object 0x6130 sub 5): next address of the fast patrol. -/
def Obj.FAST_POINTER : RegId :=
  { idx := 0x6130, sub := 5, size := 8 }

/-- SLOW_POINTER (07, object 0x6130 sub 6): next address of the slow patrol. -/
def Obj.SLOW_POINTER : RegId :=
  { idx := 0x6130, sub := 6, size := 8 }

/-- SCRUB_PASSES (07, object 0x6130 sub 7): [31:16] fast, [15:0] slow, passes completed. -/
def Obj.SCRUB_PASSES : RegId :=
  { idx := 0x6130, sub := 7, size := 4 }

/-- CE_LIMIT (07, object 0x6140 sub 1): 64–65,535 (R256). -/
def Obj.CE_LIMIT : RegId :=
  { idx := 0x6140, sub := 1, dflt := 4096, size := 2 }

/-- UE_LIMIT (07, object 0x6140 sub 2): 1–1,024 (R256). -/
def Obj.UE_LIMIT : RegId :=
  { idx := 0x6140, sub := 2, dflt := 16, size := 2 }

/-- TRANSIT_LIMIT (07, object 0x6140 sub 3): per second, 1–4,096 (R257). -/
def Obj.TRANSIT_LIMIT : RegId :=
  { idx := 0x6140, sub := 3, dflt := 16, size := 2 }

/-- CHAN_CE_HOUR (07, object 0x6150 sub 2): distinct corrected sectors, last hour. -/
def Obj.CHAN_CE_HOUR (q : Nat) : RegId :=
  { idx := 0x6150, sub := 2, sel := q, size := 4 }

/-- CHAN_UE_HOUR (07, object 0x6150 sub 3): confirmed uncorrectable sectors, last hour. -/
def Obj.CHAN_UE_HOUR (q : Nat) : RegId :=
  { idx := 0x6150, sub := 3, sel := q, size := 4 }

/-- CHAN_REPLAYS (07, object 0x6150 sub 4): buffer link replays of the selected sub-channel's buffer. -/
def Obj.CHAN_REPLAYS (q : Nat) : RegId :=
  { idx := 0x6150, sub := 4, sel := q, size := 4 }

/-- CHAN_MARGIN (07, object 0x6150 sub 5): margin, percent of the last trained margin. -/
def Obj.CHAN_MARGIN (q : Nat) : RegId :=
  { idx := 0x6150, sub := 5, sel := q, size := 1 }

/-- CHAN_LAST_RETRAIN (07, object 0x6150 sub 6): Count of the last retrain. -/
def Obj.CHAN_LAST_RETRAIN (q : Nat) : RegId :=
  { idx := 0x6150, sub := 6, sel := q, size := 8 }

/-- SETS_ACTIVE (08, object 0x7000 sub 1): sets between BEGUN and APPLIED. -/
def Obj.SETS_ACTIVE : RegId :=
  { idx := 0x7000, sub := 1, size := 2 }

/-- TRIGGERS_KEPT (08, object 0x7000 sub 2): triggers kept under R282. -/
def Obj.TRIGGERS_KEPT : RegId :=
  { idx := 0x7000, sub := 2, size := 2 }

/-- PROG_HEADER (08, object 0x7001 sub 2): header of the selected slot (R270). -/
def Obj.PROG_HEADER (q : Nat) : RegId :=
  { idx := 0x7001, sub := 2, sel := q, size := 8 }

/-- PROG_WORD_n (08, object 0x7001 sub 3–34): instructions 2(n − 3) and 2(n − 3) + 1. -/
def Obj.PROG_WORD (n q : Nat) : RegId :=
  { idx := 0x7001, sub := n, sel := q, size := 8 }

/-- K_n (08, object 0x7002 sub 2–17): constant k(n − 2) of the selected bank. -/
def Obj.K (n q : Nat) : RegId :=
  { idx := 0x7002, sub := n, sel := q, size := 4 }

/-- SET_W0–W3 (08, object 0x7003 sub 2–5): entry bits [63:0] up to [255:192] (R267). -/
def Obj.SET_W (n q : Nat) : RegId :=
  { idx := 0x7003, sub := n, sel := q, dflt := if n = 5 then 0xA0000000000000 else 0, size := 8 }

/-- BANK_STEP_BLOCKS (08, object 0x7004 sub 1): blocks per bank step of the selected set (R287). -/
def Obj.BANK_STEP_BLOCKS : RegId :=
  { idx := 0x7004, sub := 1, size := 2 }

/-- LOMLEK_STEP_ISSUES (08, object 0x7004 sub 2): issues per Lomlek step of the selected set. -/
def Obj.LOMLEK_STEP_ISSUES : RegId :=
  { idx := 0x7004, sub := 2, size := 2 }

/-- CLIP_TENSOR_n (08, object 0x7010 sub 1–4): [23:0] clip tensor of group n − 1 (R300). -/
def Obj.CLIP_TENSOR (n : Nat) : RegId :=
  { idx := 0x7010, sub := n, size := 4 }

/-- NSQ_n (08, object 0x7010 sub 5–8): NSQ of group n − 5 in this step (R301). -/
def Obj.NSQ (n : Nat) : RegId :=
  { idx := 0x7010, sub := n, size := 4 }

/-- BLOCKS_APPLIED (08, object 0x7020 sub 1): blocks applied, primary and mirror. -/
def Obj.BLOCKS_APPLIED : RegId :=
  { idx := 0x7020, sub := 1, size := 8 }

/-- BLOCKS_SKIPPED (08, object 0x7020 sub 2): non-finite blocks skipped (R296). -/
def Obj.BLOCKS_SKIPPED : RegId :=
  { idx := 0x7020, sub := 2, size := 8 }

/-- NONFINITE_STORES (08, object 0x7020 sub 3): non-finite values stored, saturating (R297). -/
def Obj.NONFINITE_STORES : RegId :=
  { idx := 0x7020, sub := 3, size := 4, ovf := .sat }

/-- SUSPENSIONS (08, object 0x7020 sub 4): step boundaries given to refresh, retrain or commit (R288). -/
def Obj.SUSPENSIONS : RegId :=
  { idx := 0x7020, sub := 4, size := 8 }

/-- HELD_ACCESSES (08, object 0x7020 sub 5): reads and writes held (R290, R291). -/
def Obj.HELD_ACCESSES : RegId :=
  { idx := 0x7020, sub := 5, size := 8 }

/-- MAX_HOLD (08, object 0x7020 sub 6): longest hold since power-on, ticks. -/
def Obj.MAX_HOLD : RegId :=
  { idx := 0x7020, sub := 6, size := 4 }

/-- COMMITTED_STEP (09, object 0x7100 sub 1): COMMITTED (R306). -/
def Obj.COMMITTED_STEP : RegId :=
  { idx := 0x7100, sub := 1, size := 8 }

/-- OPEN_STEP (09, object 0x7100 sub 2): OPEN. -/
def Obj.OPEN_STEP : RegId :=
  { idx := 0x7100, sub := 2, dflt := 1, size := 8 }

/-- STEP_STATE (09, object 0x7100 sub 3): 0 OPEN, 1 CONFIRMED, 2 RESTORING. -/
def Obj.STEP_STATE : RegId :=
  { idx := 0x7100, sub := 3, size := 1 }

/-- BOW_MARGIN (09, object 0x7100 sub 5): beats, 1–1,024 (R318). -/
def Obj.BOW_MARGIN : RegId :=
  { idx := 0x7100, sub := 5, dflt := 16, size := 2 }

/-- BOWS_COMMITTED (09, object 0x7100 sub 6): commits, saturating. -/
def Obj.BOWS_COMMITTED : RegId :=
  { idx := 0x7100, sub := 6, size := 4, ovf := .sat }

/-- BOWS_OPEN (09, object 0x7100 sub 7): Bows that committed nothing, saturating. -/
def Obj.BOWS_OPEN : RegId :=
  { idx := 0x7100, sub := 7, size := 4, ovf := .sat }

/-- REPAIR_POLICY (09, object 0x7110 sub 1): R333. -/
def Obj.REPAIR_POLICY : RegId :=
  { idx := 0x7110, sub := 1, size := 1 }

/-- DIVERGENT_BLOCKS (09, object 0x7110 sub 2): blocks reported, saturating. -/
def Obj.DIVERGENT_BLOCKS : RegId :=
  { idx := 0x7110, sub := 2, size := 4, ovf := .sat }

/-- LAST_DIVERGENCE (09, object 0x7110 sub 3): [63:40] tensor id; [39:0] digest block. -/
def Obj.LAST_DIVERGENCE : RegId :=
  { idx := 0x7110, sub := 3, size := 8 }

/-- REPAIRS (09, object 0x7110 sub 4): blocks repaired or re-derived, saturating. -/
def Obj.REPAIRS : RegId :=
  { idx := 0x7110, sub := 4, size := 4, ovf := .sat }

/-- RESTORE_SET (09, object 0x7120 sub 2): set number, or 0xFFFF for every set. -/
def Obj.RESTORE_SET : RegId :=
  { idx := 0x7120, sub := 2, dflt := 0xffff, size := 2 }

/-- RESTORE_STATE (09, object 0x7120 sub 3): 0 idle, 1 donating, 2 receiving, 3 done, 4 failed. -/
def Obj.RESTORE_STATE : RegId :=
  { idx := 0x7120, sub := 3, size := 1 }

/-- RESTORE_SECTORS (09, object 0x7120 sub 4): sectors sent or received. -/
def Obj.RESTORE_SECTORS : RegId :=
  { idx := 0x7120, sub := 4, size := 8 }

/-- PHASE (09, object 0x7130 sub 1): 0 generate, 1 learn. -/
def Obj.PHASE : RegId :=
  { idx := 0x7130, sub := 1, dflt := 1, size := 1 }

/-- IMAGE_SELECT (09, object 0x7130 sub 2): [15] image: 0 generate, 1 learn; [9:0] entry: 0–511 values, 512–575 moves, 576 update run state. -/
def Obj.PH_IMAGE_SELECT : RegId :=
  { idx := 0x7130, sub := 2, size := 2 }

/-- IMAGE_ADDR (09, object 0x7130 sub 3): value entry: [31:16] index, [15:8] subindex; 0 for an empty entry. -/
def Obj.IMAGE_ADDR (q : Nat) : RegId :=
  { idx := 0x7130, sub := 3, sel := q, size := 4 }

/-- IMAGE_VALUE (09, object 0x7130 sub 4): value entry: value. Move entry: [63:40] tensor id, [38:37] tier, [36:0] DEST. -/
def Obj.IMAGE_VALUE (q : Nat) : RegId :=
  { idx := 0x7130, sub := 4, sel := q, size := 8 }

/-- LAST_SWITCH (09, object 0x7130 sub 5): µs from firing to restart of the last PHASE. -/
def Obj.LAST_SWITCH : RegId :=
  { idx := 0x7130, sub := 5, size := 4 }

/-- PARTNER_ROLE (09, object 0x8400 sub 1): 1 lead, 0 follow, from the strap (R310). -/
def Obj.PARTNER_ROLE : RegId :=
  { idx := 0x8400, sub := 1, size := 1 }

/-- PARTNER_NODE (09, object 0x8400 sub 2): [23:0] partner's node id. -/
def Obj.PARTNER_NODE : RegId :=
  { idx := 0x8400, sub := 2, size := 4 }

/-- PARTNER_LINKS (09, object 0x8400 sub 3): bit k: link Lk carries partner traffic. -/
def Obj.PARTNER_LINKS : RegId :=
  { idx := 0x8400, sub := 3, dflt := 0xff, size := 8 }

/-- PARTNER_SHARE (09, object 0x8400 sub 4): percent, 5–50 (R311). -/
def Obj.PARTNER_SHARE : RegId :=
  { idx := 0x8400, sub := 4, dflt := 20, size := 1 }

/-- PARTNER_STATE (09, object 0x8400 sub 5): 0 unsynced, 1 synced, 2 mismatch, 3 partner in Sit-out or absent. -/
def Obj.PARTNER_STATE : RegId :=
  { idx := 0x8400, sub := 5, size := 1 }

/-- PARTNER_COMMITTED (09, object 0x8400 sub 6): partner's COMMITTED at the last PROMENADE_SYNC. -/
def Obj.PARTNER_COMMITTED : RegId :=
  { idx := 0x8400, sub := 6, size := 8 }

/-- NODE_ID (10, object 0x8001 sub 1): [23:0] node id (R361). -/
def Obj.NODE_ID : RegId :=
  { idx := 0x8001, sub := 1, size := 4 }

/-- LINK_CONTROL_n (10, object 0x8002 sub 1–64): link n − 1: 0 disabled, 1 enabled, 2 retrain now (reads back 1). -/
def Obj.LINK_CONTROL (n : Nat) : RegId :=
  { idx := 0x8002, sub := n, dflt := 1, size := 1 }

/-- LINK_STATE_n (10, object 0x8003 sub 1–64): [63:60] 0 DARK, 1 TRAINING, 2 UP, 3 HOLD, 4 DOWN, 5 LOCKED_OUT; [59:56] last reason (R374); [55] far TRANSIT_OFF; [53:48] far link; [23:0] far node id. -/
def Obj.LINK_STATE (n : Nat) : RegId :=
  { idx := 0x8003, sub := n, size := 8 }

/-- LINK_BUFFER_n (10, object 0x8004 sub 1–64): flit slots, 256–16,384 (R354). -/
def Obj.LINK_BUFFER (n : Nat) : RegId :=
  { idx := 0x8004, sub := n, dflt := 1280, size := 2 }

/-- RTT (10, object 0x8005 sub 2): ticks, one-second mean. -/
def Obj.RTT (q : Nat) : RegId :=
  { idx := 0x8005, sub := 2, sel := q, size := 4 }

/-- NEED (10, object 0x8005 sub 3): flits for full rate. -/
def Obj.NEED (q : Nat) : RegId :=
  { idx := 0x8005, sub := 3, sel := q, size := 2 }

/-- RX_POWER (10, object 0x8005 sub 4): [31:16] lane 1, [15:0] lane 0, signed, 0.01 dBm. -/
def Obj.RX_POWER (q : Nat) : RegId :=
  { idx := 0x8005, sub := 4, sel := q, size := 4 }

/-- TX_POWER (10, object 0x8005 sub 5): as RX_POWER. -/
def Obj.TX_POWER (q : Nat) : RegId :=
  { idx := 0x8005, sub := 5, sel := q, size := 4 }

/-- PREFEC_BER (10, object 0x8005 sub 6): bit error ratio × 10^12, last second. -/
def Obj.PREFEC_BER (q : Nat) : RegId :=
  { idx := 0x8005, sub := 6, sel := q, size := 4 }

/-- CW_CORRECTED (10, object 0x8005 sub 7): codewords corrected. -/
def Obj.CW_CORRECTED (q : Nat) : RegId :=
  { idx := 0x8005, sub := 7, sel := q, size := 8 }

/-- CW_UNCORRECTABLE (10, object 0x8005 sub 8): codewords uncorrectable. -/
def Obj.CW_UNCORRECTABLE (q : Nat) : RegId :=
  { idx := 0x8005, sub := 8, sel := q, size := 8 }

/-- REPLAYS (10, object 0x8005 sub 9): NAKs received, saturating. -/
def Obj.REPLAYS (q : Nat) : RegId :=
  { idx := 0x8005, sub := 9, sel := q, size := 4, ovf := .sat }

/-- DOWNS (10, object 0x8005 sub 10): times down, saturating. -/
def Obj.DOWNS (q : Nat) : RegId :=
  { idx := 0x8005, sub := 10, sel := q, size := 4, ovf := .sat }

/-- LINK_ASYM (10, object 0x8005 sub 11): ps (R371). -/
def Obj.LINK_ASYM (q : Nat) : RegId :=
  { idx := 0x8005, sub := 11, sel := q, size := 4 }

/-- ASYM_VALID (10, object 0x8005 sub 12): R371, R372. -/
def Obj.ASYM_VALID (q : Nat) : RegId :=
  { idx := 0x8005, sub := 12, sel := q, size := 1 }

/-- ROUTE_ENTRY (10, object 0x8010 sub 2): selected entry (R362). -/
def Obj.ROUTE_ENTRY (q : Nat) : RegId :=
  { idx := 0x8010, sub := 2, sel := q, size := 4 }

/-- DISCARDS (10, object 0x8011 sub 1–3): no route, hop limit, second escalation. -/
def Obj.DISCARDS (n : Nat) : RegId :=
  { idx := 0x8011, sub := n, size := 4 }

/-- FAILOVERS (10, object 0x8011 sub 4): flits sent by an alternate. -/
def Obj.FAILOVERS : RegId :=
  { idx := 0x8011, sub := 4, size := 8 }

/-- PTP_MASTER_LINKS (10, object 0x8020 sub 1): bit k: Lk is a master port. -/
def Obj.PTP_MASTER_LINKS : RegId :=
  { idx := 0x8020, sub := 1, size := 8 }

/-- RING_MAX_AGE (10, object 0x8020 sub 2): s, 60–3,600 (R359). -/
def Obj.RING_MAX_AGE : RegId :=
  { idx := 0x8020, sub := 2, dflt := 600, size := 4 }

/-- URGENT_RING_CALS (10, object 0x8020 sub 3): saturating. -/
def Obj.URGENT_RING_CALS : RegId :=
  { idx := 0x8020, sub := 3, size := 4, ovf := .sat }

/-- PLAN_WORD_n (11, object 0x8100 sub 2–65): sector (n − 2) div 4 of the selected slot, bits [64k + 63 : 64k] with k = (n − 2) mod 4. -/
def Obj.PLAN_WORD (n q : Nat) : RegId :=
  { idx := 0x8100, sub := n, sel := q, size := 8 }

/-- IN_FLIGHT (11, object 0x8101 sub 1): slots held (R387). -/
def Obj.IN_FLIGHT : RegId :=
  { idx := 0x8101, sub := 1, size := 1 }

/-- SLOT_n (11, object 0x8101 sub 2–17): slot n − 2: [31:28] 0 free, 1 waiting for contributions, 2 running, 3 ending; [27:23] round; [12:0] TAG. -/
def Obj.SLOT (n : Nat) : RegId :=
  { idx := 0x8101, sub := n, size := 4 }

/-- COMPLETED (11, object 0x8102 sub 1): collectives completed, saturating. -/
def Obj.COMPLETED : RegId :=
  { idx := 0x8102, sub := 1, size := 4, ovf := .sat }

/-- ENDED_AT_DEADLINE (11, object 0x8102 sub 2): R408. -/
def Obj.COL_ENDED_AT_DEADLINE : RegId :=
  { idx := 0x8102, sub := 2, size := 4 }

/-- ABORTED_EARLY (11, object 0x8102 sub 3): R410, R411, R412. -/
def Obj.ABORTED_EARLY : RegId :=
  { idx := 0x8102, sub := 3, size := 4 }

/-- LATER_ROUNDS (11, object 0x8102 sub 4): rounds after round 0. -/
def Obj.LATER_ROUNDS : RegId :=
  { idx := 0x8102, sub := 4, size := 4 }

/-- WIDE_FLITS (11, object 0x8102 sub 5): REDUCE flits sent wide (R394). -/
def Obj.WIDE_FLITS : RegId :=
  { idx := 0x8102, sub := 5, size := 8 }

/-- REALIGNED_BLOCKS (11, object 0x8102 sub 6): blocks redone at their own largest exponent. -/
def Obj.REALIGNED_BLOCKS : RegId :=
  { idx := 0x8102, sub := 6, size := 8 }

/-- SPARE_SWITCHES (11, object 0x8102 sub 7): R414. -/
def Obj.SPARE_SWITCHES : RegId :=
  { idx := 0x8102, sub := 7, size := 4 }

/-- SPARE_PLANS (11, object 0x8102 sub 8): R416. -/
def Obj.SPARE_PLANS : RegId :=
  { idx := 0x8102, sub := 8, size := 4 }

/-- SLOT_ID (12, object 0x9001 sub 1): strap value (R446). -/
def Obj.SLOT_ID : RegId :=
  { idx := 0x9001, sub := 1, size := 1 }

/-- LINK_WIDTH (12, object 0x9001 sub 2): 0 down, 8, 16. -/
def Obj.LINK_WIDTH : RegId :=
  { idx := 0x9001, sub := 2, size := 1 }

/-- LINK_RATE (12, object 0x9001 sub 3): GT/s. -/
def Obj.LINK_RATE : RegId :=
  { idx := 0x9001, sub := 3, size := 1 }

/-- SQ_BASE (12, object 0x9010 sub 2): host address, 128-byte aligned; refused while enabled. -/
def Obj.SQ_BASE (q : Nat) : RegId :=
  { idx := 0x9010, sub := 2, sel := q, size := 8 }

/-- SQ_SIZE (12, object 0x9010 sub 3): entries, a power of two, 64–65,536; refused while enabled. -/
def Obj.SQ_SIZE (q : Nat) : RegId :=
  { idx := 0x9010, sub := 3, sel := q, dflt := 64, size := 4 }

/-- CQ_BASE (12, object 0x9010 sub 4): host address, 16-byte aligned; refused while enabled. -/
def Obj.CQ_BASE (q : Nat) : RegId :=
  { idx := 0x9010, sub := 4, sel := q, size := 8 }

/-- CQ_SIZE (12, object 0x9010 sub 5): as SQ_SIZE. -/
def Obj.CQ_SIZE (q : Nat) : RegId :=
  { idx := 0x9010, sub := 5, sel := q, dflt := 64, size := 4 }

/-- CQ_VECTOR (12, object 0x9010 sub 6): vector 0–15. -/
def Obj.CQ_VECTOR (q : Nat) : RegId :=
  { idx := 0x9010, sub := 6, sel := q, dflt := q, size := 1 }

/-- COALESCE (12, object 0x9010 sub 7): [31:16] COALESCE_COUNT 1–256; [15:0] COALESCE_TIME µs, 0 none. -/
def Obj.COALESCE (q : Nat) : RegId :=
  { idx := 0x9010, sub := 7, sel := q, dflt := 0x10000, size := 4 }

/-- QUEUE_ENABLE (12, object 0x9010 sub 8): 1 enabled; 0 stops taking entries, and running tasks complete. -/
def Obj.QUEUE_ENABLE (q : Nat) : RegId :=
  { idx := 0x9010, sub := 8, sel := q, size := 1 }

/-- QUEUE_STATE (12, object 0x9010 sub 9): [31:28] 0 disabled, 1 running, 2 head waiting, 3 held (R437); [15:0] head index. -/
def Obj.QUEUE_STATE (q : Nat) : RegId :=
  { idx := 0x9010, sub := 9, sel := q, size := 4 }

/-- HOST_LATE (12, object 0x9020 sub 1): host requests over 50 ms, saturating (R435). -/
def Obj.HOST_LATE : RegId :=
  { idx := 0x9020, sub := 1, size := 4, ovf := .sat }

/-- UE_READS (12, object 0x9020 sub 2): uncorrectable host reads, wrapping (R431). -/
def Obj.UE_READS : RegId :=
  { idx := 0x9020, sub := 2, size := 4, ovf := .wrap }

/-- BI_TIMEOUTS (12, object 0x9020 sub 3): R430, saturating. -/
def Obj.BI_TIMEOUTS : RegId :=
  { idx := 0x9020, sub := 3, size := 4, ovf := .sat }

/-- BI_TIMEOUT (12, object 0x9020 sub 4): ms, 1–1,000. -/
def Obj.BI_TIMEOUT : RegId :=
  { idx := 0x9020, sub := 4, dflt := 10, size := 2 }

/-- LINKDOWN_CANCEL (12, object 0x9020 sub 5): s, 0–3,600; 0 never (R423). -/
def Obj.LINKDOWN_CANCEL : RegId :=
  { idx := 0x9020, sub := 5, dflt := 10, size := 4 }

/-- COMMIT_SET (13, object 0x2010 sub 1): function set (R452). -/
def Obj.COMMIT_SET : RegId :=
  { idx := 0x2010, sub := 1, size := 2 }

/-- COMMIT_TIME (13, object 0x2010 sub 2): Count at which the commit begins, or at which it applies when the Caller is named; 0 means at once. -/
def Obj.COMMIT_TIME : RegId :=
  { idx := 0x2010, sub := 2, size := 8 }

/-- COMMIT_STATE (13, object 0x2010 sub 4): 0 idle, 1 armed, 2 waiting for the time, 3 stopping, 4 validating, 5 waiting for the measure boundary, 6 applying, 7 restarting. -/
def Obj.COMMIT_STATE : RegId :=
  { idx := 0x2010, sub := 4, size := 1 }

/-- COMMIT_RESULT (13, object 0x2010 sub 5): 0, or the abort code of the last commit or validation. -/
def Obj.COMMIT_RESULT : RegId :=
  { idx := 0x2010, sub := 5, size := 4 }

/-- COMMIT_FAILED_AT (13, object 0x2010 sub 6): [31:16] index, [15:8] subindex of the first value that failed validation. -/
def Obj.COMMIT_FAILED_AT : RegId :=
  { idx := 0x2010, sub := 6, size := 4 }

/-- COMMIT_TIMEOUT (13, object 0x2010 sub 7): ms allowed for stopping, 1–10,000. -/
def Obj.COMMIT_TIMEOUT : RegId :=
  { idx := 0x2010, sub := 7, dflt := 100, size := 4 }

/-- COMMIT_LEAD (13, object 0x2010 sub 8): µs by which stopping precedes a timed Caller commit, 10–100,000. -/
def Obj.COMMIT_LEAD : RegId :=
  { idx := 0x2010, sub := 8, dflt := 1000, size := 4 }

/-- COMMITS (13, object 0x2010 sub 9): commits applied, saturating. -/
def Obj.COMMITS : RegId :=
  { idx := 0x2010, sub := 9, size := 4, ovf := .sat }

/-- COMMITS_FAILED (13, object 0x2010 sub 10): commits failed, saturating. -/
def Obj.COMMITS_FAILED : RegId :=
  { idx := 0x2010, sub := 10, size := 4, ovf := .sat }

/-- LAST_APPLIED (13, object 0x2010 sub 11): Count at which the last commit took effect. -/
def Obj.LAST_APPLIED : RegId :=
  { idx := 0x2010, sub := 11, size := 8 }

/-- FABRIC_WRITES (13, object 0x2030 sub 1): 1: Cavo writes to F objects allowed. -/
def Obj.FABRIC_WRITES : RegId :=
  { idx := 0x2030, sub := 1, size := 1 }

/-- FABRIC_MANAGER (13, object 0x2030 sub 2): [23:0] only source node for Cavo writes; 0 any. -/
def Obj.FABRIC_MANAGER : RegId :=
  { idx := 0x2030, sub := 2, size := 4 }

/-- FABRIC_EID (13, object 0x2030 sub 3): MCTP endpoint ID on Cavo. -/
def Obj.FABRIC_EID : RegId :=
  { idx := 0x2030, sub := 3, dflt := 0x10, size := 1 }

/-- HOST_WRITES (13, object 0x2030 sub 4): 0: CXL is read-only. -/
def Obj.HOST_WRITES : RegId :=
  { idx := 0x2030, sub := 4, dflt := 1, size := 1 }

/-- LAST_BAR_ABORT (13, object 0x2030 sub 5): last refused control-space write. -/
def Obj.LAST_BAR_ABORT : RegId :=
  { idx := 0x2030, sub := 5, size := 4 }

/-- VENDOR_ID (13, object 0x1000 sub 1): Jestaut's PCI vendor ID, as in function 0. -/
def Obj.VENDOR_ID : RegId :=
  { idx := 0x1000, sub := 1, size := 2 }

/-- DEVICE_ID (13, object 0x1000 sub 2): as in function 0. -/
def Obj.DEVICE_ID : RegId :=
  { idx := 0x1000, sub := 2, dflt := 0x2128, size := 2 }

/-- REACH (13, object 0x1000 sub 4): 0 short, 1 long (R3). -/
def Obj.REACH : RegId :=
  { idx := 0x1000, sub := 4, size := 1 }

/-- SERIAL (13, object 0x1000 sub 5): as the Device Serial Number capability. -/
def Obj.SERIAL : RegId :=
  { idx := 0x1000, sub := 5, size := 8 }

/-- HW_REVISION (13, object 0x1000 sub 6): module hardware revision. -/
def Obj.HW_REVISION : RegId :=
  { idx := 0x1000, sub := 6, size := 2 }

/-- FW_VERSION (13, object 0x1000 sub 7): [31:24] major, [23:16] minor, [15:0] build. -/
def Obj.FW_VERSION : RegId :=
  { idx := 0x1000, sub := 7, size := 4 }

/-- DICT_VERSION (13, object 0x1000 sub 8): dictionary layout of this edition. -/
def Obj.DICT_VERSION : RegId :=
  { idx := 0x1000, sub := 8, dflt := 1, size := 2 }

/-- RUN_STATE_n (13, object 0x2000 sub 1–7): 0 Stopped, 1 Starting, 2 Running, 3 Stopping (R454). -/
def Obj.RUN_STATE (n : Nat) : RegId :=
  { idx := 0x2000, sub := n, size := 1 }

/-- STAGED_COUNT (13, object 0x2011 sub 1): staged values. -/
def Obj.STAGED_COUNT : RegId :=
  { idx := 0x2011, sub := 1, size := 4 }

/-- STAGE_OWNER (13, object 0x2011 sub 2): [31:30] 0 none, 1 I3C, 2 CXL, 3 Cavo; [23:0] source node or EID. -/
def Obj.STAGE_OWNER : RegId :=
  { idx := 0x2011, sub := 2, size := 4 }

/-- STAGE_MODE (13, object 0x2011 sub 3): per transport (R458). -/
def Obj.STAGE_MODE : RegId :=
  { idx := 0x2011, sub := 3, size := 1 }

/-- STAGE_IDLE (13, object 0x2011 sub 4): I3C-only; s, 10–86,400 (R460). -/
def Obj.STAGE_IDLE : RegId :=
  { idx := 0x2011, sub := 4, dflt := 300, size := 4 }

/-- SAVE_STATE (13, object 0x2020 sub 2): 0 clean, 1 pending, 2 writing, 3 failed. -/
def Obj.SAVE_STATE : RegId :=
  { idx := 0x2020, sub := 2, size := 1 }

/-- FLASH_WRITES (13, object 0x2020 sub 3): images written, saturating. -/
def Obj.FLASH_WRITES : RegId :=
  { idx := 0x2020, sub := 3, size := 4, ovf := .sat }

/-- FAULT_STATE (14, object 0xA000 sub 1): 0 normal, 1 Sit-out, 2 halt. -/
def Obj.FAULT_STATE : RegId :=
  { idx := 0xa000, sub := 1, size := 1 }

/-- CAUSE (14, object 0xA000 sub 2): recorder code that caused Sit-out or halt. -/
def Obj.CAUSE : RegId :=
  { idx := 0xa000, sub := 2, size := 2 }

/-- CAUSE_VALUE (14, object 0xA000 sub 3): its value. -/
def Obj.CAUSE_VALUE : RegId :=
  { idx := 0xa000, sub := 3, size := 4 }

/-- CAUSE_COUNT (14, object 0xA000 sub 4): Count at entry. -/
def Obj.CAUSE_COUNT : RegId :=
  { idx := 0xa000, sub := 4, size := 8 }

/-- QUEUE_DEPTH (14, object 0xA001 sub 1): entries, 0–64. -/
def Obj.QUEUE_DEPTH : RegId :=
  { idx := 0xa001, sub := 1, size := 1 }

/-- HANDLING (14, object 0xA001 sub 2): severity in hand; 0xFF idle. -/
def Obj.HANDLING : RegId :=
  { idx := 0xa001, sub := 2, dflt := 0xff, size := 1 }

/-- QUEUE_SELECT (14, object 0xA001 sub 3): entry 0–63, oldest first. -/
def Obj.ERR_QUEUE_SELECT : RegId :=
  { idx := 0xa001, sub := 3, size := 1 }

/-- ENTRY_HI (14, object 0xA001 sub 4): bits [127:64] of the selected entry (R482). -/
def Obj.ENTRY_HI : RegId :=
  { idx := 0xa001, sub := 4, size := 8 }

/-- ENTRY_LO (14, object 0xA001 sub 5): bits [63:0]. -/
def Obj.ENTRY_LO : RegId :=
  { idx := 0xa001, sub := 5, size := 8 }

/-- DROPPED_S0 (14, object 0xA001 sub 6): R484, saturating. -/
def Obj.DROPPED_S0 : RegId :=
  { idx := 0xa001, sub := 6, size := 4, ovf := .sat }

/-- COLLAPSED (14, object 0xA001 sub 7): R484, saturating. -/
def Obj.COLLAPSED : RegId :=
  { idx := 0xa001, sub := 7, size := 4, ovf := .sat }

/-- ALERT_LATCH (14, object 0xA002 sub 1): [4:0] bit n: an Sn event since clear. -/
def Obj.ALERT_LATCH : RegId :=
  { idx := 0xa002, sub := 1, size := 1 }

/-- ALERT_MASK (14, object 0xA002 sub 3): [4:0] severities that pull ALERT_N. -/
def Obj.ALERT_MASK : RegId :=
  { idx := 0xa002, sub := 3, dflt := 0x1c, size := 1 }

/-- WATCHDOG_MS (14, object 0xA011 sub 1): ms, 100–10,000 (R500). -/
def Obj.WATCHDOG_MS : RegId :=
  { idx := 0xa011, sub := 1, dflt := 1000, size := 2 }

/-- REPEAT_LIMIT (14, object 0xA011 sub 2): per hour, 1–64 (R502). -/
def Obj.REPEAT_LIMIT : RegId :=
  { idx := 0xa011, sub := 2, dflt := 4, size := 1 }

/-- EXTRACT_TENSOR (14, object 0xA020 sub 1): F; [23:0] source tensor. -/
def Obj.EXTRACT_TENSOR : RegId :=
  { idx := 0xa020, sub := 1, size := 4 }

/-- EXTRACT_DEST (14, object 0xA020 sub 2): F; [63:40] destination tensor, [23:0] destination node. -/
def Obj.EXTRACT_DEST : RegId :=
  { idx := 0xa020, sub := 2, size := 8 }

/-- EXTRACT_START (14, object 0xA020 sub 3): F; first sector. -/
def Obj.EXTRACT_START : RegId :=
  { idx := 0xa020, sub := 3, size := 8 }

/-- EXTRACT_LENGTH (14, object 0xA020 sub 4): F; sectors; 0 to the end of the tensor. -/
def Obj.EXTRACT_LENGTH : RegId :=
  { idx := 0xa020, sub := 4, size := 8 }

/-- EXTRACT_STATE (14, object 0xA020 sub 6): 0 idle, 1 sending, 2 done, 3 failed. -/
def Obj.EXTRACT_STATE : RegId :=
  { idx := 0xa020, sub := 6, size := 1 }

/-- EXTRACT_SENT (14, object 0xA020 sub 7): sectors sent. -/
def Obj.EXTRACT_SENT : RegId :=
  { idx := 0xa020, sub := 7, size := 8 }

/-- EXTRACT_BAD (14, object 0xA020 sub 8): uncorrectable sectors sent as stored. -/
def Obj.EXTRACT_BAD : RegId :=
  { idx := 0xa020, sub := 8, size := 8 }

/-- EXTRACT_MISSING (14, object 0xA020 sub 9): sectors in lost units, not sent. -/
def Obj.EXTRACT_MISSING : RegId :=
  { idx := 0xa020, sub := 9, size := 8 }

/-- EXTRACT_FIRST_BAD (14, object 0xA020 sub 10): offset of the first bad sector. -/
def Obj.EXTRACT_FIRST_BAD : RegId :=
  { idx := 0xa020, sub := 10, size := 8 }

/-- RECORDS_USED (15, object 0xB000 sub 1): records in use. -/
def Obj.RECORDS_USED : RegId :=
  { idx := 0xb000, sub := 1, size := 2 }

/-- OVERWRITES (15, object 0xB000 sub 2): R513, saturating. -/
def Obj.OVERWRITES : RegId :=
  { idx := 0xb000, sub := 2, size := 4, ovf := .sat }

/-- SEQUENCE (15, object 0xB000 sub 3): current sequence number. -/
def Obj.SEQUENCE : RegId :=
  { idx := 0xb000, sub := 3, size := 4 }

/-- POWER_CYCLES (15, object 0xB000 sub 4): [19:0] power-cycle count. -/
def Obj.POWER_CYCLES : RegId :=
  { idx := 0xb000, sub := 4, size := 4 }

/-- OP_HOURS (15, object 0xB000 sub 5): operating hours, 1/16 s. -/
def Obj.OP_HOURS : RegId :=
  { idx := 0xb000, sub := 5, size := 8 }

/-- HOLD_OVERFLOW (15, object 0xB000 sub 6): R517, saturating. -/
def Obj.HOLD_OVERFLOW : RegId :=
  { idx := 0xb000, sub := 6, size := 4, ovf := .sat }

/-- CLASS_TOTAL_n (15, object 0xB001 sub 1–9): events of class n (R514). -/
def Obj.CLASS_TOTAL (n : Nat) : RegId :=
  { idx := 0xb001, sub := n, size := 8 }

/-- RECORD_W0–W7 (15, object 0xB010 sub 2–9): record bits [63:0] up to [511:448]. -/
def Obj.RECORD_W (n : Nat) : RegId :=
  { idx := 0xb010, sub := n, size := 8 }

/-- RATE_LIMIT (15, object 0xB020 sub 2): [31:16] RATE per second, [15:0] BURST; 0xFFFF_FFFF unlimited; 0 restores the default; a 257th override refused with 0x0200_0001. -/
def Obj.RATE_LIMIT (q : Nat) : RegId :=
  { idx := 0xb020, sub := 2, sel := q, size := 4 }

/-- HELD_NOTIFICATIONS (15, object 0xB020 sub 3): R516, saturating. -/
def Obj.HELD_NOTIFICATIONS : RegId :=
  { idx := 0xb020, sub := 3, size := 4, ovf := .sat }

/-- FLUSH_STATE (15, object 0xB030 sub 2): 0 idle, 1 snapshot, 2 programming, 3 erasing. -/
def Obj.FLUSH_STATE : RegId :=
  { idx := 0xb030, sub := 2, size := 1 }

/-- FLUSHES (15, object 0xB030 sub 3): images written since power-on, saturating. -/
def Obj.FLUSHES : RegId :=
  { idx := 0xb030, sub := 3, size := 4, ovf := .sat }

/-- IMAGE_SELECT (15, object 0xB030 sub 4): slot 0–6. -/
def Obj.REC_IMAGE_SELECT : RegId :=
  { idx := 0xb030, sub := 4, size := 1 }

/-- S2_FLUSH_INTERVAL (15, object 0xB030 sub 6): s, 10–3,600. -/
def Obj.S2_FLUSH_INTERVAL : RegId :=
  { idx := 0xb030, sub := 6, dflt := 60, size := 2 }

/-- SAMPLE_INDEX (15, object 0xB100 sub 2): samples taken since power-on. -/
def Obj.SAMPLE_INDEX : RegId :=
  { idx := 0xb100, sub := 2, size := 4 }

/-- SET_ITEM_n (15, object 0xB110 sub 2–65): item n − 2: [31:16] index, [15:8] subindex; 0 empty. -/
def Obj.SET_ITEM (n q : Nat) : RegId :=
  { idx := 0xb110, sub := n, sel := q, size := 4 }

/-- COLLECTOR (15, object 0xB110 sub 66): [23:0] collector node; 0 none. -/
def Obj.COLLECTOR (q : Nat) : RegId :=
  { idx := 0xb110, sub := 66, sel := q, size := 4 }

/-- OP_POINT (16, object 0xC000 sub 1): 0 Surge, 1 Full, 2 Reduced, 3 Sit-out. -/
def Obj.OP_POINT : RegId :=
  { idx := 0xc000, sub := 1, dflt := 1, size := 1 }

/-- OP_REQUEST (16, object 0xC000 sub 2): 0 Full, 1 Surge (R543), 2 Reduced; decision point at the next pass boundary. -/
def Obj.OP_REQUEST : RegId :=
  { idx := 0xc000, sub := 2, size := 1 }

/-- POINT_CHANGES (16, object 0xC000 sub 3): changes of point, saturating. -/
def Obj.POINT_CHANGES : RegId :=
  { idx := 0xc000, sub := 3, size := 4, ovf := .sat }

/-- LAST_SURGE_END (16, object 0xC000 sub 4): cause of R544, 0 none. -/
def Obj.LAST_SURGE_END : RegId :=
  { idx := 0xc000, sub := 4, size := 1 }

/-- POWER_BUDGET (16, object 0xC001 sub 1): F; W, 1,000–1,800 in steps of 10 (R536). -/
def Obj.POWER_BUDGET : RegId :=
  { idx := 0xc001, sub := 1, dflt := 1800, size := 2 }

/-- SURGE_BUDGET (16, object 0xC001 sub 2): W, 1,800–2,080. -/
def Obj.SURGE_BUDGET : RegId :=
  { idx := 0xc001, sub := 2, dflt := 2080, size := 2 }

/-- EFFECTIVE_BUDGET (16, object 0xC001 sub 3): W, after derating (R540). -/
def Obj.EFFECTIVE_BUDGET : RegId :=
  { idx := 0xc001, sub := 3, dflt := 1800, size := 2 }

/-- WINDOW_POWER (16, object 0xC001 sub 4): W, window average. -/
def Obj.WINDOW_POWER : RegId :=
  { idx := 0xc001, sub := 4, size := 2 }

/-- THROTTLE_GAP (16, object 0xC001 sub 5): idle cycles before each PASS (R537). -/
def Obj.THROTTLE_GAP : RegId :=
  { idx := 0xc001, sub := 5, size := 2 }

/-- DIE_HOTSPOT (16, object 0xC010 sub 1): 1/8 °C. -/
def Obj.DIE_HOTSPOT : RegId :=
  { idx := 0xc010, sub := 1, size := 2 }

/-- COOLANT_IN (16, object 0xC010 sub 2): 1/8 °C. -/
def Obj.COOLANT_IN : RegId :=
  { idx := 0xc010, sub := 2, size := 2 }

/-- COOLANT_OUT (16, object 0xC010 sub 3): 1/8 °C. -/
def Obj.COOLANT_OUT : RegId :=
  { idx := 0xc010, sub := 3, size := 2 }

/-- FLOW_ESTIMATE (16, object 0xC010 sub 4): 0.01 L/min; 0xFFFF when invalid (R551). -/
def Obj.FLOW_ESTIMATE : RegId :=
  { idx := 0xc010, sub := 4, size := 2 }

/-- WEAR_UNITS (16, object 0xC020 sub 1): units since manufacture (R553). -/
def Obj.WEAR_UNITS : RegId :=
  { idx := 0xc020, sub := 1, size := 8 }

/-- RATED_UNITS (16, object 0xC020 sub 2): rated life (R556). -/
def Obj.RATED_UNITS : RegId :=
  { idx := 0xc020, sub := 2, dflt := 0xd286880, size := 8 }

/-- SURGE_ALLOWANCE (16, object 0xC020 sub 3): s per 24 h of operating time, 0–3,600. -/
def Obj.SURGE_ALLOWANCE : RegId :=
  { idx := 0xc020, sub := 3, dflt := 600, size := 2 }

/-- SURGE_USED_24H (16, object 0xC020 sub 4): Surge seconds in the last 24 h (R554). -/
def Obj.SURGE_USED_24H : RegId :=
  { idx := 0xc020, sub := 4, size := 2 }

/-- LIFE_REMAINING (16, object 0xC020 sub 5): days, estimate. -/
def Obj.LIFE_REMAINING : RegId :=
  { idx := 0xc020, sub := 5, size := 4 }

/-- SURGE_MAX_CONTINUOUS (16, object 0xC020 sub 6): s, 1–30 (R544). -/
def Obj.SURGE_MAX_CONTINUOUS : RegId :=
  { idx := 0xc020, sub := 6, dflt := 30, size := 1 }

/-- BOOT_SLOT (17, object 0xD000 sub 1): slot booted, 0–1. -/
def Obj.BOOT_SLOT : RegId :=
  { idx := 0xd000, sub := 1, size := 1 }

/-- BOOT_STATUS (17, object 0xD000 sub 2): [31:28] last rejection reason of slot 0, [27:24] of slot 1 (R559); [0] previous boot ended in recovery. -/
def Obj.BOOT_STATUS : RegId :=
  { idx := 0xd000, sub := 2, size := 4 }

/-- FUSED_SVN (17, object 0xD000 sub 3): R564. -/
def Obj.FUSED_SVN : RegId :=
  { idx := 0xd000, sub := 3, size := 1 }

/-- IMAGE_SVN (17, object 0xD000 sub 4): running image. -/
def Obj.IMAGE_SVN : RegId :=
  { idx := 0xd000, sub := 4, size := 1 }

/-- REVOKED (17, object 0xD000 sub 5): [3:0] bit k: key k revoked. -/
def Obj.REVOKED : RegId :=
  { idx := 0xd000, sub := 5, size := 1 }

/-- DEBUG_SCOPE (17, object 0xD000 sub 6): [2:0] scopes open. -/
def Obj.DEBUG_SCOPE : RegId :=
  { idx := 0xd000, sub := 6, size := 1 }

/-- FW_OFFSET (17, object 0xD010 sub 1): byte offset in the inactive slot, multiple of 8. -/
def Obj.FW_OFFSET : RegId :=
  { idx := 0xd010, sub := 1, size := 4 }

/-- FW_STATE (17, object 0xD010 sub 5): 0 idle, 1 loading, 2 verifying, 3 pending, 4 rejected. -/
def Obj.FW_STATE : RegId :=
  { idx := 0xd010, sub := 5, size := 1 }

/-- NONCE_W0–W3 (17, object 0xD020 sub 2–5): F; nonce bytes 0–31. -/
def Obj.NONCE_W (n : Nat) : RegId :=
  { idx := 0xd020, sub := n, size := 8 }

/-- ATTEST_STATE (17, object 0xD020 sub 7): 0 idle, 1 building, 2 ready, 3 refused. -/
def Obj.ATTEST_STATE : RegId :=
  { idx := 0xd020, sub := 7, size := 1 }

/-- MEASURE_STATE (17, object 0xD030 sub 2): 0 idle, 1 measuring, 2 extended, 3 failed. -/
def Obj.MEASURE_STATE : RegId :=
  { idx := 0xd030, sub := 2, size := 1 }

/-- EXTEND_COUNT (17, object 0xD030 sub 3): extensions since boot. -/
def Obj.EXTEND_COUNT : RegId :=
  { idx := 0xd030, sub := 3, size := 4 }

/-- TOKEN_OFFSET (17, object 0xD040 sub 2): I3C-only; byte offset, multiple of 8. -/
def Obj.TOKEN_OFFSET : RegId :=
  { idx := 0xd040, sub := 2, size := 2 }

/-- LAST_RESET (18, object 0x2041 sub 1): 0 power-on, 1 PERST_N. -/
def Obj.LAST_RESET : RegId :=
  { idx := 0x2041, sub := 1, size := 1 }

/-- BRINGUP_STEP (18, object 0x2041 sub 2): step in progress 1–6; 7 READY. -/
def Obj.BRINGUP_STEP : RegId :=
  { idx := 0x2041, sub := 2, dflt := 1, size := 1 }

/-- BRINGUP_MS (18, object 0x2041 sub 3): ms from the start of bring-up to READY; 0 before READY. -/
def Obj.BRINGUP_MS : RegId :=
  { idx := 0x2041, sub := 3, size := 4 }

/-- COUNT_WAIT (18, object 0x2041 sub 4): s, 0–40 (R582). -/
def Obj.COUNT_WAIT : RegId :=
  { idx := 0x2041, sub := 4, dflt := 30, size := 2 }

/-- FLRS (18, object 0x2041 sub 5): function-level resets since power-on, saturating. -/
def Obj.FLRS : RegId :=
  { idx := 0x2041, sub := 5, size := 4, ovf := .sat }

/-- RANK_COLLECTIVE (19, object 0x6200 sub 1): 0–7 (R591, R597). -/
def Obj.RANK_COLLECTIVE : RegId :=
  { idx := 0x6200, sub := 1, dflt := 7, size := 1 }

/-- RANK_UPDATE (19, object 0x6200 sub 2): 0–7. -/
def Obj.RANK_UPDATE : RegId :=
  { idx := 0x6200, sub := 2, dflt := 6, size := 1 }

/-- RANK_STREAM_READ (19, object 0x6200 sub 3): 0–7. -/
def Obj.RANK_STREAM_READ : RegId :=
  { idx := 0x6200, sub := 3, dflt := 5, size := 1 }

/-- RANK_STREAM_WRITE (19, object 0x6200 sub 4): 0–7. -/
def Obj.RANK_STREAM_WRITE : RegId :=
  { idx := 0x6200, sub := 4, dflt := 4, size := 1 }

/-- RANK_MOVER (19, object 0x6200 sub 5): 0–7. -/
def Obj.RANK_MOVER : RegId :=
  { idx := 0x6200, sub := 5, dflt := 3, size := 1 }

/-- RANK_HOST (19, object 0x6200 sub 6): 0–7; replaced during a window (R596). -/
def Obj.RANK_HOST : RegId :=
  { idx := 0x6200, sub := 6, dflt := 2, size := 1 }

/-- RANK_BACKGROUND (19, object 0x6200 sub 7): 0–7. -/
def Obj.RANK_BACKGROUND : RegId :=
  { idx := 0x6200, sub := 7, dflt := 1, size := 1 }

/-- RANK_BACKGROUND_IN_FIGURE (19, object 0x6200 sub 8): 0–7. -/
def Obj.RANK_BACKGROUND_IN_FIGURE : RegId :=
  { idx := 0x6200, sub := 8, dflt := 7, size := 1 }

/-- FREEZE (19, object 0x6201 sub 1): bit n − 1: class of sub n frozen (R598, R600); bit 7 reserved. -/
def Obj.FREEZE : RegId :=
  { idx := 0x6201, sub := 1, size := 1 }

/-- FREEZE_SCOPE (19, object 0x6201 sub 2): 0 every arbiter, 1 Floor slices, 2 fast-tier channels, 3 slow-tier sub-channels. -/
def Obj.FREEZE_SCOPE : RegId :=
  { idx := 0x6201, sub := 2, size := 1 }

/-- DRAINED (19, object 0x6201 sub 3): bit n − 1: no granted request of class n outstanding in scope. -/
def Obj.DRAINED : RegId :=
  { idx := 0x6201, sub := 3, dflt := 0x7f, size := 1 }

/-- COMMIT_FREEZE (19, object 0x6201 sub 4): bits set by a commit in progress (R601). -/
def Obj.COMMIT_FREEZE : RegId :=
  { idx := 0x6201, sub := 4, size := 1 }

/-- GRANTS_n (19, object 0x6202 sub 2–9): grants to class n − 1 at the selected arbiter since power-on, wrapping. -/
def Obj.GRANTS (n q : Nat) : RegId :=
  { idx := 0x6202, sub := n, sel := q, size := 8, ovf := .wrap }

/-- PIN_INPUTS (20, object 0xC030 sub 1): live levels: [0] PERST_N, [1] PWR_FAIL_N, [2] LASER_EN, [3] TIME_PPS_IN, [9:4] SLOT_ID[5:0], [10] PARTNER_ROLE; [15:11] 0. -/
def Obj.PIN_INPUTS : RegId :=
  { idx := 0xc030, sub := 1, size := 2 }

/-- HOLDUP_OK (20, object 0xC030 sub 2): 1: hold-up store charged to its rated energy (R616). -/
def Obj.HOLDUP_OK : RegId :=
  { idx := 0xc030, sub := 2, size := 1 }

/-- Rows of the dictionary tables, part 1. -/
def objRows1 : List ObjRow :=
  [⟨0x3000, 0x3000, 1, 1, 8, .ro, .fixed, false, 0, 0xffffffffffffffff, [], 1, false, false⟩,
   ⟨0x3001, 0x3001, 1, 1, 1, .rw, .commit, true, 0, 0xff, [(0, 1)], 1, false, false⟩,
   ⟨0x3001, 0x3001, 2, 2, 1, .rw, .commit, true, 0, 0xff, [(0, 63)], 1, false, false⟩,
   ⟨0x3001, 0x3001, 3, 3, 1, .rw, .commit, true, 252, 0xff, [(0, 0), (249, 255)], 1, false, false⟩,
   ⟨0x3001, 0x3001, 4, 4, 1, .rw, .commit, true, 0, 0xff, [], 1, false, false⟩,
   ⟨0x3002, 0x3002, 1, 1, 1, .ro, .fixed, false, 0, 0xff, [], 1, false, false⟩,
   ⟨0x3002, 0x3002, 2, 2, 4, .ro, .fixed, false, 0, 0xffffffff, [], 1, false, false⟩,
   ⟨0x3002, 0x3002, 3, 3, 4, .ro, .fixed, false, 0, 0xffffffff, [], 1, false, false⟩,
   ⟨0x3002, 0x3002, 4, 4, 4, .ro, .fixed, false, 0, 0xffffffff, [], 1, false, false⟩,
   ⟨0x3004, 0x3004, 1, 1, 8, .wo, .live, false, 0, 0xffffffffffffffff, [], 1, false, false⟩,
   ⟨0x3010, 0x3010, 1, 1, 1, .rw, .commit, true, 16, 0xff, [(10, 24)], 1, false, false⟩,
   ⟨0x3011, 0x3011, 1, 1, 8, .ro, .fixed, false, 0, 0xffffffffffffffff, [], 1, false, false⟩,
   ⟨0x3011, 0x3011, 2, 2, 2, .ro, .fixed, false, 0, 0xffff, [], 1, false, false⟩,
   ⟨0x3020, 0x3020, 1, 1, 1, .rw, .live, true, 0, 0xff, [(0, 1)], 1, true, false⟩,
   ⟨0x3020, 0x3020, 2, 2, 8, .rw, .live, false, 0, 0xffffffffffffffff, [], 1, true, false⟩,
   ⟨0x3030, 0x3030, 1, 255, 4, .ro, .fixed, false, 0, 0xffffffff, [], 1, false, false⟩,
   ⟨0x3040, 0x3040, 1, 1, 4, .ro, .fixed, false, 0, 0xffffffff, [], 1, false, false⟩,
   ⟨0x3040, 0x3040, 2, 2, 4, .ro, .fixed, false, 0, 0xffffffff, [], 1, false, false⟩,
   ⟨0x3040, 0x3040, 3, 3, 4, .ro, .fixed, false, 0, 0xffffffff, [], 1, false, false⟩,
   ⟨0x3040, 0x3040, 4, 4, 4, .ro, .fixed, false, 0, 0xffffffff, [], 1, false, false⟩,
   ⟨0x3100, 0x32ff, 1, 1, 8, .rw, .commit, true, 0, 0x8ffffffffffffff0, [], 1, false, false⟩,
   ⟨0x3100, 0x32ff, 2, 2, 8, .rw, .commit, true, 0, 0xffffffffffffffff, [], 1, false, false⟩]

/-- Rows of the dictionary tables, part 2. -/
def objRows2 : List ObjRow :=
  [⟨0x4100, 0x4100, 1, 1, 8, .rw, .commit, true, 0, 0xffffffffffffffff, [], 1, false, false⟩,
   ⟨0x4100, 0x4100, 2, 2, 8, .ro, .fixed, false, 0, 0xffffffffffffffff, [], 1, false, false⟩,
   ⟨0x4101, 0x4101, 1, 1, 1, .rw, .stopped, true, 1, 0xff, [(0, 3)], 1, false, false⟩,
   ⟨0x4101, 0x4101, 2, 2, 1, .ro, .fixed, false, 2, 0xff, [], 1, false, false⟩,
   ⟨0x4102, 0x4102, 1, 1, 4, .ro, .fixed, false, 0, 0xffffffff, [], 1, false, false⟩,
   ⟨0x4102, 0x4102, 2, 2, 4, .ro, .fixed, false, 0, 0xffffffff, [], 1, false, false⟩,
   ⟨0x4102, 0x4102, 3, 3, 4, .ro, .fixed, false, 0, 0xffffffff, [], 1, false, false⟩,
   ⟨0x4103, 0x4103, 1, 1, 4, .wo, .live, false, 0, 0xffffff, [], 1, false, false⟩,
   ⟨0x4001, 0x4001, 1, 16, 4, .ro, .fixed, false, 0, 0xffffffff, [], 1, false, false⟩,
   ⟨0x4002, 0x4002, 1, 1, 4, .ro, .fixed, false, 0, 0xffffffff, [], 1, false, false⟩,
   ⟨0x4002, 0x4002, 2, 2, 4, .ro, .fixed, false, 0, 0xffffffff, [], 1, false, false⟩,
   ⟨0x4002, 0x4002, 3, 3, 8, .ro, .fixed, false, 0, 0xffffffffffffffff, [], 1, false, false⟩,
   ⟨0x4002, 0x4002, 4, 4, 8, .ro, .fixed, false, 0, 0xffffffffffffffff, [], 1, false, false⟩,
   ⟨0x4010, 0x4010, 1, 64, 4, .ro, .fixed, false, 0, 0xffffffff, [], 1, false, false⟩]

/-- Rows of the dictionary tables, part 3. -/
def objRows3 : List ObjRow :=
  [⟨0x5001, 0x5001, 1, 1, 1, .rw, .stopped, true, 60, 0xff, [(5, 90)], 5, false, false⟩,
   ⟨0x5001, 0x5001, 2, 2, 1, .rw, .stopped, true, 25, 0xff, [(5, 90)], 5, false, false⟩,
   ⟨0x5001, 0x5001, 3, 3, 1, .rw, .stopped, true, 15, 0xff, [(5, 90)], 5, false, false⟩,
   ⟨0x5010, 0x5010, 1, 64, 4, .ro, .fixed, false, 0, 0xffffffff, [], 1, false, false⟩,
   ⟨0x5020, 0x5020, 1, 1, 4, .ro, .fixed, false, 0, 0xffffffff, [], 1, false, false⟩,
   ⟨0x5020, 0x5020, 2, 2, 4, .ro, .fixed, false, 0, 0xffffffff, [], 1, false, false⟩,
   ⟨0x5020, 0x5020, 3, 3, 4, .ro, .fixed, false, 0, 0xffffffff, [], 1, false, false⟩,
   ⟨0x5020, 0x5020, 4, 4, 4, .ro, .fixed, false, 0, 0xffffffff, [], 1, false, false⟩,
   ⟨0x5030, 0x5030, 1, 1, 4, .ro, .fixed, false, 0, 0xffffffff, [], 1, false, false⟩,
   ⟨0x5030, 0x5030, 2, 2, 8, .ro, .fixed, false, 0, 0xffffffffffffffff, [], 1, false, false⟩]

/-- Rows of the dictionary tables, part 4. -/
def objRows4 : List ObjRow :=
  [⟨0x6001, 0x6001, 1, 1, 8, .ro, .fixed, false, 0x7fc0000000, 0xffffffffffffffff, [], 1, false, false⟩,
   ⟨0x6001, 0x6001, 2, 2, 8, .ro, .fixed, false, 0xc000000000, 0xffffffffffffffff, [], 1, false, false⟩,
   ⟨0x6002, 0x6002, 1, 1, 8, .ro, .fixed, false, 0, 0xffffffffffffffff, [], 1, false, false⟩,
   ⟨0x6002, 0x6002, 2, 2, 8, .ro, .fixed, false, 0, 0xffffffffffffffff, [], 1, false, false⟩,
   ⟨0x6002, 0x6002, 3, 3, 8, .ro, .fixed, false, 0, 0xffffffffffffffff, [], 1, false, false⟩,
   ⟨0x6002, 0x6002, 4, 4, 4, .ro, .fixed, false, 0, 0xffffffff, [], 1, false, false⟩,
   ⟨0x6010, 0x6010, 1, 1, 4, .rw, .live, false, 0, 0xffffff, [], 1, false, false⟩,
   ⟨0x6010, 0x6010, 2, 5, 8, .ro, .fixed, false, 0, 0xffffffffffffffff, [], 1, false, false⟩,
   ⟨0x6020, 0x6020, 1, 1, 2, .rw, .live, true, 1000, 0xffff, [(64, 65535)], 1, false, false⟩,
   ⟨0x6020, 0x6020, 2, 2, 8, .ro, .fixed, false, 0, 0xffffffffffffffff, [], 1, false, false⟩,
   ⟨0x6020, 0x6020, 3, 3, 8, .ro, .fixed, false, 0, 0xffffffffffffffff, [], 1, false, false⟩,
   ⟨0x6030, 0x6030, 1, 1, 4, .ro, .fixed, false, 0, 0xffffffff, [], 1, false, false⟩,
   ⟨0x6030, 0x6030, 2, 2, 4, .ro, .fixed, false, 0, 0xffffffff, [], 1, false, false⟩,
   ⟨0x6030, 0x6030, 3, 3, 4, .ro, .fixed, false, 0, 0xffffffff, [], 1, false, false⟩,
   ⟨0x6030, 0x6030, 4, 4, 8, .ro, .fixed, false, 0, 0xffffffffffffffff, [], 1, false, false⟩,
   ⟨0x6030, 0x6030, 5, 5, 1, .rw, .live, true, 0, 0xff, [(0, 1)], 1, false, false⟩,
   ⟨0x6031, 0x6031, 1, 8, 4, .ro, .fixed, false, 0, 0xffffffff, [], 1, false, false⟩]

/-- Rows of the dictionary tables, part 5. -/
def objRows5 : List ObjRow :=
  [⟨0xe100, 0xe100, 1, 1, 2, .rw, .live, false, 0, 0xffff, [(0, 303), (65535, 65535)], 1, false, false⟩,
   ⟨0xe100, 0xe100, 2, 2, 1, .rw, .live, false, 0, 0xff, [(0, 4)], 1, false, false⟩,
   ⟨0xe100, 0xe100, 3, 3, 1, .rw, .live, false, 0, 0xff, [(0, 3)], 1, false, false⟩,
   ⟨0xe100, 0xe100, 4, 4, 4, .rw, .live, false, 0, 0xffffffff, [(0, 536870911)], 1, false, false⟩,
   ⟨0xe100, 0xe100, 5, 5, 4, .rw, .live, false, 0, 0xffffffff, [], 1, false, false⟩,
   ⟨0xe100, 0xe100, 6, 6, 4, .rw, .live, false, 1, 0xffffffff, [(1, 4294967295)], 1, false, false⟩,
   ⟨0xe100, 0xe100, 7, 7, 1, .wo, .live, false, 0, 0xff, [(1, 2)], 1, false, false⟩,
   ⟨0xe100, 0xe100, 8, 8, 1, .ro, .fixed, false, 0, 0xff, [], 1, false, false⟩,
   ⟨0xe100, 0xe100, 9, 9, 4, .ro, .fixed, false, 0, 0xffffffff, [], 1, false, false⟩,
   ⟨0xe100, 0xe100, 10, 10, 8, .ro, .fixed, false, 0, 0xffffffffffffffff, [], 1, false, false⟩]

/-- Rows of the dictionary tables, part 6. -/
def objRows6 : List ObjRow :=
  [⟨0x6100, 0x6100, 1, 8, 2, .ro, .fixed, false, 0, 0xffff, [], 1, false, false⟩,
   ⟨0x6100, 0x6100, 9, 20, 2, .ro, .fixed, false, 0, 0xffff, [], 1, false, false⟩,
   ⟨0x6101, 0x6101, 1, 8, 4, .ro, .fixed, false, 0, 0xffffffff, [], 1, false, false⟩,
   ⟨0x6101, 0x6101, 9, 14, 4, .ro, .fixed, false, 0, 0xffffffff, [], 1, false, false⟩,
   ⟨0x6110, 0x6110, 1, 1, 8, .ro, .fixed, false, 0, 0xffffffffffffffff, [], 1, false, false⟩,
   ⟨0x6120, 0x6120, 1, 1, 1, .rw, .live, true, 25, 0xff, [(10, 75)], 1, false, false⟩,
   ⟨0x6120, 0x6120, 2, 2, 4, .rw, .live, true, 100, 0xffffffff, [(0, 10000)], 1, false, false⟩,
   ⟨0x6120, 0x6120, 3, 3, 4, .rw, .live, true, 60, 0xffffffff, [(10, 600)], 1, false, false⟩,
   ⟨0x6120, 0x6120, 4, 4, 4, .ro, .fixed, false, 0, 0xffffffff, [], 1, false, false⟩,
   ⟨0x6120, 0x6120, 5, 5, 4, .ro, .fixed, false, 0, 0xffffffff, [], 1, false, false⟩,
   ⟨0x6120, 0x6120, 6, 6, 8, .ro, .fixed, false, 0, 0xffffffffffffffff, [], 1, false, false⟩,
   ⟨0x6130, 0x6130, 1, 1, 4, .rw, .live, true, 14400, 0xffffffff, [(3600, 86400)], 1, false, false⟩,
   ⟨0x6130, 0x6130, 2, 2, 4, .rw, .live, true, 28800, 0xffffffff, [(3600, 172800)], 1, false, false⟩,
   ⟨0x6130, 0x6130, 3, 3, 2, .rw, .live, true, 64, 0xffff, [(8, 1024)], 1, false, false⟩,
   ⟨0x6130, 0x6130, 4, 4, 2, .rw, .live, true, 16, 0xffff, [(2, 256)], 1, false, false⟩,
   ⟨0x6130, 0x6130, 5, 5, 8, .ro, .fixed, false, 0, 0xffffffffffffffff, [], 1, false, false⟩,
   ⟨0x6130, 0x6130, 6, 6, 8, .ro, .fixed, false, 0, 0xffffffffffffffff, [], 1, false, false⟩,
   ⟨0x6130, 0x6130, 7, 7, 4, .ro, .fixed, false, 0, 0xffffffff, [], 1, false, false⟩,
   ⟨0x6140, 0x6140, 1, 1, 2, .rw, .live, true, 4096, 0xffff, [(64, 65535)], 1, false, false⟩,
   ⟨0x6140, 0x6140, 2, 2, 2, .rw, .live, true, 16, 0xffff, [(1, 1024)], 1, false, false⟩,
   ⟨0x6140, 0x6140, 3, 3, 2, .rw, .live, true, 16, 0xffff, [(1, 4096)], 1, false, false⟩,
   ⟨0x6150, 0x6150, 1, 1, 2, .rw, .live, false, 0, 0xffff, [(0, 303)], 1, false, false⟩,
   ⟨0x6150, 0x6150, 2, 2, 4, .ro, .fixed, false, 0, 0xffffffff, [], 1, false, false⟩,
   ⟨0x6150, 0x6150, 3, 3, 4, .ro, .fixed, false, 0, 0xffffffff, [], 1, false, false⟩,
   ⟨0x6150, 0x6150, 4, 4, 4, .ro, .fixed, false, 0, 0xffffffff, [], 1, false, false⟩,
   ⟨0x6150, 0x6150, 5, 5, 1, .ro, .fixed, false, 0, 0xff, [], 1, false, false⟩,
   ⟨0x6150, 0x6150, 6, 6, 8, .ro, .fixed, false, 0, 0xffffffffffffffff, [], 1, false, false⟩]

/-- Rows of the dictionary tables, part 7. -/
def objRows7 : List ObjRow :=
  [⟨0x7000, 0x7000, 1, 1, 2, .ro, .fixed, false, 0, 0xffff, [], 1, false, false⟩,
   ⟨0x7000, 0x7000, 2, 2, 2, .ro, .fixed, false, 0, 0xffff, [], 1, false, false⟩,
   ⟨0x7001, 0x7001, 1, 1, 1, .rw, .live, false, 0, 0xff, [(0, 15)], 1, false, false⟩,
   ⟨0x7001, 0x7001, 2, 2, 8, .rw, .commit, true, 0, 0xffffffffffffffff, [], 1, false, false⟩,
   ⟨0x7001, 0x7001, 3, 34, 8, .rw, .commit, true, 0, 0xffffffffffffffff, [], 1, false, false⟩,
   ⟨0x7002, 0x7002, 1, 1, 1, .rw, .live, false, 0, 0xff, [(0, 255)], 1, false, false⟩,
   ⟨0x7002, 0x7002, 2, 17, 4, .rw, .commit, true, 0, 0xffffffff, [], 1, false, false⟩,
   ⟨0x7003, 0x7003, 1, 1, 2, .rw, .live, false, 0, 0xffff, [(0, 2047)], 1, false, false⟩,
   ⟨0x7003, 0x7003, 2, 5, 8, .rw, .commit, true, 0, 0xffffffffffffffff, [], 1, false, false⟩,
   ⟨0x7004, 0x7004, 1, 1, 2, .ro, .fixed, false, 0, 0xffff, [], 1, false, false⟩,
   ⟨0x7004, 0x7004, 2, 2, 2, .ro, .fixed, false, 0, 0xffff, [], 1, false, false⟩,
   ⟨0x7010, 0x7010, 1, 4, 4, .rw, .commit, true, 0, 0xffffff, [], 1, false, false⟩,
   ⟨0x7010, 0x7010, 5, 8, 4, .ro, .fixed, false, 0, 0xffffffff, [], 1, false, false⟩,
   ⟨0x7020, 0x7020, 1, 1, 8, .ro, .fixed, false, 0, 0xffffffffffffffff, [], 1, false, false⟩,
   ⟨0x7020, 0x7020, 2, 2, 8, .ro, .fixed, false, 0, 0xffffffffffffffff, [], 1, false, false⟩,
   ⟨0x7020, 0x7020, 3, 3, 4, .ro, .fixed, false, 0, 0xffffffff, [], 1, false, false⟩,
   ⟨0x7020, 0x7020, 4, 4, 8, .ro, .fixed, false, 0, 0xffffffffffffffff, [], 1, false, false⟩,
   ⟨0x7020, 0x7020, 5, 5, 8, .ro, .fixed, false, 0, 0xffffffffffffffff, [], 1, false, false⟩,
   ⟨0x7020, 0x7020, 6, 6, 4, .ro, .fixed, false, 0, 0xffffffff, [], 1, false, false⟩,
   ⟨0x7030, 0x7030, 1, 1, 4, .wo, .live, false, 0, 0x7ff, [], 1, false, false⟩,
   ⟨0x7100, 0x7100, 1, 1, 8, .ro, .fixed, false, 0, 0xffffffffffffffff, [], 1, false, false⟩,
   ⟨0x7100, 0x7100, 2, 2, 8, .ro, .fixed, false, 1, 0xffffffffffffffff, [], 1, false, false⟩,
   ⟨0x7100, 0x7100, 3, 3, 1, .ro, .fixed, false, 0, 0xff, [], 1, false, false⟩,
   ⟨0x7100, 0x7100, 4, 4, 8, .wo, .stopped, false, 0, 0xffffffffffffffff, [], 1, false, false⟩,
   ⟨0x7100, 0x7100, 5, 5, 2, .rw, .commit, true, 16, 0xffff, [(1, 1024)], 1, false, false⟩,
   ⟨0x7100, 0x7100, 6, 6, 4, .ro, .fixed, false, 0, 0xffffffff, [], 1, false, false⟩,
   ⟨0x7100, 0x7100, 7, 7, 4, .ro, .fixed, false, 0, 0xffffffff, [], 1, false, false⟩,
   ⟨0x7110, 0x7110, 1, 1, 1, .rw, .live, true, 0, 0xff, [(0, 2)], 1, false, false⟩,
   ⟨0x7110, 0x7110, 2, 2, 4, .ro, .fixed, false, 0, 0xffffffff, [], 1, false, false⟩,
   ⟨0x7110, 0x7110, 3, 3, 8, .ro, .fixed, false, 0, 0xffffffffffffffff, [], 1, false, false⟩]

/-- Rows of the dictionary tables, part 8. -/
def objRows8 : List ObjRow :=
  [⟨0x7110, 0x7110, 4, 4, 4, .ro, .fixed, false, 0, 0xffffffff, [], 1, false, false⟩,
   ⟨0x7120, 0x7120, 1, 1, 1, .wo, .live, false, 0, 0xff, [(1, 5)], 1, true, false⟩,
   ⟨0x7120, 0x7120, 2, 2, 2, .rw, .live, false, 0xffff, 0xffff, [(0, 2047), (65535, 65535)], 1, true, false⟩,
   ⟨0x7120, 0x7120, 3, 3, 1, .ro, .fixed, false, 0, 0xff, [], 1, false, false⟩,
   ⟨0x7120, 0x7120, 4, 4, 8, .ro, .fixed, false, 0, 0xffffffffffffffff, [], 1, false, false⟩,
   ⟨0x7130, 0x7130, 1, 1, 1, .ro, .fixed, false, 1, 0xff, [], 1, false, false⟩,
   ⟨0x7130, 0x7130, 2, 2, 2, .rw, .live, false, 0, 0x83ff, [(0, 576), (32768, 33344)], 1, false, false⟩,
   ⟨0x7130, 0x7130, 3, 3, 4, .rw, .commit, true, 0, 0xffffff00, [], 1, false, false⟩,
   ⟨0x7130, 0x7130, 4, 4, 8, .rw, .commit, true, 0, 0xffffffffffffffff, [], 1, false, false⟩,
   ⟨0x7130, 0x7130, 5, 5, 4, .ro, .fixed, false, 0, 0xffffffff, [], 1, false, false⟩]

/-- Rows of the dictionary tables, part 9. -/
def objRows9 : List ObjRow :=
  [⟨0x8400, 0x8400, 1, 1, 1, .ro, .fixed, false, 0, 0xff, [], 1, false, false⟩,
   ⟨0x8400, 0x8400, 2, 2, 4, .rw, .commit, true, 0, 0xffffff, [], 1, false, false⟩,
   ⟨0x8400, 0x8400, 3, 3, 8, .rw, .commit, true, 0xff, 0xffffffffffffffff, [], 1, false, false⟩,
   ⟨0x8400, 0x8400, 4, 4, 1, .rw, .commit, true, 20, 0xff, [(5, 50)], 1, false, false⟩,
   ⟨0x8400, 0x8400, 5, 5, 1, .ro, .fixed, false, 0, 0xff, [], 1, false, false⟩,
   ⟨0x8400, 0x8400, 6, 6, 8, .ro, .fixed, false, 0, 0xffffffffffffffff, [], 1, false, false⟩,
   ⟨0x8001, 0x8001, 1, 1, 4, .rw, .commit, true, 0, 0xffffff, [], 1, false, false⟩,
   ⟨0x8002, 0x8002, 1, 64, 1, .rw, .live, true, 1, 0xff, [(0, 2)], 1, true, false⟩,
   ⟨0x8003, 0x8003, 1, 64, 8, .ro, .fixed, false, 0, 0xffffffffffffffff, [], 1, false, false⟩,
   ⟨0x8004, 0x8004, 1, 64, 2, .rw, .commit, true, 1280, 0xffff, [(256, 16384)], 1, false, false⟩,
   ⟨0x8005, 0x8005, 1, 1, 1, .rw, .live, false, 0, 0xff, [(0, 63)], 1, false, false⟩,
   ⟨0x8005, 0x8005, 2, 2, 4, .ro, .fixed, false, 0, 0xffffffff, [], 1, false, false⟩,
   ⟨0x8005, 0x8005, 3, 3, 2, .ro, .fixed, false, 0, 0xffff, [], 1, false, false⟩,
   ⟨0x8005, 0x8005, 4, 4, 4, .ro, .fixed, false, 0, 0xffffffff, [], 1, false, false⟩,
   ⟨0x8005, 0x8005, 5, 5, 4, .ro, .fixed, false, 0, 0xffffffff, [], 1, false, false⟩,
   ⟨0x8005, 0x8005, 6, 6, 4, .ro, .fixed, false, 0, 0xffffffff, [], 1, false, false⟩,
   ⟨0x8005, 0x8005, 7, 7, 8, .ro, .fixed, false, 0, 0xffffffffffffffff, [], 1, false, false⟩,
   ⟨0x8005, 0x8005, 8, 8, 8, .ro, .fixed, false, 0, 0xffffffffffffffff, [], 1, false, false⟩,
   ⟨0x8005, 0x8005, 9, 9, 4, .ro, .fixed, false, 0, 0xffffffff, [], 1, false, false⟩,
   ⟨0x8005, 0x8005, 10, 10, 4, .ro, .fixed, false, 0, 0xffffffff, [], 1, false, false⟩,
   ⟨0x8005, 0x8005, 11, 11, 4, .rw, .commit, true, 0, 0xffffffff, [], 1, false, false⟩,
   ⟨0x8005, 0x8005, 12, 12, 1, .ro, .fixed, true, 0, 0xff, [], 1, false, false⟩,
   ⟨0x8005, 0x8005, 13, 13, 1, .wo, .live, false, 0, 0xff, [(1, 1)], 1, false, false⟩,
   ⟨0x8010, 0x8010, 1, 1, 2, .rw, .live, false, 0, 0xffff, [(0, 4351)], 1, false, false⟩,
   ⟨0x8010, 0x8010, 2, 2, 4, .rw, .commit, true, 0, 0xffffffff, [], 1, false, false⟩,
   ⟨0x8011, 0x8011, 1, 3, 4, .ro, .fixed, false, 0, 0xffffffff, [], 1, false, false⟩,
   ⟨0x8011, 0x8011, 4, 4, 8, .ro, .fixed, false, 0, 0xffffffffffffffff, [], 1, false, false⟩,
   ⟨0x8020, 0x8020, 1, 1, 8, .rw, .commit, true, 0, 0xffffffffffffffff, [], 1, false, false⟩,
   ⟨0x8020, 0x8020, 2, 2, 4, .rw, .live, true, 600, 0xffffffff, [(60, 3600)], 1, false, false⟩,
   ⟨0x8020, 0x8020, 3, 3, 4, .ro, .fixed, false, 0, 0xffffffff, [], 1, false, false⟩]

/-- Rows of the dictionary tables, part 10. -/
def objRows10 : List ObjRow :=
  [⟨0x8100, 0x8100, 1, 1, 1, .rw, .live, false, 0, 0xff, [(0, 254)], 1, false, false⟩,
   ⟨0x8100, 0x8100, 2, 65, 8, .rw, .commit, true, 0, 0xffffffffffffffff, [], 1, false, false⟩,
   ⟨0x8101, 0x8101, 1, 1, 1, .ro, .fixed, false, 0, 0xff, [], 1, false, false⟩,
   ⟨0x8101, 0x8101, 2, 17, 4, .ro, .fixed, false, 0, 0xffffffff, [], 1, false, false⟩,
   ⟨0x8102, 0x8102, 1, 1, 4, .ro, .fixed, false, 0, 0xffffffff, [], 1, false, false⟩,
   ⟨0x8102, 0x8102, 2, 2, 4, .ro, .fixed, false, 0, 0xffffffff, [], 1, false, false⟩,
   ⟨0x8102, 0x8102, 3, 3, 4, .ro, .fixed, false, 0, 0xffffffff, [], 1, false, false⟩,
   ⟨0x8102, 0x8102, 4, 4, 4, .ro, .fixed, false, 0, 0xffffffff, [], 1, false, false⟩,
   ⟨0x8102, 0x8102, 5, 5, 8, .ro, .fixed, false, 0, 0xffffffffffffffff, [], 1, false, false⟩,
   ⟨0x8102, 0x8102, 6, 6, 8, .ro, .fixed, false, 0, 0xffffffffffffffff, [], 1, false, false⟩,
   ⟨0x8102, 0x8102, 7, 7, 4, .ro, .fixed, false, 0, 0xffffffff, [], 1, false, false⟩,
   ⟨0x8102, 0x8102, 8, 8, 4, .ro, .fixed, false, 0, 0xffffffff, [], 1, false, false⟩]

/-- Rows of the dictionary tables, part 11. -/
def objRows11 : List ObjRow :=
  [⟨0x9001, 0x9001, 1, 1, 1, .ro, .fixed, false, 0, 0xff, [], 1, false, false⟩,
   ⟨0x9001, 0x9001, 2, 2, 1, .ro, .fixed, false, 0, 0xff, [], 1, false, false⟩,
   ⟨0x9001, 0x9001, 3, 3, 1, .ro, .fixed, false, 0, 0xff, [], 1, false, false⟩,
   ⟨0x9010, 0x9010, 1, 1, 1, .rw, .live, false, 0, 0xff, [(0, 15)], 1, false, false⟩,
   ⟨0x9010, 0x9010, 2, 2, 8, .rw, .live, false, 0, 0xffffffffffffffff, [(0, 18446744073709551488)], 128, false, false⟩,
   ⟨0x9010, 0x9010, 3, 3, 4, .rw, .live, false, 64, 0xffffffff, [(64, 64), (128, 128), (256, 256), (512, 512), (1024, 1024), (2048, 2048), (4096, 4096), (8192, 8192), (16384, 16384), (32768, 32768), (65536, 65536)], 1, false, false⟩,
   ⟨0x9010, 0x9010, 4, 4, 8, .rw, .live, false, 0, 0xffffffffffffffff, [(0, 18446744073709551600)], 16, false, false⟩,
   ⟨0x9010, 0x9010, 5, 5, 4, .rw, .live, false, 64, 0xffffffff, [(64, 64), (128, 128), (256, 256), (512, 512), (1024, 1024), (2048, 2048), (4096, 4096), (8192, 8192), (16384, 16384), (32768, 32768), (65536, 65536)], 1, false, false⟩,
   ⟨0x9010, 0x9010, 6, 6, 1, .rw, .live, false, 0, 0xff, [(0, 15)], 1, false, false⟩,
   ⟨0x9010, 0x9010, 7, 7, 4, .rw, .live, false, 0x10000, 0xffffffff, [(65536, 16842751)], 1, false, false⟩,
   ⟨0x9010, 0x9010, 8, 8, 1, .rw, .live, false, 0, 0xff, [(0, 1)], 1, false, false⟩,
   ⟨0x9010, 0x9010, 9, 9, 4, .ro, .fixed, false, 0, 0xffffffff, [], 1, false, false⟩,
   ⟨0x9020, 0x9020, 1, 1, 4, .ro, .fixed, false, 0, 0xffffffff, [], 1, false, false⟩,
   ⟨0x9020, 0x9020, 2, 2, 4, .ro, .fixed, false, 0, 0xffffffff, [], 1, false, false⟩,
   ⟨0x9020, 0x9020, 3, 3, 4, .ro, .fixed, false, 0, 0xffffffff, [], 1, false, false⟩,
   ⟨0x9020, 0x9020, 4, 4, 2, .rw, .live, true, 10, 0xffff, [(1, 1000)], 1, false, false⟩,
   ⟨0x9020, 0x9020, 5, 5, 4, .rw, .live, true, 10, 0xffffffff, [(0, 3600)], 1, false, false⟩]

/-- Rows of the dictionary tables, part 12. -/
def objRows12 : List ObjRow :=
  [⟨0x2010, 0x2010, 1, 1, 2, .rw, .live, false, 0, 0xffff, [], 1, false, false⟩,
   ⟨0x2010, 0x2010, 2, 2, 8, .rw, .live, false, 0, 0xffffffffffffffff, [], 1, false, false⟩,
   ⟨0x2010, 0x2010, 3, 3, 1, .wo, .live, false, 0, 0xff, [(1, 5)], 1, false, false⟩,
   ⟨0x2010, 0x2010, 4, 4, 1, .ro, .fixed, false, 0, 0xff, [], 1, false, false⟩,
   ⟨0x2010, 0x2010, 5, 5, 4, .ro, .fixed, false, 0, 0xffffffff, [], 1, false, false⟩,
   ⟨0x2010, 0x2010, 6, 6, 4, .ro, .fixed, false, 0, 0xffffffff, [], 1, false, false⟩,
   ⟨0x2010, 0x2010, 7, 7, 4, .rw, .live, true, 100, 0xffffffff, [(1, 10000)], 1, false, false⟩,
   ⟨0x2010, 0x2010, 8, 8, 4, .rw, .live, true, 1000, 0xffffffff, [(10, 100000)], 1, false, false⟩,
   ⟨0x2010, 0x2010, 9, 9, 4, .ro, .fixed, false, 0, 0xffffffff, [], 1, false, false⟩,
   ⟨0x2010, 0x2010, 10, 10, 4, .ro, .fixed, false, 0, 0xffffffff, [], 1, false, false⟩,
   ⟨0x2010, 0x2010, 11, 11, 8, .ro, .fixed, false, 0, 0xffffffffffffffff, [], 1, false, false⟩,
   ⟨0x2030, 0x2030, 1, 1, 1, .rw, .live, true, 0, 0xff, [(0, 1)], 1, false, true⟩,
   ⟨0x2030, 0x2030, 2, 2, 4, .rw, .live, true, 0, 0xffffff, [], 1, false, true⟩,
   ⟨0x2030, 0x2030, 3, 3, 1, .rw, .live, true, 0x10, 0xff, [], 1, false, true⟩,
   ⟨0x2030, 0x2030, 4, 4, 1, .rw, .live, true, 1, 0xff, [(0, 1)], 1, false, true⟩,
   ⟨0x2030, 0x2030, 5, 5, 4, .ro, .fixed, false, 0, 0xffffffff, [], 1, false, false⟩]

/-- Rows of the dictionary tables, part 13. -/
def objRows13 : List ObjRow :=
  [⟨0x1000, 0x1000, 1, 1, 2, .ro, .fixed, false, 0, 0xffff, [], 1, false, false⟩,
   ⟨0x1000, 0x1000, 2, 2, 2, .ro, .fixed, false, 0x2128, 0xffff, [], 1, false, false⟩,
   ⟨0x1000, 0x1000, 3, 3, 0, .ro, .fixed, false, 0, 0x0, [], 1, false, false⟩,
   ⟨0x1000, 0x1000, 4, 4, 1, .ro, .fixed, false, 0, 0xff, [], 1, false, false⟩,
   ⟨0x1000, 0x1000, 5, 5, 8, .ro, .fixed, false, 0, 0xffffffffffffffff, [], 1, false, false⟩,
   ⟨0x1000, 0x1000, 6, 6, 2, .ro, .fixed, false, 0, 0xffff, [], 1, false, false⟩,
   ⟨0x1000, 0x1000, 7, 7, 4, .ro, .fixed, false, 0, 0xffffffff, [], 1, false, false⟩,
   ⟨0x1000, 0x1000, 8, 8, 2, .ro, .fixed, false, 1, 0xffff, [], 1, false, false⟩]

/-- Rows of the dictionary tables, part 14. -/
def objRows14 : List ObjRow :=
  [⟨0x2000, 0x2000, 1, 7, 1, .ro, .fixed, false, 0, 0xff, [], 1, false, false⟩,
   ⟨0x2001, 0x2001, 1, 7, 1, .wo, .live, false, 0, 0xff, [(1, 2)], 1, false, false⟩,
   ⟨0x2011, 0x2011, 1, 1, 4, .ro, .fixed, false, 0, 0xffffffff, [], 1, false, false⟩,
   ⟨0x2011, 0x2011, 2, 2, 4, .ro, .fixed, false, 0, 0xffffffff, [], 1, false, false⟩,
   ⟨0x2011, 0x2011, 3, 3, 1, .rw, .live, false, 0, 0xff, [(0, 1)], 1, false, false⟩,
   ⟨0x2011, 0x2011, 4, 4, 4, .rw, .live, true, 300, 0xffffffff, [(10, 86400)], 1, false, true⟩,
   ⟨0x2020, 0x2020, 1, 1, 1, .wo, .live, false, 0, 0xff, [(1, 2)], 1, false, false⟩,
   ⟨0x2020, 0x2020, 2, 2, 1, .ro, .fixed, false, 0, 0xff, [], 1, false, false⟩,
   ⟨0x2020, 0x2020, 3, 3, 4, .ro, .fixed, false, 0, 0xffffffff, [], 1, false, false⟩]

/-- Rows of the dictionary tables, part 15. -/
def objRows15 : List ObjRow :=
  [⟨0xa000, 0xa000, 1, 1, 1, .ro, .fixed, false, 0, 0xff, [], 1, false, false⟩,
   ⟨0xa000, 0xa000, 2, 2, 2, .ro, .fixed, false, 0, 0xffff, [], 1, false, false⟩,
   ⟨0xa000, 0xa000, 3, 3, 4, .ro, .fixed, false, 0, 0xffffffff, [], 1, false, false⟩,
   ⟨0xa000, 0xa000, 4, 4, 8, .ro, .fixed, false, 0, 0xffffffffffffffff, [], 1, false, false⟩,
   ⟨0xa001, 0xa001, 1, 1, 1, .ro, .fixed, false, 0, 0xff, [], 1, false, false⟩,
   ⟨0xa001, 0xa001, 2, 2, 1, .ro, .fixed, false, 0xff, 0xff, [], 1, false, false⟩,
   ⟨0xa001, 0xa001, 3, 3, 1, .rw, .live, false, 0, 0xff, [(0, 63)], 1, false, false⟩,
   ⟨0xa001, 0xa001, 4, 4, 8, .ro, .fixed, false, 0, 0xffffffffffffffff, [], 1, false, false⟩,
   ⟨0xa001, 0xa001, 5, 5, 8, .ro, .fixed, false, 0, 0xffffffffffffffff, [], 1, false, false⟩,
   ⟨0xa001, 0xa001, 6, 6, 4, .ro, .fixed, false, 0, 0xffffffff, [], 1, false, false⟩,
   ⟨0xa001, 0xa001, 7, 7, 4, .ro, .fixed, false, 0, 0xffffffff, [], 1, false, false⟩,
   ⟨0xa002, 0xa002, 1, 1, 1, .ro, .fixed, false, 0, 0xff, [], 1, false, false⟩,
   ⟨0xa002, 0xa002, 2, 2, 1, .wo, .live, false, 0, 0xff, [(1, 1)], 1, false, false⟩,
   ⟨0xa002, 0xa002, 3, 3, 1, .rw, .live, true, 0x1c, 0x1f, [], 1, false, false⟩,
   ⟨0xa010, 0xa010, 1, 1, 1, .wo, .live, false, 0, 0xff, [(90, 90)], 1, false, false⟩,
   ⟨0xa011, 0xa011, 1, 1, 2, .rw, .live, true, 1000, 0xffff, [(100, 10000)], 1, false, false⟩,
   ⟨0xa011, 0xa011, 2, 2, 1, .rw, .live, true, 4, 0xff, [(1, 64)], 1, false, false⟩,
   ⟨0xa020, 0xa020, 1, 1, 4, .rw, .live, false, 0, 0xffffff, [], 1, true, false⟩,
   ⟨0xa020, 0xa020, 2, 2, 8, .rw, .live, false, 0, 0xffffff0000ffffff, [], 1, true, false⟩,
   ⟨0xa020, 0xa020, 3, 3, 8, .rw, .live, false, 0, 0xffffffffffffffff, [], 1, true, false⟩,
   ⟨0xa020, 0xa020, 4, 4, 8, .rw, .live, false, 0, 0xffffffffffffffff, [], 1, true, false⟩,
   ⟨0xa020, 0xa020, 5, 5, 1, .wo, .live, false, 0, 0xff, [(1, 2)], 1, true, false⟩,
   ⟨0xa020, 0xa020, 6, 6, 1, .ro, .fixed, false, 0, 0xff, [], 1, false, false⟩,
   ⟨0xa020, 0xa020, 7, 7, 8, .ro, .fixed, false, 0, 0xffffffffffffffff, [], 1, false, false⟩,
   ⟨0xa020, 0xa020, 8, 8, 8, .ro, .fixed, false, 0, 0xffffffffffffffff, [], 1, false, false⟩,
   ⟨0xa020, 0xa020, 9, 9, 8, .ro, .fixed, false, 0, 0xffffffffffffffff, [], 1, false, false⟩,
   ⟨0xa020, 0xa020, 10, 10, 8, .ro, .fixed, false, 0, 0xffffffffffffffff, [], 1, false, false⟩]

/-- Rows of the dictionary tables, part 16. -/
def objRows16 : List ObjRow :=
  [⟨0xb000, 0xb000, 1, 1, 2, .ro, .fixed, false, 0, 0xffff, [], 1, false, false⟩,
   ⟨0xb000, 0xb000, 2, 2, 4, .ro, .fixed, false, 0, 0xffffffff, [], 1, false, false⟩,
   ⟨0xb000, 0xb000, 3, 3, 4, .ro, .fixed, false, 0, 0xffffffff, [], 1, false, false⟩,
   ⟨0xb000, 0xb000, 4, 4, 4, .ro, .fixed, false, 0, 0xffffffff, [], 1, false, false⟩,
   ⟨0xb000, 0xb000, 5, 5, 8, .ro, .fixed, false, 0, 0xffffffffffffffff, [], 1, false, false⟩,
   ⟨0xb000, 0xb000, 6, 6, 4, .ro, .fixed, false, 0, 0xffffffff, [], 1, false, false⟩,
   ⟨0xb001, 0xb001, 1, 9, 8, .ro, .fixed, false, 0, 0xffffffffffffffff, [], 1, false, false⟩,
   ⟨0xb010, 0xb010, 1, 1, 2, .rw, .live, false, 0, 0xffff, [(0, 2047)], 1, false, false⟩,
   ⟨0xb010, 0xb010, 2, 9, 8, .ro, .fixed, false, 0, 0xffffffffffffffff, [], 1, false, false⟩,
   ⟨0xb010, 0xb010, 10, 10, 4, .wo, .live, false, 0, 0xffff0fff, [], 1, false, false⟩,
   ⟨0xb020, 0xb020, 1, 1, 2, .rw, .live, false, 0, 0xffff, [], 1, false, false⟩,
   ⟨0xb020, 0xb020, 2, 2, 4, .rw, .live, true, 0, 0xffffffff, [], 1, false, false⟩,
   ⟨0xb020, 0xb020, 3, 3, 4, .ro, .fixed, false, 0, 0xffffffff, [], 1, false, false⟩,
   ⟨0xb030, 0xb030, 1, 1, 1, .wo, .live, false, 0, 0xff, [(1, 1)], 1, false, false⟩,
   ⟨0xb030, 0xb030, 2, 2, 1, .ro, .fixed, false, 0, 0xff, [], 1, false, false⟩,
   ⟨0xb030, 0xb030, 3, 3, 4, .ro, .fixed, false, 0, 0xffffffff, [], 1, false, false⟩,
   ⟨0xb030, 0xb030, 4, 4, 1, .rw, .live, false, 0, 0xff, [(0, 6)], 1, false, false⟩,
   ⟨0xb030, 0xb030, 5, 5, 0, .ro, .fixed, false, 0, 0x0, [], 1, false, false⟩,
   ⟨0xb030, 0xb030, 6, 6, 2, .rw, .live, true, 60, 0xffff, [(10, 3600)], 1, false, false⟩,
   ⟨0xb100, 0xb100, 1, 1, 0, .ro, .fixed, false, 0, 0x0, [], 1, false, false⟩,
   ⟨0xb100, 0xb100, 2, 2, 4, .ro, .fixed, false, 0, 0xffffffff, [], 1, false, false⟩,
   ⟨0xb110, 0xb110, 1, 1, 1, .rw, .live, false, 0, 0xff, [(0, 15)], 1, false, false⟩,
   ⟨0xb110, 0xb110, 2, 65, 4, .rw, .commit, true, 0, 0xffffff00, [], 1, false, false⟩,
   ⟨0xb110, 0xb110, 66, 66, 4, .rw, .commit, true, 0, 0xffffff, [], 1, false, false⟩,
   ⟨0xb110, 0xb110, 67, 67, 0, .ro, .fixed, false, 0, 0x0, [], 1, false, false⟩]

/-- Rows of the dictionary tables, part 17. -/
def objRows17 : List ObjRow :=
  [⟨0xc000, 0xc000, 1, 1, 1, .ro, .fixed, false, 1, 0xff, [], 1, false, false⟩,
   ⟨0xc000, 0xc000, 2, 2, 1, .rw, .live, false, 0, 0xff, [(0, 2)], 1, false, false⟩,
   ⟨0xc000, 0xc000, 3, 3, 4, .ro, .fixed, false, 0, 0xffffffff, [], 1, false, false⟩,
   ⟨0xc000, 0xc000, 4, 4, 1, .ro, .fixed, false, 0, 0xff, [], 1, false, false⟩,
   ⟨0xc001, 0xc001, 1, 1, 2, .rw, .live, true, 1800, 0xffff, [(1000, 1800)], 10, true, false⟩,
   ⟨0xc001, 0xc001, 2, 2, 2, .rw, .live, true, 2080, 0xffff, [(1800, 2080)], 1, false, false⟩,
   ⟨0xc001, 0xc001, 3, 3, 2, .ro, .fixed, false, 1800, 0xffff, [], 1, false, false⟩,
   ⟨0xc001, 0xc001, 4, 4, 2, .ro, .fixed, false, 0, 0xffff, [], 1, false, false⟩,
   ⟨0xc001, 0xc001, 5, 5, 2, .ro, .fixed, false, 0, 0xffff, [], 1, false, false⟩,
   ⟨0xc010, 0xc010, 1, 1, 2, .ro, .fixed, false, 0, 0xffff, [], 1, false, false⟩,
   ⟨0xc010, 0xc010, 2, 2, 2, .ro, .fixed, false, 0, 0xffff, [], 1, false, false⟩,
   ⟨0xc010, 0xc010, 3, 3, 2, .ro, .fixed, false, 0, 0xffff, [], 1, false, false⟩,
   ⟨0xc010, 0xc010, 4, 4, 2, .ro, .fixed, false, 0, 0xffff, [], 1, false, false⟩,
   ⟨0xc020, 0xc020, 1, 1, 8, .ro, .fixed, false, 0, 0xffffffffffffffff, [], 1, false, false⟩,
   ⟨0xc020, 0xc020, 2, 2, 8, .ro, .fixed, false, 0xd286880, 0xffffffffffffffff, [], 1, false, false⟩,
   ⟨0xc020, 0xc020, 3, 3, 2, .rw, .live, true, 600, 0xffff, [(0, 3600)], 1, false, false⟩,
   ⟨0xc020, 0xc020, 4, 4, 2, .ro, .fixed, false, 0, 0xffff, [], 1, false, false⟩,
   ⟨0xc020, 0xc020, 5, 5, 4, .ro, .fixed, false, 0, 0xffffffff, [], 1, false, false⟩,
   ⟨0xc020, 0xc020, 6, 6, 1, .rw, .live, true, 30, 0xff, [(1, 30)], 1, false, false⟩]

/-- Rows of the dictionary tables, part 18. -/
def objRows18 : List ObjRow :=
  [⟨0xd000, 0xd000, 1, 1, 1, .ro, .fixed, false, 0, 0xff, [], 1, false, false⟩,
   ⟨0xd000, 0xd000, 2, 2, 4, .ro, .fixed, false, 0, 0xffffffff, [], 1, false, false⟩,
   ⟨0xd000, 0xd000, 3, 3, 1, .ro, .fixed, false, 0, 0xff, [], 1, false, false⟩,
   ⟨0xd000, 0xd000, 4, 4, 1, .ro, .fixed, false, 0, 0xff, [], 1, false, false⟩,
   ⟨0xd000, 0xd000, 5, 5, 1, .ro, .fixed, false, 0, 0xff, [], 1, false, false⟩,
   ⟨0xd000, 0xd000, 6, 6, 1, .ro, .fixed, false, 0, 0xff, [], 1, false, false⟩,
   ⟨0xd010, 0xd010, 1, 1, 4, .rw, .live, false, 0, 0xffffffff, [(0, 8388600)], 8, false, false⟩,
   ⟨0xd010, 0xd010, 2, 2, 8, .wo, .live, false, 0, 0xffffffffffffffff, [], 1, false, false⟩,
   ⟨0xd010, 0xd010, 3, 3, 8, .wo, .live, false, 0, 0xffffffffffffffff, [], 1, false, false⟩,
   ⟨0xd010, 0xd010, 4, 4, 1, .wo, .live, false, 0, 0xff, [(1, 2)], 1, false, false⟩,
   ⟨0xd010, 0xd010, 5, 5, 1, .ro, .fixed, false, 0, 0xff, [], 1, false, false⟩,
   ⟨0xd010, 0xd010, 6, 6, 1, .wo, .live, false, 0, 0xff, [(0, 63)], 1, false, true⟩,
   ⟨0xd010, 0xd010, 7, 7, 1, .wo, .live, false, 0, 0xff, [(0, 3)], 1, false, true⟩,
   ⟨0xd020, 0xd020, 1, 1, 0, .ro, .fixed, false, 0, 0x0, [], 1, false, false⟩,
   ⟨0xd020, 0xd020, 2, 5, 8, .rw, .live, false, 0, 0xffffffffffffffff, [], 1, true, false⟩,
   ⟨0xd020, 0xd020, 6, 6, 1, .wo, .live, false, 0, 0xff, [(1, 1)], 1, true, false⟩,
   ⟨0xd020, 0xd020, 7, 7, 1, .ro, .fixed, false, 0, 0xff, [], 1, false, false⟩,
   ⟨0xd020, 0xd020, 8, 8, 0, .ro, .fixed, false, 0, 0x0, [], 1, false, false⟩,
   ⟨0xd030, 0xd030, 1, 1, 4, .wo, .live, false, 0, 0xffffff, [], 1, false, false⟩,
   ⟨0xd030, 0xd030, 2, 2, 1, .ro, .fixed, false, 0, 0xff, [], 1, false, false⟩,
   ⟨0xd030, 0xd030, 3, 3, 4, .ro, .fixed, false, 0, 0xffffffff, [], 1, false, false⟩,
   ⟨0xd040, 0xd040, 1, 1, 0, .ro, .fixed, false, 0, 0x0, [], 1, false, true⟩,
   ⟨0xd040, 0xd040, 2, 2, 2, .rw, .live, false, 0, 0xffff, [(0, 65528)], 8, false, true⟩,
   ⟨0xd040, 0xd040, 3, 3, 8, .wo, .live, false, 0, 0xffffffffffffffff, [], 1, false, true⟩,
   ⟨0xd040, 0xd040, 4, 4, 1, .wo, .live, false, 0, 0xff, [(1, 2)], 1, false, true⟩]

/-- Rows of the dictionary tables, part 19. -/
def objRows19 : List ObjRow :=
  [⟨0x2040, 0x2040, 1, 7, 1, .wo, .live, false, 0, 0xff, [(90, 90)], 1, false, false⟩,
   ⟨0x2041, 0x2041, 1, 1, 1, .ro, .fixed, false, 0, 0xff, [], 1, false, false⟩,
   ⟨0x2041, 0x2041, 2, 2, 1, .ro, .fixed, false, 1, 0xff, [], 1, false, false⟩,
   ⟨0x2041, 0x2041, 3, 3, 4, .ro, .fixed, false, 0, 0xffffffff, [], 1, false, false⟩,
   ⟨0x2041, 0x2041, 4, 4, 2, .rw, .live, true, 30, 0xffff, [(0, 40)], 1, false, false⟩,
   ⟨0x2041, 0x2041, 5, 5, 4, .ro, .fixed, false, 0, 0xffffffff, [], 1, false, false⟩]

/-- Rows of the dictionary tables, part 20. -/
def objRows20 : List ObjRow :=
  [⟨0x6200, 0x6200, 1, 1, 1, .rw, .live, true, 7, 0xff, [(0, 7)], 1, false, false⟩,
   ⟨0x6200, 0x6200, 2, 2, 1, .rw, .live, true, 6, 0xff, [(0, 7)], 1, false, false⟩,
   ⟨0x6200, 0x6200, 3, 3, 1, .rw, .live, true, 5, 0xff, [(0, 7)], 1, false, false⟩,
   ⟨0x6200, 0x6200, 4, 4, 1, .rw, .live, true, 4, 0xff, [(0, 7)], 1, false, false⟩,
   ⟨0x6200, 0x6200, 5, 5, 1, .rw, .live, true, 3, 0xff, [(0, 7)], 1, false, false⟩,
   ⟨0x6200, 0x6200, 6, 6, 1, .rw, .live, true, 2, 0xff, [(0, 7)], 1, false, false⟩,
   ⟨0x6200, 0x6200, 7, 7, 1, .rw, .live, true, 1, 0xff, [(0, 7)], 1, false, false⟩,
   ⟨0x6200, 0x6200, 8, 8, 1, .rw, .live, true, 7, 0xff, [(0, 7)], 1, false, false⟩,
   ⟨0x6201, 0x6201, 1, 1, 1, .rw, .live, false, 0, 0x7f, [], 1, false, false⟩,
   ⟨0x6201, 0x6201, 2, 2, 1, .rw, .live, false, 0, 0xff, [(0, 3)], 1, false, false⟩,
   ⟨0x6201, 0x6201, 3, 3, 1, .ro, .fixed, false, 0x7f, 0xff, [], 1, false, false⟩,
   ⟨0x6201, 0x6201, 4, 4, 1, .ro, .fixed, false, 0, 0xff, [], 1, false, false⟩,
   ⟨0x6202, 0x6202, 1, 1, 2, .rw, .live, false, 0, 0xffff, [(0, 399)], 1, false, false⟩,
   ⟨0x6202, 0x6202, 2, 9, 8, .ro, .fixed, false, 0, 0xffffffffffffffff, [], 1, false, false⟩]

/-- Rows of the dictionary tables, part 21. -/
def objRows21 : List ObjRow :=
  [⟨0xc030, 0xc030, 1, 1, 2, .ro, .fixed, false, 0, 0xffff, [], 1, false, false⟩,
   ⟨0xc030, 0xc030, 2, 2, 1, .ro, .fixed, false, 0, 0xff, [], 1, false, false⟩]

/-- Every object of the dictionary (13 R447, R478). -/
def objRows : List ObjRow :=
  objRows1 ++
  objRows2 ++
  objRows3 ++
  objRows4 ++
  objRows5 ++
  objRows6 ++
  objRows7 ++
  objRows8 ++
  objRows9 ++
  objRows10 ++
  objRows11 ++
  objRows12 ++
  objRows13 ++
  objRows14 ++
  objRows15 ++
  objRows16 ++
  objRows17 ++
  objRows18 ++
  objRows19 ++
  objRows20 ++
  objRows21

/-- The subindices of `idx` that its selector chooses the contents of (13 R451). -/
def selected (idx sub : Nat) : Bool :=
  if idx = 0x6150 then decide (2 ≤ sub ∧ sub ≤ 6)
  else if idx = 0x7001 then decide (2 ≤ sub ∧ sub ≤ 34)
  else if idx = 0x7002 then decide (2 ≤ sub ∧ sub ≤ 17)
  else if idx = 0x7003 then decide (2 ≤ sub ∧ sub ≤ 5)
  else if idx = 0x7130 then decide (3 ≤ sub ∧ sub ≤ 4)
  else if idx = 0x8005 then decide (2 ≤ sub ∧ sub ≤ 13)
  else if idx = 0x8010 then decide (2 ≤ sub ∧ sub ≤ 2)
  else if idx = 0x8100 then decide (2 ≤ sub ∧ sub ≤ 65)
  else if idx = 0x9010 then decide (2 ≤ sub ∧ sub ≤ 9)
  else if idx = 0xb020 then decide (2 ≤ sub ∧ sub ≤ 2)
  else if idx = 0xb110 then decide (2 ≤ sub ∧ sub ≤ 66)
  else if idx = 0x6202 then decide (2 ≤ sub ∧ sub ≤ 9)
  else if idx = 0xe100 then decide (2 ≤ sub ∧ sub ≤ 10)
  else false

end Sys2Proof.Machine
end

