-- ==== Sys2Proof/Machine/Ops.lean ====
section
/-! DEFINITION. The operations every family shares: registers of the dictionary, counters, free values, recorder events,
time on the Count, flags, and the frame a command runs in. -/

namespace Sys2Proof.Machine

open Sys2Proof

/-! ### Registers of the dictionary -/

/-- The key of a register in the register store. -/
def RegId.key (r : RegId) : Nat := (r.idx * 256 + r.sub) * 65536 + r.sel

/-- The value in effect of a register (13 R447). -/
def rd (r : RegId) (s : State) : Nat := (spGet (BitVec.ofNat 64 r.dflt) s.regs r.key).toNat

/-- A new value in effect; the store lists no value at its default. -/
def wr (r : RegId) (v : Nat) (s : State) : State :=
  { s with regs := spSet (BitVec.ofNat 64 r.dflt) r.key (BitVec.ofNat 64 (v % 2 ^ (8 * r.size))) s.regs }

/-- The next free value (log entry 6): the counter that keys it advances. -/
def drawFree (s : State) : Nat × State := (s.free, { s with free := s.free + 1 })

/-- Adds `n` to a counter. At the top of its range it saturates or wraps as its Meaning says; where the Meaning says
neither, the value past the top is free (log entry 20). -/
def bumpBy (n : Nat) (r : RegId) (s : State) : State :=
  let v := rd r s + n
  let top := 2 ^ (8 * r.size)
  if v < top then wr r v s
  else match r.ovf with
    | .sat => wr r (top - 1) s
    | .wrap => wr r (v % top) s
    | .unsaid => let (k, t) := drawFree s; wr r (Config.freeWord k).toNat t

/-- Adds 1 to a counter. -/
def bump (r : RegId) (s : State) : State := bumpBy 1 r s

/-! ### Life of the module -/

/-- The module is powered, out of reset, not in recovery and not halted (18 R575; 14 R499; 17 R563). -/
def alive (s : State) : Bool := s.pow.phase == .active

/-- The module is in Sit-out (14 R488, FAULT_STATE 1). -/
def inSitout (s : State) : Bool := rd Obj.FAULT_STATE s == 1

/-- READY is driven high: step 7 reached and neither Sit-out nor halt (14 R505). -/
def isReady (s : State) : Bool := s.boot.ready && rd Obj.FAULT_STATE s == 0

/-- Run state of function `f` (13 R454). -/
def runOf (f : Nat) (s : State) : RunState := nth .stopped s.run f

/-- Function `f` is Running. -/
def running (f : Nat) (s : State) : Bool := runOf f s == .running

/-- A new run state of function `f`. -/
def setRun (f : Nat) (r : RunState) (s : State) : State := { s with run := s.run.set f r }

/-! ### Time on the Count -/

/-- The Count as a number (02 R26). -/
def now (s : State) : Nat := s.clk.count.toNat

/-- B, the logarithm of a beat in ticks (02 R45). -/
def beatB (s : State) : Nat := rd Obj.BEAT_SHIFT s

/-- The beat index of Count `c` (02 R44). -/
def beatAt (b c : Nat) : Nat := c / 2 ^ b % 4096

/-- The measure number of Count `c` (02 R44). -/
def measureAt (b c : Nat) : Nat := c / 2 ^ (b + 12)

/-- The Count at which beat `beat` of measure `m` begins. -/
def beatStart (b m beat : Nat) : Nat := m * 2 ^ (b + 12) + beat * 2 ^ b

/-- `c` is a measure boundary of the grid with B = b. -/
def onMeasure (b c : Nat) : Bool := c % 2 ^ (b + 12) == 0

/-- The first measure boundary at or after `c`. -/
def nextMeasure (b c : Nat) : Nat := (c + (2 ^ (b + 12) - 1)) / 2 ^ (b + 12) * 2 ^ (b + 12)

/-- Operating time in whole seconds (15 R510, R633). -/
def opSec (s : State) : Nat := s.pow.opTime / 16

/-! ### The core clock (00 R8; 16 R532, R533) -/

/-- Core clock in MHz at an operating point; in Sit-out the cores have no power, and none runs (16 R532; log entry 105). -/
def clockMHz (point : Nat) : Nat :=
  match point with
  | 0 => 1650
  | 1 => 1500
  | 2 => 1200
  | _ => 0

/-- Thousandths of core clocks run since power-on, each interval at the clock then in force (00 R8). -/
def coreClock (s : State) : Nat := s.pow.cyc + (s.clk.ticks - s.pow.cycAt) * clockMHz (rd Obj.OP_POINT s)

/-- The operating point changes, and with it the core clock (16 R533). -/
def setPoint (point : Nat) (s : State) : State :=
  wr Obj.OP_POINT point { s with pow := { s.pow with cyc := coreClock s, cycAt := s.clk.ticks } }

/-! ### Recorder events -/

/-- The codes of severity S4 (14 R479 and the code tables of each chapter). -/
def codesS4 : List Nat :=
  [0x5902, 0x5905, 0x9404, 0x9411]

/-- The codes of severity S3 (14 R479 and the code tables of each chapter). -/
def codesS3 : List Nat :=
  [0x1714, 0x1740, 0x1741, 0x1742, 0x2902, 0x2903, 0x2904, 0x4901, 0x5901, 0x5903, 0x9403, 0x9405,
   0x9410]

/-- The codes of severity S2 (14 R479 and the code tables of each chapter). -/
def codesS2 : List Nat :=
  [0x1609, 0x1713, 0x2410, 0x4002, 0x5120, 0x6002, 0x6006, 0x7003, 0x8005, 0x800B, 0x9303, 0x9304,
   0x9503]

/-- The codes of severity S1 (14 R479 and the code tables of each chapter). -/
def codesS1 : List Nat :=
  [0x1603, 0x1606, 0x1620, 0x2201, 0x2202, 0x2203, 0x2204, 0x2206, 0x2301, 0x2302, 0x2303, 0x2304,
   0x2305, 0x2901, 0x3103, 0x3104, 0x6003, 0x8008]

/-- The severity of a recorder code (14 R479). -/
def severity (code : Nat) : Nat :=
  if codesS4.contains code then 4
  else if codesS3.contains code then 3
  else if codesS2.contains code then 2
  else if codesS1.contains code then 1
  else 0

/-- The codes whose value is a device address or a CXL DPA, stored shifted right by 10 (15 R509). -/
def addressCodes : List Nat := [0x1602, 0x1606, 0x1609, 0x1713, 0x1714, 0x6003, 0x6004, 0x6006, 0x6010]

/-- A detected event (14 R480): it waits for its recorder update (15 R511). -/
def emit (code source value : Nat) (s : State) : State :=
  let v := if addressCodes.contains code then value / 1024 else value
  { s with rcd := { s.rcd with batch := s.rcd.batch ++
      [⟨code, source % 4096, v % 2 ^ 32, s.clk.count, s.pow.opTime, false⟩] } }

/-- An MSI-X vector is signalled (12 R444). -/
def signal (vector : Nat) (s : State) : State :=
  { s with host := { s.host with irqs := s.host.irqs ++ [vector] } }

/-! ### Flags of the Caller (02 R56) -/

/-- A figure naming `flag` ends: the generation rises by 1, wrapping from 2^31 - 1 to 0, and the outcome is set
(02 R56, R59). Flag 0 names none. -/
def flagAdvance (flag outcome : Nat) (s : State) : State :=
  if flag = 0 then s
  else
    let g := (rd (Obj.FLAG flag) s + 1) % 2 ^ 31
    wr (Obj.FLAG flag) (g + outcome * 2 ^ 31) s

/-- A figure of an entry that names `flag` ends: of the figures that end in one tick the highest entry sets the outcome (02 R56,
R57). -/
def flagEnd (flag entry outcome : Nat) (s : State) : State :=
  let (tick, top) := spGet (0, 0) s.cal.flagLast flag
  let later := tick == s.clk.ticks + 1 && decide (entry < top)
  let out := if later then rd (Obj.FLAG flag) s / 2 ^ 31 else outcome
  let s := flagAdvance flag out s
  { s with cal := { s.cal with flagLast := spSet (0, 0) flag (s.clk.ticks + 1, if later then top else entry) s.cal.flagLast } }

/-- Generation of Caller flag `n`. -/
def flagGen (n : Nat) (s : State) : Nat := rd (Obj.FLAG n) s % 2 ^ 31

/-- Outcome of Caller flag `n`. -/
def flagOutcome (n : Nat) (s : State) : Nat := rd (Obj.FLAG n) s / 2 ^ 31

/-! ### Items of the state -/

/-- Core `c`. -/
def coreOf (c : Nat) (s : State) : Core := nth Core.init s.cores c

/-- Core `c` changed by `f`. -/
def modCore (c : Nat) (f : Core → Core) (s : State) : State := { s with cores := upd f s.cores c }

/-- Link `k`. -/
def linkOf (k : Nat) (s : State) : Link := nth Link.init s.links k

/-- Link `k` changed by `f`. -/
def modLink (k : Nat) (f : Link → Link) (s : State) : State := { s with links := upd f s.links k }

/-- Queue pair `q`. -/
def queueOf (q : Nat) (s : State) : Queue := nth Queue.init s.host.queues q

/-- Queue pair `q` changed by `f`. -/
def modQueue (q : Nat) (f : Queue → Queue) (s : State) : State :=
  { s with host := { s.host with queues := upd f s.host.queues q } }

/-- `f` for each item of `l`, in order. -/
def forEach {α : Type} (l : List α) (f : α → State → State) (s : State) : State := l.foldl (fun t a => f a t) s

/-- `f` when `b` holds. -/
def onlyIf (b : Bool) (f : State → State) (s : State) : State := if b then f s else s

/-! ### The frame a command runs in (log entry 18) -/

/-- A command that an unpowered, resetting, recovering or halted module does not take, and that leaves the queue, the
Count and the fuses to the commands that own them. -/
def run (f : State → State) (s : State) : Host.Outcome State Fault Refusal :=
  .next (if alive s then { f s with pending := s.pending, clk := s.clk, fuse := s.fuse } else s)

/-- As `run`, for a command that may move the Count. -/
def runClk (f : State → State) (s : State) : Host.Outcome State Fault Refusal :=
  .next (if alive s then { f s with pending := s.pending, fuse := s.fuse } else s)

/-- As `run`, for a command that may blow fuses. -/
def runFuse (f : State → State) (s : State) : Host.Outcome State Fault Refusal :=
  .next (if alive s then { f s with pending := s.pending, clk := s.clk } else s)

/-- A command that acts whatever the phase of the module. -/
def runAny (f : State → State) (s : State) : Host.Outcome State Fault Refusal :=
  .next { f s with pending := s.pending, clk := s.clk, fuse := s.fuse }

/-- A change of power or a reset of the module: it acts in every phase, and leaves the queue and the fuses. -/
def runReset (f : State → State) (s : State) : Host.Outcome State Fault Refusal :=
  .next { f s with pending := s.pending, fuse := s.fuse }

/-- A dictionary write of an object: it acts in every phase; of the Count and the fuses it leaves what its object does not own,
the Count for all but FUNCTION_RESET_n and the fuses for all but FUSE_SVN and REVOKE_KEY. -/
def runWrite (idx sub : Nat) (f : State → State) (s : State) : Host.Outcome State Fault Refusal :=
  let t := f s
  .next { t with
    pending := s.pending
    clk := if idx = 0x2040 then t.clk else s.clk
    fuse := if idx = 0xD010 ∧ (sub = 6 ∨ sub = 7) then t.fuse else s.fuse }

end Sys2Proof.Machine
end

