-- ==== Sys2Proof/Machine/SectorCode.lean ====
section
/-! DEFINITION. The sector code: a Reed-Solomon code over GF(2^8) on 32 data and 4 check bytes (06 R201 to R203), and the
CRCs of the links and of the recorder images. -/

namespace Sys2Proof.Machine

open Sys2Proof

/-- Product by α in GF(2^8) with field polynomial 0x11D (06 R201). -/
def gfDouble (a : Nat) : Nat := if a < 128 then 2 * a else (2 * a) ^^^ 0x11D

/-- Product in GF(2^8): `fuel` bits of b, from bit 0. -/
def gfMulAux : Nat → Nat → Nat → Nat
  | 0, _, _ => 0
  | n + 1, a, b => (if b % 2 = 1 then a else 0) ^^^ gfMulAux n (gfDouble a) (b / 2)

/-- Product in GF(2^8). -/
def gfMul (a b : Nat) : Nat := gfMulAux 8 a b

/-- a^n in GF(2^8). -/
def gfPow (a : Nat) : Nat → Nat
  | 0 => 1
  | n + 1 => gfMul a (gfPow a n)

/-- `n` squarings of `a`, multiplied together: a^(2^(n+1) - 2). -/
def gfInvAux : Nat → Nat → Nat
  | 0, _ => 1
  | n + 1, a => gfMul (gfMul a a) (gfInvAux n (gfMul a a))

/-- Inverse in GF(2^8), 0 for 0: a^254. -/
def gfInv (a : Nat) : Nat := gfInvAux 7 a

/-- The 32 data bytes of a sector, byte 0 first. -/
def sectorBytes (d : BitVec 256) : List Nat := (List.range 32).map fun i => d.toNat / 2 ^ (8 * i) % 256

/-- One data byte of the division by g(x) = x^4 + 0x0F x^3 + 0x36 x^2 + 0x78 x + 0x40, on (p3, p2, p1, p0). -/
def codeStep (p : Nat × Nat × Nat × Nat) (d : Nat) : Nat × Nat × Nat × Nat :=
  let (p3, p2, p1, p0) := p
  let f := d ^^^ p3
  (p2 ^^^ gfMul f 0x0F, p1 ^^^ gfMul f 0x36, p0 ^^^ gfMul f 0x78, gfMul f 0x40)

/-- The check bytes of 32 data bytes, c_0 in bits [7:0] (06 R201). -/
def checkBytes (d : BitVec 256) : BitVec 32 :=
  let (p3, p2, p1, p0) := (sectorBytes d).foldl codeStep (0, 0, 0, 0)
  BitVec.ofNat 32 (p3 + 256 * p2 + 65536 * p1 + 16777216 * p0)

/-- A sector with the check bytes of its data (06 R203). -/
def encodeSector (d : BitVec 256) : Sector := ⟨d, checkBytes d⟩

/-- The 36 symbols of a sector in code order: d_0 to d_31, c_0 to c_3. -/
def sectorSymbols (s : Sector) : List Nat :=
  sectorBytes s.data ++ (List.range 4).map fun i => s.chk.toNat / 2 ^ (8 * i) % 256

/-- The syndrome at α^i of 36 symbols, the first at x^35 (Horner). -/
def syndrome (syms : List Nat) (i : Nat) : Nat :=
  let a := gfPow 2 i
  syms.foldl (fun acc d => gfMul acc a ^^^ d) 0

/-- What decoding a sector finds (06 R202): the data and the number of symbols corrected, or uncorrectable. -/
inductive Decoded where
  | ok (data : BitVec 256) (corrected : Nat)
  | bad
  deriving DecidableEq, Repr

/-- A sector with symbol j (0 to 35) changed by `e`. -/
def flipSymbol (s : Sector) (j e : Nat) : Sector :=
  if j < 32 then { s with data := s.data ^^^ BitVec.ofNat 256 (e * 2 ^ (8 * j)) }
  else { s with chk := s.chk ^^^ BitVec.ofNat 32 (e * 2 ^ (8 * (j - 32))) }

/-- The one symbol error that explains the syndromes: position and value. -/
def oneError (s0 s1 s2 s3 : Nat) : Option (Nat × Nat) :=
  if s0 = 0 then none
  else
    ((List.range 36).find? fun j =>
      let x := gfPow 2 (35 - j)
      s1 == gfMul s0 x && s2 == gfMul s1 x && s3 == gfMul s2 x).map fun j => (j, s0)

/-- The two symbol errors at positions i and j that explain the syndromes, as their values. -/
def twoErrorsAt (s0 s1 s2 s3 i j : Nat) : Option (Nat × Nat) :=
  let x := gfPow 2 (35 - i)
  let y := gfPow 2 (35 - j)
  let e2 := gfMul (s1 ^^^ gfMul s0 x) (gfInv (x ^^^ y))
  let e1 := s0 ^^^ e2
  let x2 := gfMul x x
  let y2 := gfMul y y
  if e1 ≠ 0 ∧ e2 ≠ 0 ∧ (gfMul e1 x2 ^^^ gfMul e2 y2) = s2 ∧
      (gfMul e1 (gfMul x2 x) ^^^ gfMul e2 (gfMul y2 y)) = s3 then some (e1, e2) else none

/-- The two symbol errors that explain the syndromes. -/
def twoErrors (s0 s1 s2 s3 : Nat) : Option (Nat × Nat × Nat × Nat) :=
  (List.range 36).findSome? fun i =>
    (List.range 36).findSome? fun j =>
      if i < j then (twoErrorsAt s0 s1 s2 s3 i j).map fun (a, b) => (i, a, j, b) else none

/-- Bounded-distance decoding of up to two symbol errors (06 R202). -/
def decodeSector (s : Sector) : Decoded :=
  let syms := sectorSymbols s
  let s0 := syndrome syms 0
  let s1 := syndrome syms 1
  let s2 := syndrome syms 2
  let s3 := syndrome syms 3
  if s0 = 0 ∧ s1 = 0 ∧ s2 = 0 ∧ s3 = 0 then .ok s.data 0
  else match oneError s0 s1 s2 s3 with
    | some (j, e) => .ok (flipSymbol s j e).data 1
    | none => match twoErrors s0 s1 s2 s3 with
      | some (i, a, j, b) => .ok (flipSymbol (flipSymbol s i a) j b).data 2
      | none => .bad

/-- A disturbance of the 288 bits read: check bytes in bits [287:256], data in [255:0]. -/
def disturb (s : Sector) (e : BitVec 288) : Sector :=
  ⟨s.data ^^^ e.extractLsb' 0 256, s.chk ^^^ e.extractLsb' 256 32⟩

/-! ### CRCs -/

/-- One bit of a reflected CRC-32 (IEEE 802.3). -/
def crc32Bit (c : Nat) : Nat := if c % 2 = 1 then (c / 2) ^^^ 0xEDB88320 else c / 2

/-- IEEE 802.3 CRC-32 of bytes. -/
def crc32 (bs : List Byte) : Nat :=
  (bs.foldl (fun c b =>
    (List.range 8).foldl (fun c _ => crc32Bit c) (c ^^^ b.toNat)) 0xFFFFFFFF) ^^^ 0xFFFFFFFF

/-- A CRC of width w with polynomial `poly` and initial value `init` over `n` bits of x, most significant first, not
reflected. -/
def crcBits (w poly init n x : Nat) : Nat :=
  (List.range n).foldl (fun c i =>
    let fb := (c / 2 ^ (w - 1) % 2) ^^^ (x / 2 ^ (n - 1 - i) % 2)
    let c' := c * 2 % 2 ^ w
    if fb = 1 then c' ^^^ poly else c') init

end Sys2Proof.Machine
end

