-- ==== Sys2Proof/Machine/Mem.lean ====
section
/-! DEFINITION. The address map, the interleave, stored sectors, undefined ranges and directory entries (06 Memory tiers,
the tensor directory and the sector code). -/

namespace Sys2Proof.Machine

open Sys2Proof

/-! ### The address map (06 R193) -/

/-- The regions of the device physical address space. -/
inductive Region where
  | fastTensor | fastSystem | slow | floor | landing | core (k : Nat) | control | reserved
  deriving DecidableEq, Repr

/-- The region of a device physical address (06 R193). -/
def regionOf (a : Nat) : Region :=
  if a < 0x7FC0000000 then .fastTensor
  else if a < 0x8000000000 then .fastSystem
  else if a < 0x14000000000 then .slow
  else if a < 0x20000000000 then .reserved
  else if a < 0x20004000000 then .floor
  else if a < 0x20006000000 then .landing
  else if a < 0x20010000000 then .reserved
  else if a < 0x20018000000 then .core ((a - 0x20010000000) / 0x800000)
  else if a < 0x30000000000 then .reserved
  else if a < 0x30100000000 then .control
  else .reserved

/-- The region of a sector number (device address / 32). -/
def sectorRegion (n : Nat) : Region := regionOf (32 * n)

/-- The sector number of sector `k` of core store `c` (06 R197). -/
def coreSector (c k : Nat) : Nat := (0x20010000000 + c * 0x800000) / 32 + k

/-- The first sector of the tensor directory (06 R195). -/
def dirBase : Nat := 0x7FC0000000 / 32

/-- The first byte of the digest table (06 R195). -/
def digestBase : Nat := 0x7FE0000000

/-- The first sector of the step-state area (06 R195). -/
def stepBase : Nat := 0x7FF0000000 / 32

/-- The flat channel of a fast-tier address (06 R199). -/
def fastChannel (a : Nat) : Nat :=
  fld a 15 8 ^^^ fld a 23 16 ^^^ fld a 31 24 ^^^ fld a 38 32

/-- The sub-channel of a slow-tier address (06 R200). -/
def slowChannel (a : Nat) : Nat :=
  let g := (a - 0x8000000000) / 256
  let q := g / 48
  let h := (fld q 5 0 ^^^ fld q 11 6 ^^^ fld q 17 12 ^^^ fld q 23 18 ^^^ fld q 25 24) % 48
  (g % 48 + h) % 48

/-- The unit that holds a sector: flat channel, 256 + sub-channel, or none for SRAM. -/
def unitOf (n : Nat) : Option Nat :=
  match sectorRegion n with
  | .fastTensor | .fastSystem => some (fastChannel (32 * n))
  | .slow => some (256 + slowChannel (32 * n))
  | _ => none

/-- The bank of a core store that holds the granule of sector `k` (06 R197). -/
def storeBank (k : Nat) : Nat := let g := k / 8; fld g 8 0 ^^^ fld g 14 9

/-- Where a channel byte address lies behind its base die (07 R237). -/
structure DramPlace where
  byte : Nat
  pseudo : Nat
  bankGroup : Nat
  bank : Nat
  stackId : Nat
  rowGranule : Nat
  row : Nat
  deriving DecidableEq, Repr

/-- The place of channel byte address `ca` (07 R237). -/
def dramPlace (ca : Nat) : DramPlace :=
  let g := ca / 256
  ⟨fld ca 7 0, fld g 0 0, fld g 2 1, fld g 4 3, fld g 6 5, fld g 8 7, fld g 22 9⟩

/-- The byte address of a device address within its channel or sub-channel (06 R199, R200). -/
def channelAddr (a : Nat) : Nat :=
  if a < 0x8000000000 then fld a 38 16 * 256 + a % 256
  else (a - 0x8000000000) / 256 / 48 * 256 + a % 256

/-- The sector number that sector `k` of a channel or sub-channel holds: the inverse of the interleave. -/
def unitSector (unit k : Nat) : Nat :=
  let ca := 32 * k
  if unit < 256 then
    -- PA[38:16] is CA[30:8]; PA[15:8] follows from the channel number (06 R199)
    let hi := ca / 256
    let lo := unit ^^^ fld hi 7 0 ^^^ fld hi 15 8 ^^^ fld hi 22 16
    (hi * 65536 + lo * 256 + ca % 256) / 32
  else
    -- the rotation of row q undone (06 R200)
    let q := ca / 256
    let h := (fld q 5 0 ^^^ fld q 11 6 ^^^ fld q 17 12 ^^^ fld q 23 18 ^^^ fld q 25 24) % 48
    let r := (unit - 256 + 48 - h) % 48
    (0x8000000000 + (q * 48 + r) * 256 + ca % 256) / 32

/-- Sectors of a channel or sub-channel (07 R234). -/
def unitSectors (unit : Nat) : Nat := if unit < 256 then 2 ^ 26 else 2 ^ 29

/-- The stack (0-7) of a fast channel; for a sub-channel its package as lost-unit number 14 to 25 (07 R261). -/
def lossUnit (unit : Nat) : Nat :=
  if unit < 256 then unit / 32 else let u := unit - 256; 14 + 2 * (u / 8) + (u % 8) / 4

/-- The stack or the buffer (8-13) that a channel's transit errors and silence count against (07 R257, R261). -/
def transitUnit (unit : Nat) : Nat := if unit < 256 then unit / 32 else 8 + (unit - 256) / 8

/-- The reason a lost unit was declared lost for, 0 when it is not lost (07 R261). -/
def lostReason (u : Nat) (s : State) : Nat := spGet 0 s.mo.lost u

/-- A unit's requests are answered with STATUS 2: its stack, package or buffer is lost for reasons 5 to 10 (07 R263). -/
def unitGone (unit : Nat) (s : State) : Bool :=
  decide (5 ≤ lostReason (lossUnit unit) s) ||
  (decide (256 ≤ unit) && decide (5 ≤ lostReason (transitUnit unit) s))

/-! ### Stored bytes and sectors -/

/-- The undefined range that covers a byte, newest first. -/
def undefSeed (us : List Undef) (a : Nat) : Option Nat :=
  (us.find? fun u => decide (u.start ≤ a ∧ a < u.start + u.len)).map (·.seed)

/-- The byte at a device address. Unlisted bytes read 0; a byte the spec leaves undefined reads a free value. -/
def rdByte (a : Nat) (s : State) : Byte :=
  match undefSeed s.mem.undef a with
  | some k => Config.freeByte k a
  | none => spGet 0 s.mem.cells a

/-- `n` bytes from a device address. -/
def rdBytes (a n : Nat) (s : State) : List Byte := (List.range n).map fun i => rdByte (a + i) s

/-- The sector stored at sector number `n`. A sector with an undefined byte carries the check bytes of its data. -/
def rdSector (n : Nat) (s : State) : Sector :=
  let d := BitVec.ofNat 256 (ofLeBytes (rdBytes (32 * n) 32 s))
  if s.mem.undef.any fun u => decide (u.start < 32 * n + 32 ∧ 32 * n < u.start + u.len) then encodeSector d
  else ⟨d, BitVec.ofNat 32 (ofLeBytes ((List.range 4).map fun i => spGet 0 s.mem.check (4 * n + i)))⟩

/-- The data of the sector stored at `n`, undecoded. -/
def rdData (n : Nat) (s : State) : Nat := (rdSector n s).data.toNat

/-- Undefined ranges without the bytes from `a` to a + len - 1. -/
def carve (a len : Nat) (us : List Undef) : List Undef :=
  us.flatMap fun u =>
    let e := u.start + u.len
    (if u.start < a then [{ u with len := min e a - u.start }] else []) ++
    (if a + len < e then [{ u with start := max u.start (a + len), len := e - max u.start (a + len) }] else [])

/-- Bytes put into a cell list from key `k` on. -/
def putBytes (k : Nat) : List Byte → List Host.Cell → List Host.Cell
  | [], m => m
  | b :: bs, m => putBytes (k + 1) bs (spSet 0 k b m)

/-- A sector stored at sector number `n`. -/
def wrSector (n : Nat) (x : Sector) (s : State) : State :=
  { s with mem := {
      cells := putBytes (32 * n) (leBytes 32 x.data.toNat) s.mem.cells,
      check := putBytes (4 * n) (leBytes 4 x.chk.toNat) s.mem.check,
      undef := carve (32 * n) 32 s.mem.undef } }

/-- 32 data bytes stored at sector number `n` with their check bytes (06 R203). -/
def wrData (n d : Nat) (s : State) : State := wrSector n (encodeSector (BitVec.ofNat 256 d)) s

/-- The data `d` with the bytes of `mask` taken from `x`. -/
def overlay (d x mask : Nat) : Nat :=
  (List.range 32).foldl (fun acc i => if bitOf mask i then setFld acc (8 * i + 7) (8 * i) (fld x (8 * i + 7) (8 * i)) else acc) d

/-- The bytes of `mask` merged into sector `n`: the stored sector is corrected, overlaid and stored with new check bytes; one
that is uncorrectable stays as it is, with code 0x1606 (06 R209, R212). -/
def wrMasked (n x mask : Nat) (s : State) : State :=
  if mask = 2 ^ 32 - 1 then wrData n x s
  else match decodeSector (rdSector n s) with
    | .ok d _ => wrData n (overlay d.toNat x mask) s
    | .bad => emit 0x1606 ((unitOf n).getD 0) (32 * n) s

/-- Consecutive sectors stored from sector number `n`. -/
def wrSectors (n : Nat) : List Sector → State → State
  | [], s => s
  | x :: xs, s => wrSectors (n + 1) xs (wrSector n x s)

/-- One byte written, with new check bytes of its sector. -/
def wrByte (a : Nat) (b : Byte) (s : State) : State :=
  wrMasked (a / 32) (b.toNat * 2 ^ (8 * (a % 32))) (2 ^ (a % 32)) s

/-- Bytes written from a device address, with new check bytes of their sectors. -/
def wrBytes (a : Nat) : List Byte → State → State
  | [], s => s
  | b :: bs, s => wrBytes (a + 1) bs (wrByte a b s)

/-- The contents of a byte range become undefined: each byte reads a free value (log entry 6). -/
def makeUndef (a len : Nat) (s : State) : State :=
  if len = 0 then s
  else
    let (k, t) := drawFree s
    { t with mem := { t.mem with undef := ⟨a, len, k⟩ :: carve a len t.mem.undef } }

/-! ### Directory entries (06 R215) -/

/-- A directory entry. -/
structure DirEntry where
  state : Nat
  tier : Nat
  fmt : Nat
  role : Nat
  home : Nat
  size : Nat
  data : Nat
  hist : Bool
  digestMark : Bool
  written : Bool
  resValid : Bool
  resTier : Nat
  reserve : Nat
  windowMode : Nat
  windowLog2 : Nat
  elements : Nat
  refs : Nat
  deriving DecidableEq, Repr

/-- The entry 256 bits hold (06 R215). -/
def entryOf (x : Nat) : DirEntry :=
  ⟨fld x 255 253, fld x 252 251, fld x 250 247, fld x 246 244, fld x 243 207, fld x 206 171, fld x 170 135,
   bitOf x 134, bitOf x 133, bitOf x 132, bitOf x 131, fld x 130 129, fld x 128 92, fld x 91 90, fld x 89 85,
   fld x 84 45, fld x 44 29⟩

/-- The 256 bits of an entry (06 R215). -/
def entryBits (e : DirEntry) : Nat :=
  e.state % 8 * 2 ^ 253 + e.tier % 4 * 2 ^ 251 + e.fmt % 16 * 2 ^ 247 + e.role % 8 * 2 ^ 244 +
  e.home % 2 ^ 37 * 2 ^ 207 + e.size % 2 ^ 36 * 2 ^ 171 + e.data % 2 ^ 36 * 2 ^ 135 + b2n e.hist * 2 ^ 134 +
  b2n e.digestMark * 2 ^ 133 + b2n e.written * 2 ^ 132 + b2n e.resValid * 2 ^ 131 + e.resTier % 4 * 2 ^ 129 +
  e.reserve % 2 ^ 37 * 2 ^ 92 + e.windowMode % 4 * 2 ^ 90 + e.windowLog2 % 32 * 2 ^ 85 +
  e.elements % 2 ^ 40 * 2 ^ 45 + e.refs % 2 ^ 16 * 2 ^ 29

/-- The entry of tensor `t` (06 R215). -/
def tensorOf (t : Nat) (s : State) : DirEntry := entryOf (rdData (dirBase + t) s)

/-- A directory write. -/
def setTensor (t : Nat) (e : DirEntry) (s : State) : State := wrData (dirBase + t) (entryBits e) s

/-- The entry of tensor `t` changed by `f` in one directory write. -/
def modTensor (t : Nat) (f : DirEntry → DirEntry) (s : State) : State := setTensor t (f (tensorOf t s)) s

/-- The tensor ids whose entries are listed in memory, in ascending order; every other entry is free. -/
def tensorIds (s : State) : List Nat :=
  ((s.mem.cells.filterMap fun (a, _) =>
    if 32 * dirBase ≤ a ∧ a < 32 * dirBase + 2 ^ 29 then some ((a - 32 * dirBase) / 32) else none).dedup).filter
    fun t => (tensorOf t s).state != 0

/-- The first tensor whose home covers sector `n` (06 R206). -/
def ownerOf (n : Nat) (s : State) : Option Nat :=
  (tensorIds s).find? fun t => let e := tensorOf t s; decide (e.home ≤ n ∧ n < e.home + e.size)

/-- The first tensor whose valid reservation covers sector `n` (06 R218). -/
def reserveOf (n : Nat) (s : State) : Option Nat :=
  (tensorIds s).find? fun t =>
    let e := tensorOf t s
    e.resValid && decide (e.reserve ≤ n ∧ n < e.reserve + e.size)

/-- A reference is taken (06 R217). -/
def takeRef (t : Nat) (s : State) : State := modTensor t (fun e => { e with refs := e.refs + 1 }) s

/-- A reference is released (06 R217). -/
def dropRef (t : Nat) (s : State) : State := modTensor t (fun e => { e with refs := e.refs - 1 }) s

/-- A write of a tensor ends the validity of a digest of it in progress (09 R332; 17 R571). -/
def spoilDigests (t : Nat) (s : State) : State :=
  { s with
    trn := { s.trn with digests := s.trn.digests.map fun d =>
      if d.tensor = t ∧ d.done = false then { d with invalid := true } else d },
    sec := { s.sec with measWritten := s.sec.measWritten || s.sec.measuring.head? == some t } }

/-- WRITTEN is set (06 R226). -/
def markWritten (t : Nat) (s : State) : State :=
  spoilDigests t (modTensor t (fun e => { e with written := true }) s)

/-- A confirmed bad sector puts its resident or moving tensor in damaged-reported (06 R218). -/
def markDamaged (t : Nat) (s : State) : State :=
  modTensor t (fun e => if e.state = 1 ∨ e.state = 2 then { e with state := 4 } else e) s

/-! ### Tensor geometry (06 R214) -/

/-- Element width in bits of a format code (04 R147 table, 06 R214). -/
def fmtWidth (f : Nat) : Nat :=
  match f with
  | 0 => 32 | 1 => 16 | 2 => 8 | 3 => 8 | 4 => 8 | 5 => 6 | 6 => 6 | 7 => 4 | 8 => 32 | 9 => 640 | 10 => 64 | _ => 0

/-- A format with blocks: MX, carry or wide carry. -/
def fmtBlocked (f : Nat) : Bool := decide (3 ≤ f ∧ f ≤ 8) || f == 10

/-- Quotient rounded up. -/
def ceilDiv (a b : Nat) : Nat := (a + b - 1) / b

/-- Blocks of a tensor (06 R214). -/
def blocksOf (elements : Nat) : Nat := ceilDiv elements 32

/-- Data-area sectors of a tensor (06 R214). -/
def dataSectors (f elements : Nat) : Nat :=
  if fmtBlocked f then ceilDiv (32 * blocksOf elements * fmtWidth f) 256 else ceilDiv (elements * fmtWidth f) 256

/-- Sectors of a tensor: data area, side area, history area (06 R214). -/
def tensorSectors (f elements : Nat) (hist : Bool) : Nat :=
  let side := ceilDiv (blocksOf elements) 32
  dataSectors f elements + (if fmtBlocked f then side else 0) + (if hist then side else 0)

/-- The first byte of a tensor's data area. -/
def dataAddr (e : DirEntry) : Nat := 32 * e.home

/-- The address of the side-area byte of block `b` (06 R214). -/
def sideAddr (e : DirEntry) (b : Nat) : Nat := 32 * (e.home + e.data) + b

/-- The address of the history byte of block `b` (06 R214). -/
def histAddr (e : DirEntry) (b : Nat) : Nat :=
  32 * (e.home + e.data + (if fmtBlocked e.fmt then ceilDiv (blocksOf e.elements) 32 else 0)) + b

/-- The element format of an MX format code. -/
def mxOf (f : Nat) : Option ElemFormat :=
  match f with
  | 3 => some e4m3 | 4 => some e5m2 | 5 => some e2m3 | 6 => some e3m2 | 7 => some e2m1 | _ => none

/-- Every history byte of a tensor becomes unknown (03 R100). -/
def historyUnknown (t : Nat) (s : State) : State :=
  let e := tensorOf t s
  if e.state ≠ 0 ∧ e.hist then wrBytes (histAddr e 0) (List.replicate (blocksOf e.elements) 255#8) s else s

/-! ### Write combining (06 R207 to R211) -/

/-- The write-combining entry of a sector. -/
def wcEntry (n : Nat) (s : State) : Option WcEntry := s.mo.wc.find? fun w => w.addr == n

/-- The write-combining entries changed by `f`. -/
def modWc (f : List WcEntry → List WcEntry) (s : State) : State := { s with mo := { s.mo with wc := f s.mo.wc } }

/-- A full-sector write: it supersedes an entry (06 R211). -/
def fullWrite (n : Nat) (x : Sector) (s : State) : State :=
  wrSector n x (modWc (·.filter fun w => w.addr != n) s)

/-- What a read of a sector returns: the stored sector, corrected and overlaid with an entry's bytes (06 R211). -/
def readOverlay (n : Nat) (s : State) : Sector :=
  match wcEntry n s with
  | none => rdSector n s
  | some w => match decodeSector (rdSector n s) with
    | .ok d _ => encodeSector (BitVec.ofNat 256 (overlay d.toNat w.data.toNat w.mask.toNat))
    | .bad => rdSector n s

/-! ### Frozen classes (19 R598) -/

/-- The arbiters of scope `v` include the one in front of a sector: 1 Floor slices, 2 fast-tier channels, 3 slow-tier
sub-channels (19 R598). -/
def inScope (v n : Nat) : Bool :=
  v == 0 || (match sectorRegion n with
    | .floor | .landing => v == 1
    | .fastTensor | .fastSystem => v == 2
    | .slow => v == 3
    | _ => false)

/-- No new request of class `c` for a sector is granted: software froze the class there (19 R598). -/
def frozenAt (c n : Nat) (s : State) : Bool := bitOf (rd Obj.FREEZE s) (c - 1) && inScope (rd Obj.FREEZE_SCOPE s) n

end Sys2Proof.Machine
end

