-- ==== Sys2Proof/Machine/Containment.lean ====
section
/-! DEFINITION. Containment: completions, the end of figures and collectives, aborted tasks, failed commits, recorder
flush requests, the entry into Sit-out, halt and lost units (14 Faults, containment and Sit-out). -/

namespace Sys2Proof.Machine

open Sys2Proof

/-! ### Completions (12 R437, R443, R445) -/

/-- A completion entry without its PHASE (12 R443). -/
def completionBits (q cid reason code count : Nat) : Nat :=
  cid % 65536 * 2 ^ 112 + q % 16 * 2 ^ 108 + reason % 65536 * 2 ^ 80 + code % 65536 * 2 ^ 64 + count % 2 ^ 64

/-- The completion ring of queue `q` has no room. -/
def cqFull (q : Nat) (s : State) : Bool :=
  let size := rd (Obj.CQ_SIZE q) s
  let x := queueOf q s
  (x.cqTail + 1) % size == x.cqHead

/-- The queues whose completions the vector of queue `q` announces (12 R444, R445). -/
def vectorMates (q : Nat) (s : State) : List Nat :=
  (List.range 16).filter fun r => rd (Obj.CQ_VECTOR r) s == rd (Obj.CQ_VECTOR q) s

/-- The completions posted since the vector of queue `q` fired (12 R445). -/
def sinceFired (q : Nat) (s : State) : Nat := sumNat ((vectorMates q s).map fun r => (queueOf r s).coalesced)

/-- A completion vector fires: the count since it last fired and the time begin again (12 R445). -/
def fireVector (q : Nat) (s : State) : State :=
  signal (rd (Obj.CQ_VECTOR q) s)
    (forEach (vectorMates q s) (fun r => modQueue r (fun x => { x with coalesced := 0, timer := false })) s)

/-- One completion is written into the ring in host memory, and counts toward its vector (12 R443, R445). -/
def postOne (q : Nat) (e : BitVec 128) (irq : Bool) (s : State) : State :=
  let x := queueOf q s
  let e' := if x.cqPhase then e ||| 1#128 <<< 107 else e
  let tail := (x.cqTail + 1) % rd (Obj.CQ_SIZE q) s
  let s := modQueue q (fun y => { y with
    cqTail := tail, cqPhase := if tail = 0 then !y.cqPhase else y.cqPhase,
    coalesced := y.coalesced + 1, firstAt := if y.coalesced = 0 then s.clk.ticks else y.firstAt, timer := y.timer || fld (rd (Obj.COALESCE q) s) 15 0 != 0,
    done := y.done ++ [fld e.toNat 127 112] }) s
  let s := { s with host := { s.host with posted := s.host.posted ++ [(q, e')] } }
  if irq ∨ fld (rd (Obj.COALESCE q) s) 31 16 ≤ sinceFired q s then fireVector q s else s

/-- Completions of the buffer are posted as ring space allows, at most `n`. -/
def drainBuffer (q : Nat) : Nat → State → State
  | 0, s => s
  | n + 1, s =>
    match (queueOf q s).buf with
    | [] => s
    | (e, irq) :: rest =>
      if s.host.up ∧ cqFull q s = false then
        drainBuffer q n (postOne q e irq (modQueue q (fun x => { x with buf := rest, heldFull := false }) s))
      else s

/-- A completion enters the queue's buffer, and leaves it at once where the ring has space and the link is up
(12 R422, R437). -/
def pushCompletion (q : Nat) (e : BitVec 128) (irq : Bool) (s : State) : State :=
  let s := modQueue q (fun x => { x with buf := x.buf ++ [(e, irq)] }) s
  drainBuffer q ((queueOf q s).buf.length) s

/-- BARRIERs whose earlier entries have completed complete, each in turn (12 R438); `n` bounds the chain. -/
def releaseBarriers (q : Nat) : Nat → State → State
  | 0, s => s
  | n + 1, s =>
    match (queueOf q s).barriers.find? fun b => b.2.2.isEmpty with
    | none => s
    | some (cid, irq, _) =>
      let s := modQueue q (fun x => { x with
        barriers := (x.barriers.filter fun b => b.1 != cid).map fun b => (b.1, b.2.1, b.2.2.filter (· != cid)),
        open_ := x.open_.filter (· != cid), waiting := false }) s
      releaseBarriers q n (pushCompletion q (BitVec.ofNat 128 (completionBits q cid 0 0 (now s))) irq s)

/-- An entry of queue `q` completes (12 R443). -/
def complete (q cid : Nat) (irq : Bool) (reason code : Nat) (s : State) : State :=
  let s := modQueue q (fun x => { x with
    open_ := x.open_.filter (· != cid),
    barriers := x.barriers.map fun b => (b.1, b.2.1, b.2.2.filter (· != cid)) }) s
  let s := pushCompletion q (BitVec.ofNat 128 (completionBits q cid reason code (now s))) irq s
  releaseBarriers q ((queueOf q s).barriers.length) s

/-! ### Figures (02 R46 to R56) -/

/-- Figure type of a DESC (02 R46). -/
def figType (d : BitVec 64) : Nat := fld d.toNat 59 56

/-- What names a figure in flight: 16 x its entry + its measure mod 16, the TAG of a figure of the collective engine (11 R388). -/
def figTag (f : Fig) : Nat := 16 * f.entry + f.measure % 16

/-- The figure named `e` ends with an outcome: it leaves the list and its flag advances (02 R56). -/
def endFigure (e outcome : Nat) (s : State) : State :=
  match s.cal.figs.find? fun f => figTag f == e with
  | none => s
  | some f =>
    flagEnd (f.param.toNat % 256) f.entry outcome
      { s with cal := { s.cal with figs := dropFirst (fun g => figTag g == e) s.cal.figs } }

/-- The figures of a type that have started and not ended, in firing order. -/
def openFigs (type : Nat) (s : State) : List Fig := s.cal.figs.filter fun f => f.started && figType f.desc == type

/-- A SCRUB figure of a tier is open (07 R249). -/
def scrubOpen (slow : Bool) (s : State) : Bool := (openFigs 4 s).any fun f => bitOf f.param.toNat 63 == slow

/-- The rank an open HOST_WINDOW figure names, the last one's where several are open (19 R596). -/
def hostWindowRank (s : State) : Option Nat := (openFigs 8 s).getLast?.map fun f => fld f.param.toNat 63 61

/-! ### Collectives (11 R379, R382, R408 to R413) -/

/-- The plan header of a collective (11 R382). -/
def planHdr (c : Coll) : Nat := (c.plan.headD 0).toNat

/-- Its OP. -/
def collOp (c : Coll) : Nat := fld (planHdr c) 255 252

/-- Its stages. -/
def collStages (c : Coll) : Nat := fld (planHdr c) 249 246

/-- Stage entry i, 0 to STAGES - 1 (11 R383). -/
def stageBits (c : Coll) (i : Nat) : Nat := (nth 0#256 c.plan (i + 1)).toNat

/-- Its source tensors: T to T + SOURCES - 1 for REDUCE_SCATTER and ALL_REDUCE, T alone otherwise; a BOW and a DIGEST
figure name none (11 R379). -/
def collSources (c : Coll) : List Nat :=
  if c.kind ≠ 0 then []
  else if collOp c = 1 ∨ collOp c = 3 then (List.range (fld (planHdr c) 165 162 + 1)).map (c.tensor + ·)
  else [c.tensor]

/-- Its destination tensor (11 R379). -/
def collDest (c : Coll) : Nat := (c.tensor + fld (planHdr c) 189 166) % 2 ^ 24

/-- The tensors it holds references to (11 R390). -/
def collRefs (c : Coll) : List Nat := if c.kind ≠ 0 then [] else (collSources c ++ [collDest c]).dedup

/-- OPs that reduce. -/
def collReduces (c : Coll) : Bool := [1, 3, 5, 6].contains (collOp c)

/-- The valid links a stage names: SEND, SEND_SPARE, RECV, RECV_SPARE, children (11 R383). -/
def stageLinks (x : Nat) : List Nat :=
  ([(227, 221), (220, 214), (213, 207), (206, 200), (199, 193), (192, 186), (185, 179), (178, 172)].filterMap fun (h, l) =>
    let f := fld x h l
    if bitOf f 6 then some (f % 64) else none)

/-- Every valid link a plan names. -/
def collLinks (c : Coll) : List Nat := ((List.range (collStages c)).flatMap fun i => stageLinks (stageBits c i)).dedup

/-- The class of credit a flit uses on its link: VL0 0, VL1 1-2, VL2 3-4, VL3 5-6, shared 7 (10 R346, R353). -/
def creditClass (f : Flit) : Nat :=
  let h := f.hdr.toNat
  if bitOf h 124 then 7
  else match fld h 127 126 with
    | 0 => 0
    | v => 2 * v - 1 + b2n (bitOf h 125)

/-- A received flit leaves the buffer and its credit is returned in the next frame slot (10 R353). -/
def returnCredit (k : Nat) (f : Flit) (s : State) : State :=
  if fld f.hdr.toNat 123 120 = 0 ∧ fld f.hdr.toNat 127 126 = 3 then s
  else modLink k (fun l => { l with ret := upd (· + 1) l.ret (creditClass f) }) s

/-- The TAG of a VL0 flit or token (11 R392, R409). -/
def flitTag (f : Flit) : Nat := fld f.hdr.toNat 119 107

/-- Staged flits of a TAG are discarded; their credits were returned when they were staged (11 R397). -/
def dropStaged (tag : Nat) (s : State) : State :=
  { s with col := { s.col with staged := s.col.staged.filter fun p => flitTag p.2.1 != tag } }

/-- A flit that waits to be sent on link `k`. -/
def queueFlit (k : Nat) (f : Flit) (s : State) : State := modLink k (fun l => { l with txq := l.txq ++ [f] }) s

/-- A header with its HCRC (10 R348). -/
def withHcrc (h : Nat) : BitVec 128 :=
  let top := h / 65536
  BitVec.ofNat 128 (top * 65536 + crcBits 16 0x1021 0xFFFF 112 top)

/-- A routed flit (10 R348). -/
def mkFlit (vl kind dest src xfer foff : Nat) (sectors : List Sector) : Flit :=
  ⟨withHcrc (vl * 2 ^ 126 + kind * 2 ^ 120 + dest % 2 ^ 24 * 2 ^ 96 + src % 2 ^ 24 * 2 ^ 72 +
    (sectors.length - 1) % 8 * 2 ^ 64 + xfer % 2 ^ 16 * 2 ^ 48 + foff % 2 ^ 32 * 2 ^ 16), sectors⟩

/-- A sector of 32 data bytes with its check bytes. -/
def dataSector (d : Nat) : Sector := encodeSector (BitVec.ofNat 256 d)

/-- Bytes as whole sectors with their check bytes. -/
def bytesToSectors (bs : List Byte) : List Sector := (chunks 32 bs).map fun c => dataSector (ofLeBytes c)

/-- An abort token (11 R409). -/
def abortToken (tag : Nat) (all : Bool) (reason origin : Nat) : Flit :=
  let h := 2 * 2 ^ 126 + 7 * 2 ^ 120 + tag % 2 ^ 13 * 2 ^ 107 + b2n all * 2 ^ 106 + reason % 256 * 2 ^ 98 +
    origin % 2 ^ 24 * 2 ^ 74
  ⟨withHcrc h, []⟩

/-- This module's node id. -/
def nodeId (s : State) : Nat := rd Obj.NODE_ID s

/-- The count c of a Caller entry rises as a figure of the entry ends (11 R391). -/
def collCountUp (e : Nat) (s : State) : State :=
  { s with cal := { s.cal with counts := spSet 0 e ((spGet 0 s.cal.counts e + 1) % 2 ^ 31) s.cal.counts } }

/-- A collective leaves its slot: its references (those of a DIGEST figure's tensors too), landing-buffer space and staged
flits are released (11 R408), and its figure ends (02 R56, 11 R391). -/
def freeSlot (c : Coll) (outcome : Nat) (s : State) : State :=
  let s := { s with col := { s.col with
    slots := s.col.slots.filter fun d => d.entry != c.entry || d.tag != c.tag,
    ended := (c.tag, c.deadline) :: s.col.ended.filter fun p => p.1 != c.tag } }
  let s := forEach (collRefs c) dropRef s
  let runs := s.trn.digests.filter fun d => c.kind == 6 && d.entry == c.tag
  let s := forEach runs (fun d => dropRef d.tensor)
    { s with trn := { s.trn with digests := s.trn.digests.filter fun d => !(c.kind == 6 && d.entry == c.tag) } }
  let s := dropStaged c.tag s
  endFigure c.tag outcome (collCountUp c.entry s)

/-- A reducing collective that ends aborted leaves its destination undefined and the histories of its sources and
destination unknown (11 R413). -/
def collUndefined (c : Coll) (s : State) : State :=
  if c.kind = 0 ∧ collReduces c then
    let d := tensorOf (collDest c) s
    let s := makeUndef (32 * d.home) (32 * d.size) s
    forEach ((collSources c ++ [collDest c]).dedup) historyUnknown s
  else s

/-- The Bow's exact-sum ends aborted: nothing is committed (09 R320). -/
def bowAborted (c : Coll) (s : State) : State :=
  if c.kind = 1 then emit 0x8002 0 0xFFFFFFFF (bump Obj.BOWS_OPEN s) else s

/-- A collective ends aborted with outcome 1, and its flits are sent no more (11 R408, R413; 09 R320). -/
def abortColl (c : Coll) (s : State) : State :=
  let s := forEach (List.range 64) (fun k => modLink k fun l =>
    { l with txq := l.txq.filter fun f => fld f.hdr.toNat 127 126 != 0 || flitTag f != c.tag }) s
  bowAborted c (freeSlot c 1 (collUndefined c s))

/-- A link is up and usable (10 R363, R376). -/
def linkReady (k : Nat) (s : State) : Bool :=
  ((linkOf k s).state == .up || (linkOf k s).state == .hold) && (linkOf k s).usable

/-- One token with the collective's TAG on every valid, usable link of its plan (11 R410). -/
def sendTokens (c : Coll) (reason origin : Nat) (s : State) : State :=
  forEach (collLinks c) (fun k t =>
    if linkReady k t then queueFlit k (abortToken c.tag false reason origin) t else t) s

/-- A local fault in a collective: S1, one token with REASON 3 on every link of its plan, and it ends aborted (11 R410). -/
def localFault (c : Coll) (s : State) : State :=
  abortColl c (sendTokens c 3 (nodeId s) (emit 0x3104 0 c.tensor (bump Obj.ABORTED_EARLY s)))

/-- Sums of failures in one-hour windows by resource (14 R502). Resources: 0-15 core stores, 16-111 Floor slices,
112-175 arrays (core x 4 + array), 176-191 vector units, 192 the collective engine. -/
def hourCount (r : Nat) (s : State) : Nat := spGet 0 s.flt.hourCounts r

/-! ### Recorder flushes (15 R518, R522) -/

/-- A flush is requested (15 R518). While one runs, a power-fail request abandons it with code 0x9502 unless it is itself
one, its slot left invalid, and every other request is kept pending once (15 R520, R522). -/
def requestFlush (cause value : Nat) (powerFail : Bool) (s : State) : State :=
  let f : FlushRun := { FlushRun.init with cause := cause, value := value, powerFail := powerFail }
  match s.rcd.flush with
  | none => { s with rcd := { s.rcd with flush := some f } }
  | some g =>
    if powerFail ∧ g.powerFail = false then
      let cut (x : List RecSlot) : List RecSlot := if g.snap.isSome then x.set g.slot ⟨.invalid, none⟩ else x
      emit 0x9502 0 g.slot { s with
        rcd := { s.rcd with flush := some f }, flash := { s.flash with recSlots := cut s.flash.recSlots } }
    else match s.rcd.flushPend with
      | none => { s with rcd := { s.rcd with flushPend := some f } }
      | some _ => s

/-! ### Tasks (12 R439, 04 R152) -/

/-- The key of a taken task. -/
def Task.key (t : Task) : Nat := t.queue * 65536 + fld t.body.toNat 1015 1000

/-- CORE_MASK (12 R439). -/
def Task.mask (t : Task) : Nat := fld t.body.toNat 998 983

/-- PRIO. -/
def Task.prio (t : Task) : Nat := fld t.body.toNat 982 981

/-- SPILL. -/
def Task.spill (t : Task) : Nat := fld t.body.toNat 895 872

/-- IRQ (12 R438). -/
def Task.irq (t : Task) : Bool := bitOf t.body.toNat 999

/-- TENSOR of a stream's header (05 R164). -/
def Stream.tensor (x : Stream) : Nat := fld x.hdr.toNat 199 176

/-- The tensors a stream looks up in the directory: its far end and its index list (05 R161, R170). -/
def Stream.refs (x : Stream) : List Nat :=
  ((if fld x.hdr.toNat 252 251 = 0 then [x.tensor] else []) ++
   (if fld x.hdr.toNat 255 254 = 1 ∧ bitOf x.index.toNat 231 = false then [fld x.index.toNat 255 232] else [])).dedup

/-- A stream's references are released (05 R161). -/
def dropStreamRefs (x : Stream) (s : State) : State := if x.hasRef then forEach x.refs dropRef s else s

/-- The references of an engine's streams are released (05 R192). -/
def dropEngineRefs (e : Engine) (s : State) : State :=
  let one (o : Option Stream) (s : State) : State :=
    match o with
    | some x => dropStreamRefs x s
    | none => s
  one e.queued (one e.run s)

/-- Lines that a pass in flight may have written are undefined (04 R121). -/
def dropFlights (c : Nat) (fs : List PassFlight) (s : State) : State :=
  forEach fs (fun f => forEach f.regions fun (a, n) => makeUndef (32 * coreSector c 0 + a) n) s

/-- A core stops under 04 R152: the arrays take no input, the lines are cleared, nothing in flight publishes, the
sequencer and the streams stop. -/
def stopCore (c : Nat) (status : Nat) (s : State) : State :=
  let k := coreOf c s
  let s := forEach k.arrays (fun a => dropFlights c a.flight) s
  let s := forEach k.engines dropEngineRefs s
  modCore c (fun k => { k with
    status := status, task := none, vops := [], waitAt := none, preempting := false,
    engines := List.replicate 4 Engine.init,
    arrays := k.arrays.map fun a => { a with group := none, lines := [], flight := [], drain := none } }) s

/-- The task that runs on core `c`. -/
def taskOn (c : Nat) (s : State) : Option Task :=
  match (coreOf c s).task with
  | none => none
  | some k => s.tasks.find? fun t => t.key == k

/-- An output of the task that runs on core `c` is noted. -/
def noteOutput (c : Nat) (f : Task → Task) (s : State) : State :=
  match (coreOf c s).task with
  | none => s
  | some k => { s with tasks := mapIf (fun t => t.key == k) f s.tasks }

/-- The outputs of an aborted task are undefined: what it published in the core stores or wrote to the Floor, and the tensors
its streams wrote (03 R104; 04 R152; 05 R192). -/
def dropOutputs (t : Task) (s : State) : State :=
  let s := forEach t.stored (fun n => makeUndef (32 * n) 32) s
  forEach t.tensors (fun k s => let e := tensorOf k s; if e.state = 0 then s else makeUndef (32 * e.home) (32 * e.size) s) s

/-- A taken task ends before its END with a REASON and CODE: its cores stop, its saved state is dropped, its outputs are
undefined and its completion is posted (12 R443; 04 R152). -/
def abortTask (t : Task) (reason code : Nat) (post : Bool) (s : State) : State :=
  let out := (s.tasks.find? fun u => u.key == t.key).getD t
  let s := forEach ((List.range 16).filter fun c => (coreOf c s).task == some t.key) (fun c => stopCore c 4) s
  let s := dropOutputs out s
  let s := forEach t.saved (fun p => forEach p.2.engines dropEngineRefs) s
  let s := { s with tasks := s.tasks.filter fun u => u.key != t.key }
  let s := modQueue t.queue (fun q => if t.state = .waiting then { q with waiting := false } else q) s
  let cid := fld t.body.toNat 1015 1000
  if post then complete t.queue cid t.irq reason code s
  else modQueue t.queue (fun q => { q with open_ := q.open_.filter (· != cid) }) s

/-- The task of core `c` aborts at S1 with a code (04 R152, 05 R191). -/
def faultTask (c code value : Nat) (s : State) : State :=
  let s := emit code c value s
  match taskOn c s with
  | some t => abortTask t 1 code true s
  | none => stopCore c 4 s

/-! ### Commits (13 R465, R466) -/

/-- Every staged value is discarded and the area is freed, with code 0x9305 (13 R460). -/
def freeArea (s : State) : State :=
  emit 0x9305 0 s.dict.staged.length { s with dict := { s.dict with staged := [], owner := none, releaseDue := false } }

/-- The end of a commit frees an area whose release came due while it ran (13 R460). -/
def endCommit (s : State) : State := if s.dict.releaseDue then freeArea s else s

/-- A commit past its armed state ends without effect: its functions restart, staged values stay, the result is stored and code 0x9302 is
recorded; its figure ends with outcome 1 (13 R465, R468). -/
def failCommit (code failedAt : Nat) (s : State) : State :=
  match s.dict.commit with
  | none => s
  | some c => if c.phase = .armed then s else
    let s := { s with dict := { s.dict with commit := none }, arb := { s.arb with commitFreeze := 0 } }
    let s := forEach c.stopped (fun f => setRun f .running) s
    let s := emit 0x9302 0 code (bump Obj.COMMITS_FAILED (wr Obj.COMMIT_RESULT code s))
    let s := endCommit (onlyIf (failedAt != 0) (wr Obj.COMMIT_FAILED_AT failedAt) s)
    match c.figure with
    | some e => endFigure e 1 s
    | none => s

/-! ### Directory commands (06 R225) -/

/-- The OP of a directory command (06 R219). -/
def DirJob.op (j : DirJob) : Nat := fld j.cmd.toNat 255 248

/-- Its tensor. -/
def DirJob.tensor (j : DirJob) : Nat := fld j.cmd.toNat 247 224

/-- A mover or a digest engine works for the command, and holds a reference to its tensor (06 R217). -/
def DirJob.active (j : DirJob) : Bool := j.phase == .copying || j.phase == .digesting

/-- A directory command ends with a completion (an internal one has none), and its engine releases its reference (06 R217). -/
def endJob (j : DirJob) (reason code : Nat) (s : State) : State :=
  let s := { s with jobs := dropFirst (fun k => k == j) s.jobs }
  let s := onlyIf j.active (dropRef j.tensor) s
  match j.queue with
  | some q => complete q j.cid j.irq reason code s
  | none => s

/-- The tensor of an unfinished MOVE, RETURN or VACATE is again as it stood before the command, with the references it
holds now (06 R225). -/
def undoJob (j : DirJob) (s : State) : State :=
  if j.phase ≠ .queued ∧ (tensorOf j.tensor s).state = 2 then
    setTensor j.tensor { entryOf j.before.toNat with refs := (tensorOf j.tensor s).refs } s
  else s

/-! ### Sit-out and halt (14 R488, R489, R499) -/

/-- The abort token is due on every UP link, and on every link in HOLD after its hold (10 R356). -/
def tokensDue (s : State) : State :=
  { s with links := mapIf (fun l => l.state == .up || l.state == .hold) (fun l => { l with tokenDue := true }) s.links }

/-- The update units stop at once; writes not yet accepted are dropped whole (08 R289). -/
def stopUnits (s : State) : State :=
  { s with upd := { s.upd with units := s.upd.units.map fun p => (p.1, { p.2 with step := [] }), assembly := [] } }

/-- Entry into Sit-out with the cause's code and value (14 R489). In Sit-out or halt it changes nothing (14 R486). -/
def enterSitout (code value : Nat) (powerFail : Bool) (s : State) : State :=
  if rd Obj.FAULT_STATE s ≠ 0 then s
  else
    let s := wr Obj.CAUSE_COUNT (now s) (wr Obj.CAUSE_VALUE value (wr Obj.CAUSE code (wr Obj.FAULT_STATE 1 s)))
    let s := tokensDue s
    let s := { s with cal := { s.cal with firing := false } }
    let s := forEach s.col.slots abortColl s
    let s := stopUnits s
    let s := failCommit 0x04000008 0 s
    let s := forEach s.jobs (fun j t => endJob j 1 0x9410 (undoJob j t)) s
    let s := forEach s.tasks (fun t => abortTask t 1 code true) s
    let s := { s with trn := { s.trn with restore := none }, pow := { s.pow with ledgerSecs := max 60 s.pow.ledgerSecs } }
    let s := signal 20 (emit 0x9410 0 code s)
    requestFlush code value powerFail s

/-- An S3 event: it is recorded and the module enters Sit-out (14 R479, R488). -/
def faultS3 (code source value : Nat) (s : State) : State :=
  enterSitout code value false (emit code source value s)

/-- An S4 event: the module halts. The token goes out on every UP link unless Sit-out entry has sent it, the clocks stop,
the lasers go dark and the tiers are lost; the recorder is flushed (14 R487, R499). -/
def haltModule (code source value : Nat) (s : State) : State :=
  let s := emit code source value s
  let s := onlyIf (rd Obj.FAULT_STATE s = 0) tokensDue s
  let s := wr Obj.CAUSE_COUNT (now s) (wr Obj.CAUSE_VALUE value (wr Obj.CAUSE code (wr Obj.FAULT_STATE 2 s)))
  let s := emit 0x9411 0 code s
  let s := { s with
    pow := { s.pow with phase := .halted },
    host := { s.host with up := false },
    net := { s.net with laserOn := false },
    cal := { s.cal with firing := false },
    mem := { Memory.init with undef := [] },
    links := s.links.map fun l => { l with state := .dark, stateAt := s.clk.ticks, usable := false } }
  let (k, s) := drawFree s
  let s := { s with mem := { s.mem with undef := [⟨0, 0x14000000000, k⟩] } }
  requestFlush code value false s

/-- KIND of a sector request word (07 R234). -/
def reqKind (w : Nat) : Nat := fld w 63 60

/-- Its RANK. -/
def reqRank (w : Nat) : Nat := fld w 59 57

/-- Its TAG. -/
def reqTag (w : Nat) : Nat := fld w 56 49

/-- Its SECTOR. -/
def reqSector (w : Nat) : Nat := fld w 47 19

/-- An answer of a base die or buffer (07 R235). -/
def answerMem (unit word status : Nat) (x : Option Sector) (r : Option (BitVec 64)) (s : State) : State :=
  { s with mo := { s.mo with answers := s.mo.answers ++ [⟨unit, reqTag word, status, x, r⟩] } }

/-- A unit lost for reasons 5 to 10 gets no further command: what waits in front of it is answered with STATUS 2, and its
retrains and engine writes are dropped (07 R235, R263). -/
def abandonUnits (s : State) : State :=
  let gone := s.mo.held.filter fun r => unitGone r.unit s
  let on (n : Nat) : Bool := match unitOf n with
    | some u => unitGone u s
    | none => false
  let t := { s with mo := { s.mo with
    held := s.mo.held.filter fun r => !unitGone r.unit s
    training := s.mo.training.filter fun r => !unitGone r.unit s
    late := s.mo.late.filter fun w => !on w.sector } }
  forEach gone (fun r => answerMem r.unit r.word.toNat 2 none none) t

/-- The packages behind lost-unit number `u`, lost with their buffer (07 R261). -/
def packagesOf (u : Nat) : List Nat := if 8 ≤ u ∧ u < 14 then [14 + 2 * (u - 8), 15 + 2 * (u - 8)] else []

/-- A unit is declared lost: stack 0-7, buffer 8-13 or package 14-25, for a reason of 07 R261. It is an S3 event
(07 R262). A buffer takes its packages with it (R261; log entry 108). -/
def loseUnit (u reason : Nat) (s : State) : State :=
  if lostReason u s ≠ 0 then s
  else
    let all := u :: (packagesOf u).filter fun p => lostReason p s == 0
    let s := abandonUnits (forEach all (fun p s => { s with mo := { s.mo with lost := spSet 0 p reason s.mo.lost } }) s)
    if u < 8 then faultS3 0x1740 u (u * 256 + reason) s
    else if u < 14 then faultS3 0x1741 (u - 8) ((u - 8) * 256 + reason) s
    else faultS3 0x1742 (u - 14) ((u - 14) * 256 + reason) s

/-- One more failure of a resource in this hour; past REPEAT_LIMIT the module enters Sit-out with code 0x2904 (14 R502). -/
def countRepeat (r : Nat) (s : State) : State :=
  let n := hourCount r s + 1
  let s := { s with flt := { s.flt with hourCounts := spSet 0 r n s.flt.hourCounts } }
  onlyIf (decide (rd Obj.REPEAT_LIMIT s < n)) (faultS3 0x2904 r r) s

/-! ### Reading stored sectors (06 R202 to R206; 07 R256, R257) -/

/-- An address is counted in a one-hour count unless it is among the 64 recently counted (07 R256); the new total. -/
def hourHit (addr : Nat) (h : HourCount) : HourCount :=
  if h.recent.contains addr then h
  else { bins := upd (· + 1) h.bins 0, recent := (addr :: h.recent).take 64 }

/-- Its total over the last hour. -/
def hourTotal (h : HourCount) : Nat := sumNat h.bins

/-- A corrected sector counts toward CE_LIMIT of its channel (07 R256, R261 reason 2). -/
def countCorrected (n : Nat) (s : State) : State :=
  match unitOf n with
  | none => s
  | some u =>
    let h := hourHit n (spGet HourCount.init s.mo.ce u)
    let s := { s with mo := { s.mo with ce := spInsert u h s.mo.ce } }
    onlyIf (decide (rd Obj.CE_LIMIT s < hourTotal h)) (loseUnit (lossUnit u) 2) s

/-- A confirmed uncorrectable sector counts toward UE_LIMIT of its channel (07 R256, R261 reason 3), or toward
REPEAT_LIMIT of its core store or Floor slice (14 R502). -/
def countUncorrectable (n : Nat) (s : State) : State :=
  match unitOf n with
  | some u =>
    let h := hourHit n (spGet HourCount.init s.mo.ue u)
    let s := { s with mo := { s.mo with ue := spInsert u h s.mo.ue } }
    onlyIf (decide (rd Obj.UE_LIMIT s < hourTotal h)) (loseUnit (lossUnit u) 3) s
  | none => match sectorRegion n with
    | .core k => countRepeat k s
    | .floor | .landing => countRepeat (16 + (32 * n - 0x20000000000) / 256 % 96) s
    | _ => s

/-- A transit error counts toward TRANSIT_LIMIT of its stack or buffer in this second (07 R257, R261 reason 4). -/
def countTransit (n : Nat) (s : State) : State :=
  match unitOf n with
  | none => s
  | some u =>
    let k := spGet 0 s.mo.transit (transitUnit u) + 1
    let s := { s with mo := { s.mo with transit := spSet 0 (transitUnit u) k s.mo.transit } }
    onlyIf (decide (rd Obj.TRANSIT_LIMIT s < k)) (loseUnit (transitUnit u) 4) s

/-- The counter of corrected sectors of a region (06 R204). -/
def bumpCorrected (n : Nat) (s : State) : State :=
  match sectorRegion n with
  | .fastTensor | .fastSystem => bump Obj.CORRECTED_FAST s
  | .slow => bump Obj.CORRECTED_SLOW s
  | _ => bump Obj.CORRECTED_SRAM s

/-- The source field of a memory event: the channel or sub-channel, or 0. -/
def memSource (n : Nat) : Nat := (unitOf n).getD 0

/-- A confirmed bad sector puts its tensor in damaged-reported; a directory command that has the tensor moving stops at once
and completes with code 0x1603, and a collective on the tensor aborts by a local fault (06 R218, R224; 11 R410). -/
def damageTensor (t : Nat) (s : State) : State :=
  let s' := markDamaged t s
  let s' := if (tensorOf t s).state = 1 then
      forEach (s.col.slots.filter fun c => (collRefs c).contains t) localFault s'
    else s'
  if (tensorOf t s).state = 2 then
    match s'.jobs.find? fun j => j.tensor == t && j.phase != .queued with
    | some j => endJob j 1 0x1603 s'
    | none => s'
  else s'

/-- An uncorrectable sector of the system region: one of the directory table is an S3 event, one of the digest table or the
step-state area an S2 event (07 R251; 14, the failure matrix; 09 R325). -/
def systemBad (n : Nat) (s : State) : State :=
  let a := 32 * n
  if 0x7FC0000000 ≤ a ∧ a < 0x7FE0000000 then faultS3 0x1714 (memSource n) a s
  else if 0x7FE0000000 ≤ a ∧ a < 0x8000000000 then emit 0x1713 (memSource n) a s
  else s

/-- A confirmed uncorrectable stored sector: counted, recorded with its address, its tensor damaged-reported (06 R206). -/
def confirmBad (n : Nat) (s : State) : State :=
  let s := emit 0x1602 (memSource n) (32 * n) (bump Obj.UNCORRECTABLE s)
  let s := match ownerOf n s with
    | some t => damageTensor t s
    | none => s
  countUncorrectable n (systemBad n s)

/-- A stored sector that decodes with `k` symbols corrected: counted and recorded; `k` = 0 is no correction (06 R204;
07 R256). -/
def noteCorrected (n k : Nat) (s : State) : State :=
  if k = 0 then s else countCorrected n (emit 0x1601 (memSource n) k (bumpCorrected n s))

/-- The correction of the stored sector beneath a write-combining entry, as a read overlays it (06 R204, R211). -/
def overlayNote (n : Nat) (s : State) : State :=
  match wcEntry n s with
  | none => s
  | some _ => match decodeSector (rdSector n s) with
    | .ok _ k => noteCorrected n k s
    | .bad => s

/-- What a consumer gets from a sector: `first` and `again` are the disturbances of the read and of the one reread
(log entry 22). Uncorrectable: the stored sector is read once more; bad again it is confirmed, else a transit error
is counted; either way there is no data (06 R204, R206). -/
def consume (n : Nat) (first again : BitVec 288) (s : State) : Option (BitVec 256) × State :=
  let x := readOverlay n s
  let s := overlayNote n s
  match decodeSector (disturb x first) with
  | .ok d k => (some d, noteCorrected n k s)
  | .bad => match decodeSector (disturb (rdSector n s) again) with
    | .bad => (none, confirmBad n s)
    | .ok _ _ => (none, countTransit n (emit 0x1601 (memSource n) 0xFF s))

/-- A sector read by an engine with no disturbance on the way. -/
def consumeClean (n : Nat) (s : State) : Option (BitVec 256) × State := consume n 0 0 s

end Sys2Proof.Machine
end

