-- ==== Sys2Proof/Machine/Operands.lean ====
section
/-! DEFINITION. The forms of a dictionary request: which object it names, who may write it, which values it takes, where a
write is staged, and the frame every write command runs in (13 R447 to R460, R475). -/

namespace Sys2Proof.Machine

open Sys2Proof

/-! ### Objects and their keys -/

/-- The row of an object, or the abort code of 13 R477. -/
def findObj (idx sub : Nat) : Except Nat ObjRow :=
  match objRows.find? fun r => decide (r.idx0 ≤ idx ∧ idx ≤ r.idx1 ∧ r.sub0 ≤ sub ∧ sub ≤ r.sub1) with
  | some r => .ok r
  | none =>
    if objRows.any fun r => decide (r.idx0 ≤ idx ∧ idx ≤ r.idx1) then .error 0x01000002 else .error 0x01000001

/-- The length of an object's values in bytes; 0 for a domain and for an object that does not exist. -/
def objSize (idx sub : Nat) : Nat :=
  match findObj idx sub with
  | .ok r => r.size
  | .error _ => 0

/-- A number for each transport. -/
def transportNum : Transport → Nat
  | .i3c => 0
  | .cxl => 1
  | .cavo => 2

/-- The selector of an index on a transport (13 R451). -/
def selectorOf (t : Transport) (idx : Nat) (s : State) : Nat := spGet 0 s.dict.selectors (transportNum t * 65536 + idx)

/-- A selector written on one transport (13 R451). -/
def setSelector (t : Transport) (idx v : Nat) (s : State) : State :=
  { s with dict := { s.dict with selectors := spSet 0 (transportNum t * 65536 + idx) v s.dict.selectors } }

/-- The objects whose name ends in _SELECT (13 R451, R458). -/
def isSelector (idx sub : Nat) : Bool :=
  (sub == 1 && [0x6010, 0xE100, 0x6150, 0x7001, 0x7002, 0x7003, 0x8005, 0x8010, 0x8100, 0x9010, 0xB010, 0xB020, 0xB110,
    0x6202].contains idx) ||
  (idx == 0x7130 && sub == 2) || (idx == 0xA001 && sub == 3) || (idx == 0xB030 && sub == 4)

/-- The selection an object's value lies under: the selector of its index on the transport, or 0. -/
def selOf (t : Transport) (idx sub : Nat) (s : State) : Nat :=
  if selected idx sub then selectorOf t idx s else 0

/-- The default of an object (13 R447): the Caller table's entries, CQ_VECTOR and the set entries
have their own (02 R46, R61; 12; 08 R267; log entry 24). -/
def dfltOf (r : ObjRow) (idx sub sel : Nat) : Nat :=
  if 0x3100 ≤ idx ∧ idx ≤ 0x32FF then (if sub = 1 then defaultDesc (idx - 0x3100) else defaultParam (idx - 0x3100))
  else if idx = 0x9010 ∧ sub = 6 then sel
  else if idx = 0x7003 ∧ sub = 5 then 0xA0000000000000
  else r.dflt

/-- The register behind an object on a transport. -/
def regOf (r : ObjRow) (idx sub sel : Nat) : RegId :=
  { idx := idx, sub := sub, sel := sel, dflt := dfltOf r idx sub sel, size := r.size }

/-- The index of a register key. -/
def keyIdx (k : Nat) : Nat := k / 65536 / 256

/-- The subindex of a register key. -/
def keySub (k : Nat) : Nat := k / 65536 % 256

/-- The selected item of a register key. -/
def keySel (k : Nat) : Nat := k % 65536

/-- The register of a key. -/
def regOfKey (k : Nat) : RegId :=
  match findObj (keyIdx k) (keySub k) with
  | .ok r => regOf r (keyIdx k) (keySub k) (keySel k)
  | .error _ => { idx := keyIdx k, sub := keySub k, sel := keySel k, size := 8 }

/-- The function an index belongs to: 0 to 6, 15 for GENERAL, none for the control objects (13 R478). -/
def ownerFn (idx : Nat) : Option Nat :=
  if idx < 0x3000 then none
  else if idx ≤ 0x32FF then some 5
  else if idx < 0x4001 then none
  else if idx ≤ 0x4103 then some 0
  else if 0x5001 ≤ idx ∧ idx ≤ 0x5030 then some 1
  else if 0x6001 ≤ idx ∧ idx ≤ 0x6202 then some 15
  else if 0x7000 ≤ idx ∧ idx ≤ 0x7130 then some 2
  else if 0x8001 ≤ idx ∧ idx ≤ 0x8020 then some 4
  else if 0x8100 ≤ idx ∧ idx ≤ 0x8400 then some 3
  else if 0x9001 ≤ idx ∧ idx ≤ 0x9020 then some 15
  else if 0xA000 ≤ idx ∧ idx ≤ 0xAFFF then some 15
  else if 0xB000 ≤ idx ∧ idx ≤ 0xBFFF then some 6
  else if 0xC000 ≤ idx ∧ idx ≤ 0xFFFF then some 15
  else none

/-! ### Availability and permission -/

/-- A Cavo requester's flit: VL3 of KIND 0x4 from its node (13 R472). -/
def isRequest (w : Writer) (f : Flit) : Bool :=
  let h := f.hdr.toNat
  fld h 127 126 == 3 && fld h 123 120 == 4 && fld h 95 72 == w.src

/-- The dictionary answers on a transport: over I3C from the end of bring-up step 1, over Cavo from step 3, over CXL from
step 4 with its link up (18 R585); in halt over I3C only (14 R499). -/
def answers (w : Writer) (s : State) : Bool :=
  match w.via with
  | .i3c => s.boot.fwRunning || s.pow.phase == .halted || s.pow.phase == .recovery || rd Obj.FAULT_STATE s != 0 && alive s
  | .cavo => alive s && decide (2 ≤ s.boot.stepDone) && s.net.local_.any fun p => isRequest w p.2
  | .cxl => alive s && s.host.up

/-- The objects the ROM answers in recovery (17 R563). -/
def inRecovery (idx sub : Nat) : Bool :=
  idx == 0x1000 || idx == 0xD000 || (idx == 0xD010 && [1, 2, 4, 5].contains sub)

/-- Who may write an object (13 R475). -/
def permitted (w : Writer) (r : ObjRow) (s : State) : Nat :=
  match w.via with
  | .i3c => 0
  | .cxl => if rd Obj.HOST_WRITES s = 0 ∨ r.i3cOnly then 0x05000001 else 0
  | .cavo =>
    if r.fabric = false then 0x05000001
    else if rd Obj.FABRIC_WRITES s = 0 then 0x05000002
    else if rd Obj.FABRIC_MANAGER s ≠ 0 ∧ rd Obj.FABRIC_MANAGER s ≠ w.src then 0x05000002
    else 0

/-- A value against the defined bits and the ranges of its object (13 R447, R449). -/
def valueCheck (r : ObjRow) (v : Nat) : Nat :=
  if r.mask ≠ 0 ∧ v - (v &&& r.mask) ≠ 0 then 0x02000002
  else if r.ranges.isEmpty ∨ (r.ranges.any fun (lo, hi) => decide (lo ≤ v ∧ v ≤ hi)) ∧ v % r.step = 0 then 0
  else 0x02000001

/-- The module refuses every request: firmware restarts (14 R500). -/
def firmwareDown (s : State) : Bool := s.boot.fwRunning == false && rd Obj.FAULT_STATE s == 1

/-- In Sit-out the objects of the cores, streams and update engines take no write (13 R457). -/
def sitoutRefuses (idx : Nat) (s : State) : Bool :=
  inSitout s && (match ownerFn idx with | some f => decide (f ≤ 2) | none => false)

/-- The checks every write passes before its change class is looked at, in the order the log gives (log entry 23). -/
def writeGate (w : Writer) (idx sub len v : Nat) (s : State) : Nat :=
  if s.pow.phase = .halted then 0x03000003
  else if firmwareDown s then 0x05000003
  else match findObj idx sub with
    | .error c => c
    | .ok r =>
      if r.access = .ro then 0x01000003
      else if permitted w r s ≠ 0 then permitted w r s
      else if len ≠ r.size then 0x01000005
      else if sitoutRefuses idx s then 0x03000003
      else valueCheck r v

/-! ### Answers -/

/-- A Cavo request's flit, VL3 of KIND 0x4 from its source, leaves the buffer with its credit returned (13 R472; 10 R353; 19 R604). -/
def takeRequest (w : Writer) (s : State) : State :=
  let mine (p : Nat × Flit) : Bool := isRequest w p.2
  match w.via, s.net.local_.find? mine with
  | .cavo, some p => returnCredit p.1 p.2 { s with net := { s.net with local_ := dropFirst mine s.net.local_ } }
  | _, _ => s

/-- A requester on CXL with no endpoint ID of its own is control space, which the host reaches through BAR2-3
(13 R476; log entry 23). -/
def isBar (w : Writer) : Bool := w.via == .cxl && w.src == 0

/-- The header of a response (13 R473). -/
def responseHeader (cmd tag code len : Nat) : BitVec 64 :=
  BitVec.ofNat 64 ((cmd + 0x80) % 256 * 2 ^ 56 + tag % 256 * 2 ^ 48 + code % 2 ^ 32 * 2 ^ 16 + len % 65536)

/-- The sectors of a Cavo requester's flit. -/
def requestData (w : Writer) (s : State) : List (BitVec 256) :=
  match s.net.local_.find? fun p => isRequest w p.2 with
  | some p => p.2.sectors.map Sector.data
  | none => []

/-- The flit that carries a response back to a Cavo requester: VL3 of KIND 0x4 (13 R472). -/
def responseFlit (w : Writer) (r : Response) (s : State) : Flit :=
  let packet := Config.mctpPacket (rd Obj.FABRIC_EID s) (requestData w s) (leBytes 8 r.header.toNat ++ r.value)
  mkFlit 3 4 w.src (nodeId s) 0 0 (bytesToSectors (packet.take 256))

/-- A response over Cavo waits to be sent (13 R472; 19 R604). -/
def sendResponse (f : Flit) (s : State) : State :=
  { s with
    net := { s.net with waitFlits := s.net.waitFlits ++ [(64, f)] }
    dict := { s.dict with outbound := s.dict.outbound ++ [(f, s.clk.ticks)] } }

/-- A request with COMMAND `cmd` is answered: the abort code or 0, and the value (13 R472, R473). -/
def answerAs (w : Writer) (cmd tag code : Nat) (value : List Byte) (s : State) : State :=
  let r : Response := ⟨w, responseHeader cmd tag code value.length, value⟩
  let f := responseFlit w r s
  let s := takeRequest w s
  let s := { s with dict := { s.dict with lastAbort := code, responses := s.dict.responses ++ [r] } }
  onlyIf (w.via == .cavo) (sendResponse f) s

/-- A write is answered; one refused in control space is stored in LAST_BAR_ABORT (13 R473, R476). -/
def answerWith (w : Writer) (tag code : Nat) (value : List Byte) (s : State) : State :=
  let s := answerAs w 2 tag code value s
  if code ≠ 0 ∧ isBar w then wr Obj.LAST_BAR_ABORT code s else s

/-- A write command as its row states it: the gate, then the command's own rule, which answers an abort code or 0 and the state
it leaves. A rule that refuses leaves the state as it was (13 R449, R457) but for what its chapter states of the refusal. -/
def command (w : Writer) (idx sub v : Nat) (f : State → Nat × State) (s : State) : State :=
  if answers w s = false ∨ (s.pow.phase = .recovery ∧ inRecovery idx sub = false) then s
  else
    let c := writeGate w idx sub (objSize idx sub) v s
    if c = 0 then answerWith w 0 (f s).1 [] (f s).2 else answerWith w 0 c [] s

/-! ### Values in effect, and staging -/

/-- Saved values have taken effect: the saved image is pending; before bring-up step 6 their keys are kept apart from the image not yet
applied (13 R469; 18 R585). -/
def saveDue (ks : List Nat) (s : State) : State :=
  let early := if s.boot.stepDone < 6 then (s.boot.early ++ ks).dedup else s.boot.early
  wr Obj.SAVE_STATE 1 { s with boot := { s.boot with saveDirty := true, early := early } }

/-- A value takes effect (13 R455). -/
def applyKey (k v : Nat) (s : State) : State :=
  match findObj (keyIdx k) (keySub k) with
  | .ok r => onlyIf r.save (saveDue [k]) (wr (regOf r (keyIdx k) (keySub k) (keySel k)) v s)
  | .error _ => s

/-- The value a key would have after the commit of every staged value. -/
def stagedOr (k : Nat) (s : State) : Nat :=
  match s.dict.staged.find? fun x => x.key == k with
  | some x => x.value.toNat
  | none => rd (regOfKey k) s

/-- Whether a commit is past its armed state (13 R459, R461). -/
def commitBusy (s : State) : Bool :=
  match s.dict.commit with
  | none => false
  | some c => c.phase != .armed

/-- Whether a writer owns the staging area (13 R459). -/
def owns (w : Writer) (s : State) : Bool := s.dict.owner == some w

/-- A value is staged (13 R458, R459). -/
def stage (w : Writer) (k v : Nat) (s : State) : Nat × State :=
  if s.dict.owner ≠ none ∧ owns w s = false then (0x04000003, s)
  else if commitBusy s then (0x04000001, s)
  else
    let old := s.dict.staged.any fun x => x.key == k
    if old = false ∧ s.dict.staged.length ≥ 65536 then (0x04000002, s)
    else
      let rest := s.dict.staged.filter fun x => x.key != k
      (0, { s with dict := { s.dict with
        staged := rest ++ [⟨k, BitVec.ofNat 64 v⟩], owner := some w,
        idleAt := opSec s } })

/-- Staged values are discarded; the area is freed when it empties. -/
def unstage (p : Staged → Bool) (s : State) : State :=
  let rest := s.dict.staged.filter fun x => !p x
  { s with dict := { s.dict with staged := rest, owner := if rest.isEmpty then none else s.dict.owner } }

/-- Every staged value is discarded, an armed commit is disarmed and the area is freed, with code 0x9305 (13 R460). A commit
past its armed state is not affected, and its end frees the area. -/
def releaseStaging (s : State) : State :=
  if commitBusy s then { s with dict := { s.dict with releaseDue := true } }
  else freeArea { s with dict := { s.dict with commit := none } }

end Sys2Proof.Machine
end

