-- ==== Sys2Proof/Machine/Flags.lean ====
section
/-! DEFINITION. Flags and status: core flags, the alert latch, the fault pins, the READY pin, and which MSI-X vector an event
signals (04 R146, 12 R444, 14 R505, R506, 18 R587). -/

namespace Sys2Proof.Machine

open Sys2Proof

/-! ### Core flags (04 R146) -/

/-- Generation of core flag `n`, 0-63. -/
def coreFlag (n : Nat) (s : State) : Nat := rd (Obj.CORE_FLAG (n + 1)) s % 2 ^ 31

/-- 1 is added to core flag `n`, wrapping like a Caller flag (04 R146). -/
def coreFlagUp (n : Nat) (s : State) : State := wr (Obj.CORE_FLAG (n + 1)) ((coreFlag n s + 1) % 2 ^ 31) s

/-- A generation has reached a target (04 R143). -/
def reached (gen target : Nat) : Bool := decide ((gen + 2 ^ 31 - target % 2 ^ 31) % 2 ^ 31 < 2 ^ 30)

/-! ### The alert latch and the pins -/

/-- An event of severity n sets bit n of ALERT_LATCH (14 R506). -/
def latchAlert (sev : Nat) (s : State) : State :=
  wr Obj.ALERT_LATCH (rd Obj.ALERT_LATCH s ||| 2 ^ sev) s

/-- The level of a module output: released, low or high (18 R587). -/
inductive PinLevel where
  | released | low | high
  deriving DecidableEq, Repr

/-- The READY pin (14 R505, 18 R587). -/
def pinReady (s : State) : PinLevel :=
  match s.pow.phase with
  | .unpowered | .held => .released
  | .recovery | .halted => .low
  | .active => if isReady s then .high else .low

/-- The SITOUT_N pin. -/
def pinSitoutN (s : State) : PinLevel :=
  match s.pow.phase with
  | .unpowered | .held => .released
  | .recovery | .halted => .low
  | .active => if rd Obj.FAULT_STATE s = 0 then .high else .low

/-- The FAULT_N pin. -/
def pinFaultN (s : State) : PinLevel :=
  match s.pow.phase with
  | .unpowered | .held => .released
  | .recovery | .halted => .low
  | .active => .high

/-- The ALERT_N pin: low in Sit-out and halt, and while ALERT_LATCH holds a severity that ALERT_MASK selects. -/
def pinAlertN (s : State) : PinLevel :=
  match s.pow.phase with
  | .unpowered | .held | .recovery => .released
  | .halted => .low
  | .active =>
    if rd Obj.FAULT_STATE s ≠ 0 ∨ (rd Obj.ALERT_LATCH s &&& rd Obj.ALERT_MASK s) ≠ 0 then .low else .high

/-- The TIME_PPS_OUT pin (02 R29, 18 R587). -/
def pinPpsOut (s : State) : PinLevel :=
  match s.pow.phase with
  | .unpowered | .held => .released
  | .recovery | .halted => .low
  | .active => if s.tim.ppsOut then .high else .low

/-! ### Interrupt vectors (12 R444, R445) -/

/-- The vector that announces an event's class of occurrence (12 R444); Sit-out's vector 20 is signalled by its entry. -/
def vectorOf (code : Nat) : Option Nat :=
  if [0x4001, 0x4002, 0x4003].contains code then some 16
  else if [0x3002, 0x3003, 0x3020].contains code then some 17
  else if [0x1602, 0x1606, 0x1740, 0x1741, 0x1742, 0x6003].contains code then some 18
  else if [0x8001, 0x8002, 0x8004, 0x8005, 0x8009, 0x800A, 0x800B].contains code then some 19
  else if [0x9501, 0x9504].contains code then some 21
  else if [0x6006, 0x6007, 0x6008].contains code then some 22
  else none

/-- Vectors 16 to 22 fire on each event, at most once per millisecond each (12 R445). -/
def signalLimited (v : Nat) (s : State) : State :=
  let t := s.clk.ticks
  match (s.host.vecAt.find? fun p => p.1 == v) with
  | some (_, at_) =>
    if t < at_ + 1000000 ∧ at_ ≤ t then s
    else signal v { s with host := { s.host with vecAt := spInsert v t s.host.vecAt } }
  | none => signal v { s with host := { s.host with vecAt := spInsert v t s.host.vecAt } }

end Sys2Proof.Machine
end

