-- ==== Sys2Proof/Machine/UpdateBase.lean ====
section
/-! DEFINITION. What the update engines and training state are kept in: set entries, programs, the step-state area, the
granules of running update steps, and the stop of the update function (08 R264 to R277, R298; 09 R306 to R309). -/

namespace Sys2Proof.Machine

open Sys2Proof

/-! ### Set entries (08 R267) -/

/-- An update set entry. -/
structure SetEntry where
  valid : Bool
  mirror : Bool
  clip : Bool
  nanSkip : Bool
  resetScalars : Bool
  clipGroup : Nat
  slots : Nat
  masterSlots : Nat
  prog : Nat
  cbank : Nat
  landing : Nat
  stateT : Nat
  masterT : Nat
  working : Nat
  keyT : Nat
  elemBase : Nat
  reserved : Nat
  deriving DecidableEq, Repr

/-- The entry 256 bits hold (08 R267). -/
def setEntryOf (x : Nat) : SetEntry :=
  ⟨bitOf x 255, bitOf x 254, bitOf x 253, bitOf x 252, bitOf x 251, fld x 250 249, fld x 248 247, fld x 246 245,
   fld x 244 241, fld x 240 233, fld x 232 209, fld x 208 185, fld x 184 161, fld x 160 137, fld x 136 113,
   fld x 112 73, fld x 72 0⟩

/-- 256 bits from four dictionary words, the least significant first. -/
def join4 (w : Nat → Nat) : Nat := w 0 + w 1 * 2 ^ 64 + w 2 * 2 ^ 128 + w 3 * 2 ^ 192

/-- The entry of set `n` in effect. -/
def setEntry (n : Nat) (s : State) : SetEntry := setEntryOf (join4 fun i => rd (Obj.SET_W (2 + i) n) s)

/-- The valid sets, in ascending order. -/
def validSets (s : State) : List Nat :=
  s.regs.filterMap fun (k, v) =>
    if keyIdx k = 0x7003 ∧ keySub k = 5 ∧ bitOf v.toNat 63 then some (keySel k) else none

/-- Blocks of a set: those of its landing tensor (08 R268). -/
def setBlocks (e : SetEntry) (s : State) : Nat := blocksOf (tensorOf e.landing s).elements

/-- The first sector of block `b`'s state in a part: the STATE tensor for 0, the MASTER tensor for 1 (08 R268). -/
def stateSector (e : SetEntry) (part b : Nat) (s : State) : Nat :=
  if part = 0 then (tensorOf e.stateT s).home + 4 * e.slots * b
  else (tensorOf e.masterT s).home + 4 * e.masterSlots * b

/-- Slots per block of a part. -/
def partSlots (e : SetEntry) (part : Nat) : Nat := if part = 0 then e.slots else e.masterSlots

/-- The update unit that reaches a sector: bank unit c or Lomlek unit 256 + b (08 R264). -/
def updUnitOf (n : Nat) : Nat :=
  match unitOf n with
  | some u => if u < 256 then u else 256 + (u - 256) / 8
  | none => 0

/-- The Lomlek buffer whose delta queue serves a block's master part. -/
def deltaTarget (e : SetEntry) (b : Nat) (s : State) : Nat := updUnitOf (stateSector e 1 b s)

/-! ### Programs (08 R270 to R273) -/

/-- An update program: the lengths of its five sections and its slot. -/
structure Prog where
  lens : List Nat
  slot : Nat
  deriving DecidableEq, Repr

/-- The section lengths a header holds (08 R270). -/
def progLens (h : Nat) : List Nat := [fld h 63 58, fld h 57 52, fld h 51 46, fld h 45 40, fld h 39 34]

/-- The program in slot `q`. -/
def progOf (q : Nat) (s : State) : Prog := ⟨progLens (rd (Obj.PROG_HEADER q) s), q⟩

/-- Length of section `k`: 0 step, 1 moment prologue, 2 moment body, 3 master prologue, 4 master body. -/
def Prog.len (p : Prog) (k : Nat) : Nat := nth 0 p.lens k

/-- The first instruction of section `k`. -/
def Prog.start (p : Prog) (k : Nat) : Nat := sumNat (p.lens.take k)

/-- Instruction `i` of slot `q` (08 R270). -/
def progInstr (q i : Nat) (s : State) : Nat := fld (rd (Obj.PROG_WORD (3 + i / 2) q) s) (32 * (i % 2) + 31) (32 * (i % 2))

/-- An instruction's fields (08 R273). -/
structure UpdInstr where
  op : Nat
  d : Nat
  a : Nat
  b : Nat
  c : Nat
  mod : Nat
  deriving DecidableEq, Repr

/-- The fields of 32 bits (08 R273). -/
def updInstrOf (x : Nat) : UpdInstr := ⟨fld x 31 26, fld x 25 20, fld x 19 14, fld x 13 8, fld x 7 2, fld x 1 0⟩

/-- Slots an operation costs per issue (08 R272). -/
def opSlots (op : Nat) : Nat := if 4 ≤ op ∧ op ≤ 6 then 4 else if op = 0xA then 2 else 1

/-- Slots of section `k` (08 R272). -/
def sectionSlots (p : Prog) (k : Nat) (s : State) : Nat :=
  sumNat ((List.range (p.len k)).map fun i => opSlots (updInstrOf (progInstr p.slot (p.start k + i) s)).op)

/-- Blocks of a bank unit's step (08 R287); at least one (R287). -/
def bankStepBlocks (e : SetEntry) (s : State) : Nat :=
  let p := progOf e.prog s
  max 1 (350 / max 1 (sectionSlots p 1 s + sectionSlots p 2 s))

/-- Issues of a Lomlek unit's step: the master part with the working-weight derivation's 2 slots, or both parts of a mirror
set; a prologue is paid for each of the two blocks (08 R272, R287). -/
def lomlekStepIssues (e : SetEntry) (s : State) : Nat :=
  let p := progOf e.prog s
  let master := 2 * sectionSlots p 3 s + sectionSlots p 4 s
  let c := if e.mirror then 2 * sectionSlots p 1 s + sectionSlots p 2 s + master else master + 2
  max 1 (600 / max 1 c)

/-! ### The step-state area (09 R306 to R309) -/

/-- COMMITTED (09 R306). -/
def committedStep (s : State) : Nat := rd Obj.COMMITTED_STEP s

/-- OPEN (09 R306). -/
def openStep (s : State) : Nat := (rd Obj.COMMITTED_STEP s + 1) % 2 ^ 64

/-- A set record (09 R309). -/
structure SetRec where
  step : Nat
  begun : Bool
  applied : Bool
  partner : Bool
  nsq : Nat
  pend : List Nat
  scal : List Nat
  deriving DecidableEq, Repr

/-- The data of a stored sector as a consumer sees it, corrected (06 R204). -/
def corrected (n : Nat) (s : State) : Nat :=
  match decodeSector (rdSector n s) with
  | .ok d _ => d.toNat
  | .bad => rdData n s

/-- The 512 bits of set `n`'s record. -/
def recBitsOf (n : Nat) (s : State) : Nat :=
  corrected (stepBase + 2048 + 2 * n) s + corrected (stepBase + 2048 + 2 * n + 1) s * 2 ^ 256

/-- A sector decodes. -/
def sectorReadable (n : Nat) (s : State) : Bool :=
  match decodeSector (rdSector n s) with
  | .ok _ _ => true
  | .bad => false

/-- The record of set `n` (09 R309). One that is lost, a sector of it uncorrectable, stands for a torn set: BEGUN without APPLIED
in the open step (09 R324). -/
def recOf (n : Nat) (s : State) : SetRec :=
  if sectorReadable (stepBase + 2048 + 2 * n) s && sectorReadable (stepBase + 2048 + 2 * n + 1) s then
    let x := recBitsOf n s
    ⟨fld x 511 448, bitOf x 447, bitOf x 446, bitOf x 445, fld x 415 384,
     [fld x 383 352, fld x 351 320, fld x 319 288, fld x 287 256],
     [fld x 255 224, fld x 223 192, fld x 191 160, fld x 159 128]⟩
  else ⟨openStep s, true, false, false, 0, [], []⟩

/-- A record written into the step-state area (09 R309). -/
def setRec (n : Nat) (r : SetRec) (s : State) : State :=
  let f (l : List Nat) : Nat := nth 0 l 0 * 2 ^ 96 + nth 0 l 1 * 2 ^ 64 + nth 0 l 2 * 2 ^ 32 + nth 0 l 3
  let x := r.step % 2 ^ 64 * 2 ^ 448 + b2n r.begun * 2 ^ 447 + b2n r.applied * 2 ^ 446 + b2n r.partner * 2 ^ 445 +
    r.nsq % 2 ^ 32 * 2 ^ 384 + f r.pend * 2 ^ 256 + f r.scal * 2 ^ 128
  wrData (stepBase + 2048 + 2 * n) (x % 2 ^ 256) (wrData (stepBase + 2048 + 2 * n + 1) (x / 2 ^ 256) s)

/-- Set `n` is BEGUN in the open step (09 R309). -/
def begunNow (n : Nat) (s : State) : Bool := (recOf n s).step == openStep s && (recOf n s).begun

/-- Set `n` is APPLIED in the open step. -/
def appliedNow (n : Nat) (s : State) : Bool := (recOf n s).step == openStep s && (recOf n s).applied

/-- The header written from the values it keeps (09 R308). -/
def writeHeader (s : State) : State :=
  wrData stepBase (rd Obj.COMMITTED_STEP s * 2 ^ 192 + rd Obj.STEP_STATE s % 4 * 2 ^ 190 + rd Obj.PHASE s % 2 * 2 ^ 189 +
    rd Obj.PARTNER_NODE s % 2 ^ 24 * 2 ^ 165 + rd Obj.PARTNER_COMMITTED s * 2 ^ 101) s

/-- COMMITTED and STEP_STATE take new values, in the header and its objects (09 R306 to R308). -/
def setStep (committed state : Nat) (s : State) : State :=
  writeHeader (wr Obj.COMMITTED_STEP committed (wr Obj.OPEN_STEP ((committed + 1) % 2 ^ 64) (wr Obj.STEP_STATE state s)))

/-- The key of the open step's random bits (03 R86, R89). -/
def stepSeed (s : State) : BitVec 64 := stepKey s.trn.seed (openStep s)

/-! ### Update units -/

/-- Update unit `u`. -/
def unitState (u : Nat) (s : State) : UpdUnit := spGet UpdUnit.init s.upd.units u

/-- Update unit `u` changed by `f`. -/
def modUnit (u : Nat) (f : UpdUnit → UpdUnit) (s : State) : State :=
  { s with upd := { s.upd with units := spSet UpdUnit.init u (f (unitState u s)) s.upd.units } }

/-- The run of a set between BEGUN and APPLIED. -/
def setRunOf (n : Nat) (s : State) : Option SetRun := s.upd.sets.find? fun r => r.set_ == n

/-- That run changed by `f`. -/
def modSetRun (n : Nat) (f : SetRun → SetRun) (s : State) : State :=
  { s with upd := { s.upd with sets := mapIf (fun r => r.set_ == n) f s.upd.sets } }

/-- A sector lies in a granule of a running update step (08 R290, R291). -/
def heldByUpdate (n : Nat) (s : State) : Bool :=
  s.upd.units.any fun (_, u) => u.step.any fun b =>
    stateSector (setEntry b.set_ s) b.part b.block s / 8 == n / 8

/-- A sector's channel is in a retrain hold (07 R242). -/
def heldByTraining (n : Nat) (s : State) : Bool :=
  match unitOf n with
  | none => false
  | some u => s.mo.training.any fun r => r.unit == u

/-- Refresh debt of a pseudo-channel, 2c and 2c + 1 for fast channel c, 512 + u for sub-channel u (07 R239, R240). -/
def debtOf (pc : Nat) (s : State) : Nat := spGet 0 s.mo.debt pc

/-- The pseudo-channel that holds a sector: CA's lowest granule bit chooses it in a fast channel (07 R237). -/
def pcOf (n : Nat) : Option Nat := (unitOf n).map fun u =>
  if u < 256 then 2 * u + (dramPlace (channelAddr (32 * n))).pseudo else 512 + (u - 256)

/-- A refresh of a sector's pseudo-channel has taken precedence over every requester (07 R239, R240). -/
def heldByRefresh (n : Nat) (s : State) : Bool :=
  match pcOf n with
  | none => false
  | some pc => decide (4 ≤ debtOf pc s)

/-- An access to a sector has to wait: for an update step, a retrain hold, or a refresh that has taken precedence. -/
def accessHeld (n : Nat) (s : State) : Bool := heldByUpdate n s || heldByTraining n s || heldByRefresh n s

/-- Some of the `k` sectors from `n` lie in a granule of a running update step (08 R290, R291). -/
def rangeUpdated (n k : Nat) (s : State) : Bool :=
  s.upd.units.any fun (_, u) => u.step.any fun b =>
    let g := stateSector (setEntry b.set_ s) b.part b.block s / 8
    decide (0 < k ∧ n / 8 ≤ g ∧ g ≤ (n + k - 1) / 8)

/-- Some of them lie in a channel that is in a retrain hold; 4,096 consecutive sectors of a tier reach every channel of it
(07 R242; 06 R199, R200). -/
def rangeTraining (n k : Nat) (s : State) : Bool :=
  s.mo.training.any fun r => (List.range (min k 4096)).any fun i => unitOf (n + i) == some r.unit

/-- A refresh that has taken precedence stands before some of them (07 R239, R240). -/
def rangeRefresh (n k : Nat) (s : State) : Bool :=
  s.mo.debt.any fun p => decide (4 ≤ p.2) && (List.range (min k 8192)).any fun i => pcOf (n + i) == some p.1

/-- An access to the `k` sectors from `n` has to wait: any reader's or writer's (07 R239, R242; 08 R290, R291). -/
def rangeHeld (n k : Nat) (s : State) : Bool := rangeUpdated n k s || rangeTraining n k s || rangeRefresh n k s

/-- The update function stops because of a fault: running steps finish, other blocks are not processed, records stay as they
are (08 R298). A commit or PHASE that stopped the function before does not start it again. -/
def stopUpdates (s : State) : State :=
  let busy (r : SetRun) : Bool := s.upd.units.any fun p => p.2.step.any fun b => b.set_ == r.set_
  let gone := s.upd.sets.filter fun r => !busy r
  let refs (r : SetRun) : List Nat :=
    let e := setEntry r.set_ s
    ([e.landing, e.stateT, e.masterT] ++ (if e.mirror then [] else [e.working])).dedup
  let s := forEach gone (fun r => forEach (refs r) dropRef) { s with upd := { s.upd with
    units := (s.upd.units.map fun p => (p.1, { p.2 with queue := [] })).filter fun p => p.2 != UpdUnit.init,
    deltas := [],
    sets := (s.upd.sets.filter busy).map fun r => { r with torn := true } } }
  let keep (fs : List Nat) : List Nat := fs.filter (· != 2)
  let s := { s with
    dict := { s.dict with commit := s.dict.commit.map fun c => { c with stopped := keep c.stopped } }
    trn := { s.trn with phase := s.trn.phase.map fun p => { p with stopped := keep p.stopped } } }
  if running 2 s ∨ runOf 2 s = .starting then setRun 2 .stopping s else s

/-- The event of 08 R298: code 0x2410 at S2, and the update function stops. -/
def updateFault (value : Nat) (s : State) : State := stopUpdates (emit 0x2410 0 value s)

/-- A trigger of a set that arrives: a second one in the step is ignored with code 0x2404 (08 R281); the first waits until it
begins (R279, R280, R282). -/
def triggerSet (n : Nat) (s : State) : State :=
  if s.upd.triggered.contains n then emit 0x2404 0 n s
  else { s with upd := { s.upd with triggered := n :: s.upd.triggered, kept := insertBy id n s.upd.kept } }

/-- A set's clip group has what it needs to begin (08 R279). -/
def clipReadyFor (e : SetEntry) (s : State) : Bool := !e.clip || nth false s.upd.nsqValid e.clipGroup

/-- Triggers kept under 08 R282: those that cannot begin now. -/
def keptTriggers (s : State) : List Nat :=
  s.upd.kept.filter fun n => !running 2 s || !clipReadyFor (setEntry n s) s

/-- NSQ of a set: its clip group's, or +0 (08 R271). -/
def nsqFor (e : SetEntry) (s : State) : Nat := if e.clip then rd (Obj.NSQ (5 + e.clipGroup)) s else 0

/-- What the advance of the step number does to the update engines: retained landings are released, clip accumulators are
cleared and kept triggers are discarded with code 0x2408 (08 R282, R299; 09 R307, R321), and the committed JOB_SEED takes
effect (03 R89). -/
def openNewStep (s : State) : State :=
  let kept := s.upd.kept
  let s := forEach kept (emit 0x2408 0) s
  let s := forEach [5, 6, 7, 8] (fun g => wr (Obj.NSQ g) 0) s
  { s with
    upd := { s.upd with triggered := [], kept := [], landed := [], clipAcc := List.replicate 4 Acc.zero,
                        clipReady := List.replicate 4 false, nsqValid := List.replicate 4 false },
    trn := { s.trn with retained := [], seed := BitVec.ofNat 64 (rd Obj.JOB_SEED s) } }

end Sys2Proof.Machine
end

