-- ==== Sys2Proof/Machine/Queues.lean ====
section
/-! DEFINITION. Taking a submission entry from its ring: which queue may be read, refusals, and the entry's own fields
(12 R436 to R438; 14 R492). -/

namespace Sys2Proof.Machine

open Sys2Proof

/-- KIND of a submission entry (12 R438). -/
def entryKind (e : BitVec 1024) : Nat := fld e.toNat 1023 1016

/-- CID of a submission entry. -/
def entryCid (e : BitVec 1024) : Nat := fld e.toNat 1015 1000

/-- IRQ of a submission entry. -/
def entryIrq (e : BitVec 1024) : Bool := bitOf e.toNat 999

/-- An entry can be read from queue `q` now: the link is up, the queue is enabled, its ring is not empty and its head does
not wait (12 R422, R436). -/
def queueOpen (q : Nat) (s : State) : Bool :=
  decide (q < 16) && s.host.up && rd (Obj.QUEUE_ENABLE q) s == 1 &&
  (queueOf q s).head != (queueOf q s).tail && !(queueOf q s).waiting

/-- The completion buffer of queue `q` is full: nothing further is taken, and code 0x6008 is written once (12 R437). -/
def bufferFull (q : Nat) (s : State) : Bool := decide (256 ≤ (queueOf q s).buf.length)

/-- It is the turn of queue `q`: the first after the queue served last from which an entry can be taken (12 R436). -/
def queueTurn (q : Nat) (s : State) : Bool :=
  (((List.range 16).map fun i => (s.host.served + 1 + i) % 16).find? fun r => queueOpen r s && !bufferFull r s) == some q

/-- The head entry of queue `q` is taken: it is open until it completes, and its CID names it from now on. -/
def takeHead (q cid : Nat) (s : State) : State :=
  let s := { s with host := { s.host with served := q } }
  modQueue q (fun x => { x with
    head := (x.head + 1) % rd (Obj.SQ_SIZE q) s, open_ := x.open_ ++ [cid], done := x.done.filter (· != cid) }) s

/-- An entry that breaks its rules completes at once with reason 3 and code 0x6005 (12 R438). -/
def refuseEntry (q : Nat) (e : BitVec 1024) (s : State) : State :=
  complete q (entryCid e) (entryIrq e) 3 0x6005 (emit 0x6005 q (q * 65536 + entryCid e) s)

/-- The entry `e` at the head of queue `q` is taken and goes on with `f`, where the queue may be read and its turn has come
(12 R436, R437). -/
def takeEntry (q : Nat) (e : BitVec 1024) (f : State → State) (s : State) : State :=
  if queueOpen q s = false then s
  else if bufferFull q s then
    if (queueOf q s).heldFull then s
    else emit 0x6008 q q (modQueue q (fun x => { x with heldFull := true }) s)
  else if queueTurn q s = false then s
  else f (takeHead q (entryCid e) s)

end Sys2Proof.Machine
end

