-- ==== Sys2Proof/Machine/Routing.lean ====
section
/-! DEFINITION. Flit headers, the route of a routed flit, and the reports one module sends another (10 R347 to R349, R361 to
R368). -/

namespace Sys2Proof

open Machine

/-! ### Headers (10 R348) -/

/-- Virtual lane of a flit. -/
def Flit.vl (f : Flit) : Nat := fld f.hdr.toNat 127 126

/-- CLASS. -/
def Flit.cls (f : Flit) : Bool := bitOf f.hdr.toNat 125

/-- KIND. -/
def Flit.kind (f : Flit) : Nat := fld f.hdr.toNat 123 120

/-- DEST. -/
def Flit.dest (f : Flit) : Nat := fld f.hdr.toNat 119 96

/-- SRC. -/
def Flit.src (f : Flit) : Nat := fld f.hdr.toNat 95 72

/-- HOPS. -/
def Flit.hops (f : Flit) : Nat := fld f.hdr.toNat 71 67

/-- XFER. -/
def Flit.xfer (f : Flit) : Nat := fld f.hdr.toNat 63 48

/-- FOFF. -/
def Flit.foff (f : Flit) : Nat := fld f.hdr.toNat 47 16

/-- A flit travels one link only: VL0 and VL2 abort tokens (10 R349). -/
def Flit.oneLink (f : Flit) : Bool := f.vl == 0 || (f.vl == 2 && f.kind == 7)

/-- The HCRC of a flit holds (10 R350). -/
def hcrcOk (f : Flit) : Bool := f.hdr == withHcrc f.hdr.toNat

/-- A header field replaced, with a new HCRC. -/
def Flit.set (f : Flit) (hi lo v : Nat) : Flit := { f with hdr := withHcrc (setFld f.hdr.toNat hi lo v) }

end Sys2Proof

namespace Sys2Proof.Machine

open Sys2Proof

/-! ### Routing (10 R363) -/

/-- A candidate is usable: its link is UP or in HOLD and usable, and the far end forwards or is the destination
(10 R363). -/
def linkUsable (k dest : Nat) (s : State) : Bool :=
  let l := linkOf k s
  (l.state == .up || l.state == .hold) && l.usable && (!l.farTransitOff || l.farNode == dest)

/-- The module sets TRANSIT_OFF: in Sit-out and from bring-up step 3 until step 7 (10 R377, R363; 18 R585). -/
def transitOff (s : State) : Bool := rd Obj.FAULT_STATE s != 0 || !s.boot.ready

/-- A discarded routed flit is counted and recorded with its DEST (10 R363). -/
def discardFlit (code : Nat) (f : Flit) (s : State) : State :=
  let s := match code with
    | 0x3011 => bump (Obj.DISCARDS 1) s
    | 0x3012 => bump (Obj.DISCARDS 2) s
    | 0x3014 => bump (Obj.DISCARDS 3) s
    | _ => s
  emit code 0 f.dest s

/-- A flit is for this module (10 R363). -/
def deliver (k : Nat) (f : Flit) (s : State) : State :=
  { s with net := { s.net with local_ := s.net.local_ ++ [(k, f)] } }

/-- The flit a candidate sends: HOPS rises for a transit flit and ESC enters class 1; an abort code instead at the hop limit
or a second escalation. -/
def candidateFlit (fromLink : Bool) (esc : Bool) (f : Flit) : Except Nat Flit :=
  if fromLink && f.hops == 31 then .error 0x3012
  else
    let f := if fromLink then f.set 71 67 (f.hops + 1) else f
    if esc then (if f.cls then .error 0x3014 else .ok (f.set 125 125 1)) else .ok f

/-- The routing-table entry of a destination: the group table for another GROUP, the node table for the own (10 R362,
R363). -/
def routeEntry (dest : Nat) (s : State) : Nat :=
  if fld dest 23 16 ≠ fld (nodeId s) 23 16 then rd (Obj.ROUTE_ENTRY (fld dest 23 16)) s
  else rd (Obj.ROUTE_ENTRY (256 + fld dest 11 0)) s

/-- The candidates of an entry: place, link, ESC (10 R362). -/
def candidates (e : Nat) : List (Nat × Nat × Bool) :=
  (if bitOf e 31 then [(0, fld e 30 25, bitOf e 24)] else []) ++
  (if bitOf e 23 then [(1, fld e 22 17, bitOf e 16)] else []) ++
  (if bitOf e 15 then [(2, fld e 14 9, bitOf e 8)] else [])

/-- The route decision (10 R363): `k` is the link a flit arrived on, 64 for one that starts here. A module without a
node id takes only flits to 0xFF_FFFF (R361; log entry 29). -/
def route (k : Nat) (f : Flit) (s : State) : State :=
  let fromLink := decide (k < 64)
  if (f.dest = nodeId s ∧ nodeId s ≠ 0) ∨ (f.dest = 0xFFFFFF ∧ fromLink) then deliver k f s
  else if fromLink ∧ (nodeId s = 0 ∨ transitOff s) then discardFlit 0x3013 f s
  else if fromLink = false ∧ nodeId s = 0 ∧ f.dest ≠ 0xFFFFFF then discardFlit 0x3013 f s
  else match (candidates (routeEntry f.dest s)).find? fun c => linkUsable c.2.1 f.dest s with
    | none => discardFlit 0x3011 f s
    | some (j, l, esc) => match candidateFlit fromLink esc f with
      | .error c => discardFlit c f s
      | .ok g => queueFlit l g (onlyIf (decide (0 < j)) (bump Obj.FAILOVERS) s)

/-- Route decisions are taken: the links function has not been stopped, and before step 7 it runs as far as 18 R585 says
(13 R452). -/
def routing (s : State) : Bool := !s.boot.ready || (runOf 4 s != .stopped && runOf 4 s != .stopping)

/-- A routed flit is routed at once, or waits where it is while the links function is Stopped (10 R363; 13 R452). -/
def routeOrWait (k : Nat) (f : Flit) (s : State) : State :=
  if routing s = false then
    { s with net := { s.net with waitFlits := s.net.waitFlits ++ [(k, f)] } }
  else
    let s := route k f s
    -- a transit flit leaves its receive slot; one for this module keeps it until it is taken
    if k < 64 ∧ (s.net.local_.contains (k, f)) = false then returnCredit k f s else s

/-- A routed flit that starts here. -/
def originate (f : Flit) (s : State) : State := routeOrWait 64 f s

/-- The waiting flits are routed when the links function runs again (13 R452). -/
def routeWaiting (s : State) : State :=
  let w := s.net.waitFlits
  forEach w (fun p => routeOrWait p.1 p.2) { s with net := { s.net with waitFlits := [] } }

/-! ### Reports (10 R368) -/

/-- The first sector of a REPORT. -/
def reportBits (status reason tensor key elemBase step stepState role : Nat) : Nat :=
  status % 256 * 2 ^ 248 + reason % 256 * 2 ^ 240 + tensor % 2 ^ 24 * 2 ^ 216 + key % 2 ^ 24 * 2 ^ 192 +
  elemBase % 2 ^ 40 * 2 ^ 152 + step % 2 ^ 64 * 2 ^ 88 + stepState % 4 * 2 ^ 86 + role % 2 * 2 ^ 85

/-- A REPORT to a node: VL1, KIND 3 (10 R368). -/
def sendReport (dest xfer : Nat) (sectors : List Nat) (s : State) : State :=
  originate (mkFlit 1 3 dest (nodeId s) xfer 0 (sectors.map dataSector)) s

/-- The partner's node (09 R311). -/
def partnerNode (s : State) : Nat := rd Obj.PARTNER_NODE s % 2 ^ 24

/-- The applied report of a mirror set (09 R314). -/
def sendApplied (e : SetEntry) (step : Nat) (s : State) : State :=
  sendReport (partnerNode s) 0 [reportBits 0x10 0 0 e.keyT e.elemBase step 0 0] s

/-! ### The host's snoop filter (12 R426, R429) -/

/-- The host line (CXL DPA / 64) of a sector that a CXL window shows (12 R426). -/
def hostLine (n : Nat) : Option Nat :=
  match sectorRegion n with
  | .fastTensor | .fastSystem | .slow => some (n / 2)
  | .floor => some ((0x14000000000 + (32 * n - 0x20000000000)) / 64)
  | _ => none

/-- A module access to a sector has to snoop the host first: a write of a tracked line, or a read of one the host may hold
modified (12 R429). -/
def needsSnoop (write : Bool) (n : Nat) (s : State) : Bool :=
  match hostLine n with
  | none => false
  | some l => s.host.snoop.any fun p => p.1 == l && (write || p.2)

/-- A snoop of a line has something that waits for it; one that is not yet unanswered is sent now (12 R429, R430). -/
def awaitSnoop (l : Nat) (acc : Option HostAcc) (s : State) : State :=
  let sent := s.host.snoopSent
  { s with host := { s.host with
      snoopWait := s.host.snoopWait ++ [(l, acc)],
      snoopSent := if sent.any fun p => p.1 == l then sent else sent ++ [(l, s.clk.ticks)] } }

/-- A back-invalidate snoop is sent for a line, unless one is unanswered. -/
def sendSnoop (l : Nat) (acc : Option HostAcc) (s : State) : State :=
  if s.host.snoopWait.any fun p => p.1 == l then s else awaitSnoop l acc s

/-- The tracked lines in the ranges (first sector, sectors) an access covers that have to be snooped. -/
def snoopLines (write : Bool) (ranges : List (Nat × Nat)) (s : State) : List Nat :=
  (s.host.snoop.filter fun p => (write || p.2) && ranges.any fun (a, k) =>
    [2 * p.1, 2 * p.1 + 1].any fun n =>
      -- a line of the Floor window back to its sectors
      let n := if n < 0x14000000000 / 32 then n else n - 0x14000000000 / 32 + 0x20000000000 / 32
      decide (a ≤ n ∧ n < a + k)).map (·.1)

/-- An engine's access to memory: it proceeds, or it sends the snoops it has to wait for and is not yet due (12 R429;
log entry 28). -/
def afterSnoops (write : Bool) (ranges : List (Nat × Nat)) (f : State → State) (s : State) : State :=
  match snoopLines write ranges s with
  | [] => f s
  | ls => forEach ls (fun l => sendSnoop l none) s

end Sys2Proof.Machine
end

