-- ==== Sys2Proof/Machine/Memory.lean ====
section
/-! DEFINITION. Running the tiers: sector requests, write combining, refresh, retraining, patrol scrub, temperatures, error
limits, traffic generators and lost units (06 R207 to R213; 07 Running the HBM4 stacks and the slow tier). -/

namespace Sys2Proof.Machine

open Sys2Proof

/-! ### Write combining and partial sectors (06 R207 to R213) -/

/-- A write-combining entry leaves its buffer by read-modify-write; an uncorrectable stored sector is left as it is, its
tensor is damaged-reported and the writing task aborts (06 R209, R212). -/
def wcMerge (w : WcEntry) (s : State) : State :=
  let s := bump Obj.WC_RMW (modWc (·.filter fun x => x.addr != w.addr) s)
  match decodeSector (rdSector w.addr s) with
  | .ok d k => wrData w.addr (overlay d.toNat w.data.toNat w.mask.toNat) (noteCorrected w.addr k s)
  | .bad =>
    let s := emit 0x1606 (memSource w.addr) (32 * w.addr) s
    let s := match ownerOf w.addr s with
      | some t => damageTensor t s
      | none => s
    match w.task.bind fun k => s.tasks.find? fun t => t.key == k with
    | some t => abortTask t 1 0x1606 true s
    | none => s

/-- A partial sector reaches a channel's write-combining buffer (06 R208 to R210). -/
def wcPartial (unit n data mask : Nat) (task : Option Nat) (s : State) : State :=
  match wcEntry n s with
  | some w =>
    let m := w.mask.toNat ||| mask
    let d := overlay w.data.toNat data mask
    if m = 2 ^ 32 - 1 then fullWrite n (encodeSector (BitVec.ofNat 256 d)) s
    else modWc (mapIf (fun x => x.addr == n) fun x =>
      { x with data := BitVec.ofNat 256 d, mask := BitVec.ofNat 32 m, task := task }) s
  | none =>
    if mask = 2 ^ 32 - 1 then wrData n data s
    else
      let mine := s.mo.wc.filter fun w => w.unit == unit
      let s := if mine.length < 64 then s
        else match mine with
          | w :: _ => wcMerge w (bump Obj.WC_EVICTIONS s)
          | [] => s
      modWc (· ++ [⟨unit, n, BitVec.ofNat 256 data, BitVec.ofNat 32 mask, s.clk.ticks, task⟩]) s

/-- A partial sector reaches an SRAM bank: it merges by read-modify-write, and an uncorrectable stored sector aborts the
writing task with code 0x1606 (06 R213). -/
def sramPartial (n data mask : Nat) (task : Option Nat) (s : State) : State :=
  match decodeSector (rdSector n s) with
  | .ok d k => wrData n (overlay d.toNat data mask) (noteCorrected n k s)
  | .bad =>
    let s := emit 0x1606 0 (32 * n) s
    match task.bind fun k => s.tasks.find? fun t => t.key == k with
    | some t => abortTask t 1 0x1606 true s
    | none => s

/-- A partial sector is written wherever its sector lies. -/
def partialWrite (n data mask : Nat) (task : Option Nat) (s : State) : State :=
  match unitOf n with
  | some u => wcPartial u n data mask task s
  | none => sramPartial n data mask task s

/-- Bytes written from a device address by an engine: whole sectors, and partial ones through the merging unit of their tier or
store (06 R207 to R213). -/
def partialBytes (a : Nat) (bs : List Byte) (s : State) : State :=
  let first := a / 32
  forEach (List.range ((a + bs.length + 31) / 32 - first)) (fun i s =>
    let n := first + i
    let lo := max a (32 * n)
    let hi := min (a + bs.length) (32 * n + 32)
    let d := ofLeBytes ((bs.drop (lo - a)).take (hi - lo)) * 2 ^ (8 * (lo - 32 * n))
    if hi - lo = 32 then fullWrite n (dataSector d) s
    else if hi ≤ lo then s
    else partialWrite n d ((2 ^ (hi - lo) - 1) * 2 ^ (lo - 32 * n)) none s) s

/-- The snoop that a write of a sector waits for is sent (12 R429). -/
def snoopFor (n : Nat) (s : State) : State :=
  if needsSnoop true n s then sendSnoop ((hostLine n).getD 0) none s else s

/-- An engine's write of a sector, or of the bytes of `mask`: at once, or held until an update step, a retrain hold or a refresh
that stands in its way has ended and the host has answered the snoop of a line it tracks (07 R239, R242; 08 R291; 12 R429). -/
def engineWrite (n : Nat) (x : Sector) (mask : Nat) (task : Option Nat) (s : State) : State :=
  if accessHeld n s || needsSnoop true n s then
    let s := onlyIf (!accessHeld n s) (snoopFor n) s
    let s := onlyIf (heldByUpdate n s) (bump Obj.HELD_ACCESSES) s
    { s with mo := { s.mo with late := s.mo.late ++ [⟨n, x, BitVec.ofNat 32 mask, task, s.clk.ticks⟩] } }
  else if mask = 2 ^ 32 - 1 then fullWrite n x s
  else partialWrite n x.data.toNat mask task s

/-- Bytes written by an engine, held where they have to be. -/
def engineBytes (a : Nat) (bs : List Byte) (s : State) : State :=
  let first := a / 32
  forEach (List.range ((a + bs.length + 31) / 32 - first)) (fun i s =>
    let n := first + i
    let lo := max a (32 * n)
    let hi := min (a + bs.length) (32 * n + 32)
    let d := ofLeBytes ((bs.drop (lo - a)).take (hi - lo)) * 2 ^ (8 * (lo - 32 * n))
    if hi ≤ lo then s else engineWrite n (dataSector d) ((2 ^ (hi - lo) - 1) * 2 ^ (lo - 32 * n)) none s) s

/-! ### The sector request protocol (07 R234 to R236) -/

/-- A request is refused: reserved KIND, a set reserved bit, a sector outside the unit, REREAD outside a READ
(07 R234, R235). -/
def reqRefused (unit word : Nat) : Bool :=
  !(decide (1 ≤ reqKind word ∧ reqKind word ≤ 6)) || fld word 18 0 != 0 ||
  !decide (reqSector word < unitSectors unit) ||
  (bitOf word 48 && reqKind word != 1)

/-- A request that nothing holds takes effect (07 R235, R236; 06 R208, R211). -/
def serveMem (unit : Nat) (word : BitVec 64) (mask : BitVec 32) (payload : Sector) (s : State) : State :=
  let w := word.toNat
  let n := unitSector unit (reqSector w)
  match reqKind w with
  | 1 =>
    if bitOf w 48 then answerMem unit w 0 (some (rdSector n s)) none s
    else answerMem unit w 0 (some (readOverlay n s)) none (overlayNote n s)
  | 2 => answerMem unit w 0 none none (fullWrite n payload s)
  | 3 =>
    -- the merging unit checks the partial on arrival, masked-out bytes as zero (06 R207; log entry 26)
    match decodeSector ⟨BitVec.ofNat 256 (overlay 0 payload.data.toNat mask.toNat), payload.chk⟩ with
    | .ok d _ => answerMem unit w 0 none none (wcPartial unit n d.toNat mask.toNat none s)
    | .bad => answerMem unit w 0 none none (countTransit n (emit 0x1601 unit 0xFF s))
  | _ => s

/-- A request arrives at a base die or buffer: lost, refused, held for an update step, a retrain, a refresh that has taken
precedence or a back-invalidate snoop, or served. A unit with 256 requests outstanding takes no further one
(07 R235, R236, R239, R242; 08 R290, R291; 19 R595). -/
def memRequest (unit : Nat) (word : BitVec 64) (mask : BitVec 32) (payload : Sector) (s : State) : State :=
  let w := word.toNat
  if unitGone unit s then answerMem unit w 2 none none s
  else if reqRefused unit w then answerMem unit w 1 none none s
  else if (s.mo.held.filter fun r => r.unit == unit).length ≥ 256 then s
  else
    let n := unitSector unit (reqSector w)
    let same := s.mo.held.any fun r => r.unit == unit && reqSector r.word.toNat == reqSector w
    let snoop := decide (reqKind w ≤ 3) && needsSnoop (reqKind w != 1) n s
    if accessHeld n s ∨ same ∨ snoop then
      let s := onlyIf (heldByUpdate n s) (bump Obj.HELD_ACCESSES) s
      let s := onlyIf snoop (sendSnoop ((hostLine n).getD 0) none) s
      { s with mo := { s.mo with held := s.mo.held ++ [⟨unit, word, mask, payload, s.clk.ticks⟩] } }
    else serveMem unit word mask payload s

/-- The longest hold is kept in MAX_HOLD (08). -/
def noteHold (since : Nat) (s : State) : State :=
  let d := s.clk.ticks - since
  if rd Obj.MAX_HOLD s < d then wr Obj.MAX_HOLD (min d (2 ^ 32 - 1)) s else s

/-- A held request may go: nothing holds its sector, and no earlier request to the same sector still waits (07 R236). -/
def mayGo (r : MemReq) (s : State) : Bool :=
  let n := unitSector r.unit (reqSector r.word.toNat)
  !accessHeld n s && !needsSnoop (reqKind r.word.toNat != 1) n s &&
  (s.mo.held.find? fun x => x.unit == r.unit && reqSector x.word.toNat == reqSector r.word.toNat) == some r

/-- The held request that goes next: the oldest of the highest RANK among those that may go (19 R595). -/
def nextHeld (s : State) : Option MemReq :=
  let rs := s.mo.held.filter fun r => mayGo r s
  match (rs.map fun r => reqRank r.word.toNat).max? with
  | none => none
  | some top => rs.find? fun r => reqRank r.word.toNat == top

/-- The held requests that may go take effect, one at a time. -/
def serveHeld (noteUpdate : Bool) : Nat → State → State
  | 0, s => s
  | n + 1, s =>
    match nextHeld s with
    | none => s
    | some r =>
      let s := { s with mo := { s.mo with held := dropFirst (fun x => x == r) s.mo.held } }
      serveHeld noteUpdate n (serveMem r.unit r.word r.mask r.payload (onlyIf noteUpdate (noteHold r.since) s))

/-- The engine writes that nothing holds any more are applied, oldest first; those that wait for a snoop alone send it (08 R291;
12 R429). -/
def applyLate (noteUpdate : Bool) (s : State) : State :=
  let held (w : LateWrite) : Bool := accessHeld w.sector s
  let wait (w : LateWrite) : Bool := held w || needsSnoop true w.sector s
  let go := s.mo.late.filter fun w => !wait w
  let due := s.mo.late.filter fun w => !held w && wait w
  let s := { s with mo := { s.mo with late := s.mo.late.filter wait } }
  let s := forEach due (fun w => snoopFor w.sector) s
  forEach go (fun w s => engineWrite w.sector w.x w.mask.toNat w.task (onlyIf noteUpdate (noteHold w.since) s)) s

/-- Writes and requests that nothing holds any more take effect; those that wait for a snoop send it (07 R236, R242; 08 R290,
R291; 12 R429). -/
def releaseHeld (noteUpdate : Bool) (s : State) : State :=
  let s := applyLate noteUpdate s
  let at_ (r : MemReq) : Nat := unitSector r.unit (reqSector r.word.toNat)
  let wait := s.mo.held.filter fun r => !accessHeld (at_ r) s && needsSnoop (reqKind r.word.toNat != 1) (at_ r) s
  let s := forEach wait (fun r => sendSnoop ((hostLine (at_ r)).getD 0) none) s
  serveHeld noteUpdate s.mo.held.length s

/-- A request whose row says KIND `k`: a lost unit answers STATUS 2 whatever the word holds, another KIND is refused (07 R234,
R235, R263). -/
def requestOf (k unit : Nat) (word : BitVec 64) (mask : BitVec 32) (payload : Sector) (s : State) : State :=
  if unitGone unit s then answerMem unit word.toNat 2 none none s
  else if reqKind word.toNat = k then memRequest unit word mask payload s
  else answerMem unit word.toNat 1 none none s

/-- READ_REQUEST: a base die or buffer answers the 36 stored bytes (07 R234 to R236). -/
def execReadRequest (unit : Nat) (word : BitVec 64) (s : State) : Host.Outcome State Fault Refusal :=
  run (requestOf 1 unit word 0 ⟨0, 0⟩) s

/-- WRITE_REQUEST: a full sector is written (06 R211; 07 R234). -/
def execWriteRequest (unit : Nat) (word : BitVec 64) (payload : Sector) (s : State) : Host.Outcome State Fault Refusal :=
  run (requestOf 2 unit word 0 payload) s

/-- WRITE_PARTIAL: a partial sector with its mask (06 R208; 07 R234). -/
def execWritePartial (unit : Nat) (word : BitVec 64) (mask : BitVec 32) (payload : Sector) (s : State) :
    Host.Outcome State Fault Refusal :=
  run (requestOf 3 unit word mask payload) s

/-- REG_READ: the answer carries a register of the base die or buffer, whose contents the spec does not state (07 R234;
log entry 27). -/
def execRegRead (unit : Nat) (word : BitVec 64) (s : State) : Host.Outcome State Fault Refusal :=
  run (fun s =>
    if unitGone unit s then answerMem unit word.toNat 2 none none s
    else if reqKind word.toNat ≠ 5 ∨ reqRefused unit word.toNat then answerMem unit word.toNat 1 none none s
    else let (k, s) := drawFree s; answerMem unit word.toNat 0 none (some (Config.freeWord k)) s) s

/-- REG_WRITE: the request is answered done; the registers it reaches are not stated (07 R234; log entry 27). -/
def execRegWrite (unit : Nat) (word : BitVec 64) (s : State) : Host.Outcome State Fault Refusal :=
  run (fun s =>
    if unitGone unit s then answerMem unit word.toNat 2 none none s
    else if reqKind word.toNat ≠ 6 ∨ reqRefused unit word.toNat then answerMem unit word.toNat 1 none none s
    else answerMem unit word.toNat 0 none none s) s

/-- WC_WINDOW_EXPIRE: the merge window of an entry has passed (06 R208, R209). -/
def execWcWindowExpire (unit sector : Nat) (s : State) : Host.Outcome State Fault Refusal :=
  run (fun s => match wcEntry sector s with
    | some w => onlyIf (w.unit == unit && decide (w.since + rd Obj.WC_WINDOW s ≤ s.clk.ticks) &&
        !accessHeld sector s && !unitGone unit s) (wcMerge w) s
    | none => s) s

/-! ### Refresh (07 R238 to R241) -/

/-- The unit of a pseudo-channel: 2c and 2c + 1 for fast channel c, 512 + u for sub-channel u. -/
def pcUnit (pc : Nat) : Nat := if pc < 512 then pc / 2 else 256 + (pc - 512)

/-- The pseudo-channels of a unit. -/
def unitPcs (unit : Nat) : List Nat := if unit < 256 then [2 * unit, 2 * unit + 1] else [512 + (unit - 256)]

/-- A refresh of the unit has taken precedence (07 R239). -/
def refreshPending (unit : Nat) (s : State) : Bool := (unitPcs unit).any fun pc => decide (4 ≤ debtOf pc s)

/-! ### Retraining (07 R242 to R247) -/

/-- The update unit that stands in front of a channel or sub-channel. -/
def unitUpdater (unit : Nat) : Nat := if unit < 256 then unit else 256 + (unit - 256) / 8

/-- The hold of one channel begins: its refresh debt is cleared and its update unit is at a step boundary (07 R242). -/
def beginRetrain (unit : Nat) (urgent : Bool) (s : State) : State :=
  { s with mo := { s.mo with
    debt := (unitPcs unit).foldl (fun m pc => spSet 0 pc 0 m) s.mo.debt,
    training := s.mo.training ++ [⟨unit, false, urgent, s.clk.ticks⟩] } }

/-- A hold may begin: no refresh has precedence and no update step runs (07 R239, R242). -/
def retrainReady (unit : Nat) (s : State) : Bool :=
  !((unitPcs unit).any fun pc => s.mo.precedence.contains pc) && (unitState (unitUpdater unit) s).step.isEmpty &&
  !(s.mo.training.any fun r => r.unit == unit)

/-- A channel leaves its figure's list; the figure completes with outcome 0 when none is left. -/
def retrainDone (unit : Nat) (s : State) : State :=
  match s.mo.figTodo.find? fun f => f.todo.head? == some unit with
  | none => s
  | some f =>
    let rest := f.todo.drop 1
    if rest.isEmpty then
      endFigure f.entry 0 { s with mo := { s.mo with figTodo := s.mo.figTodo.filter fun g => g.entry != f.entry } }
    else { s with mo := { s.mo with figTodo := mapIf (fun g => g.entry == f.entry) (fun g => { g with todo := rest }) s.mo.figTodo } }

/-- RETRAIN_CHANNEL: the next channel of a figure begins its retrain, or is left to the next figure when less than 4.5 µs
remain (07 R242, R243); one in its hold goes on, and a lost unit gets no command (R263). -/
def execRetrainChannel (unit : Nat) (s : State) : Host.Outcome State Fault Refusal :=
  run (fun s => match s.mo.figTodo.find? fun f => f.todo.head? == some unit with
    | none => s
    | some f => match s.cal.figs.find? fun g => figTag g == f.entry with
      | none => s
      | some g =>
        if (s.mo.training.any fun r => r.unit == unit) = true then s
        else if unitGone unit s then retrainDone unit s
        else if g.deadline < now s + 4500 then retrainDone unit (emit 0x1703 unit unit s)
        else onlyIf (retrainReady unit s) (beginRetrain unit false) s) s

/-- MARGIN_CHECK: the margin of a channel is measured; below ALARM_MARGIN, or RETRAIN_MAX_AGE after its last retrain, it is
alarmed (07 R245). -/
def execMarginCheck (unit margin : Nat) (s : State) : Host.Outcome State Fault Refusal :=
  run (fun s =>
    if unitGone unit s ∨ heldByTraining (unitSector unit 0) s then s
    else
      let s := wr (Obj.CHAN_MARGIN unit) (min margin 255) s
      let aged := decide (spGet 0 s.mo.trainedAt unit + rd Obj.RETRAIN_MAX_AGE s * 10 ^ 9 ≤ s.clk.ticks)
      if (margin < rd Obj.ALARM_MARGIN s ∨ aged) ∧ s.mo.alarms.contains unit = false then
        { s with mo := { s.mo with alarms := s.mo.alarms ++ [unit] } }
      else s) s

/-- The Count of the next firing of a Caller entry at or after now, by its DESC (02 R46, R51). -/
def nextFiring (d : Nat) (s : State) : Nat :=
  let b := beatB s
  let m := measureAt b (now s)
  let q := max 1 (fld d 27 16)
  let wait := (fld d 15 4 + q - m % q) % q
  let first := beatStart b (m + wait) (fld d 55 44)
  if now s ≤ first then first else beatStart b (m + wait + q) (fld d 55 44)

/-- A RETRAIN figure of the unit's group fires within URGENT_WAIT (07 R246). -/
def retrainComing (unit : Nat) (s : State) : Bool :=
  s.cal.firing && (List.range 512).any fun e =>
    let d := rd (Obj.ENTRY_DESC e) s
    let p := rd (Obj.ENTRY_PARAM e) s
    bitOf d 63 &&
    (if unit < 256 then fld d 59 56 == 2 && fld p 63 59 == unit / 8 else fld d 59 56 == 3 && fld p 63 61 == (unit - 256) / 8) &&
    decide (nextFiring d s ≤ now s + rd Obj.URGENT_WAIT s * 10 ^ 6)

/-- A retrain of the unit waits for its update unit's step boundary: it is next in a figure, or urgent (07 R242, R246). -/
def retrainWaiting (unit : Nat) (s : State) : Bool :=
  (s.mo.figTodo.any fun f => f.todo.head? == some unit) || (s.mo.alarms.contains unit && !retrainComing unit s)

/-- URGENT_RETRAIN: an alarmed channel without a figure due within URGENT_WAIT is retrained at once (07 R246). -/
def execUrgentRetrain (unit : Nat) (s : State) : Host.Outcome State Fault Refusal :=
  run (fun s =>
    if s.mo.alarms.contains unit ∧ retrainComing unit s = false ∧ retrainReady unit s = true ∧ unitGone unit s = false then
      emit 0x1702 unit unit (bump Obj.URGENT_RETRAINS (beginRetrain unit true s))
    else s) s

/-! ### Patrol scrub (07 R248 to R251) -/

/-- The patrol of a tier changed by `f`. -/
def modPatrol (slow : Bool) (f : Patrol → Patrol) (s : State) : State :=
  { s with mo := if slow then { s.mo with patrolSlow := f s.mo.patrolSlow } else { s.mo with patrolFast := f s.mo.patrolFast } }

/-- The patrol of a tier. -/
def patrolOf (slow : Bool) (s : State) : Patrol := if slow then s.mo.patrolSlow else s.mo.patrolFast

/-- The pointer moves to the next sector; at the end of the tier the pass is complete, and the next takes the SCRUB_PERIOD
then in effect (07 R248). -/
def patrolAdvance (slow : Bool) (s : State) : State :=
  let next := (patrolOf slow s).pointer + 32
  let last := if slow then 0x14000000000 else 0x8000000000
  if next < last then modPatrol slow (fun p => { p with pointer := next }) s
  else
    let first := if slow then 0x8000000000 else 0
    let period := if slow then rd Obj.SLOW_SCRUB_PERIOD s else rd Obj.FAST_SCRUB_PERIOD s
    let v := rd Obj.SCRUB_PASSES s
    let v := if slow then setFld v 15 0 (fld v 15 0 + 1) else setFld v 31 16 (fld v 31 16 + 1)
    emit 0x1710 0 (b2n slow) (wr Obj.SCRUB_PASSES v (modPatrol slow (fun p =>
      { p with pointer := first, startAt := s.clk.ticks, period := period, behind := false }) s))

/-- What a patrol does with a sector that is uncorrectable twice (07 R251). -/
def patrolBad (n : Nat) (s : State) : State :=
  let a := 32 * n
  if 0x7FC0000000 ≤ a ∧ a < 0x8000000000 then systemBad n (countUncorrectable n (bump Obj.UNCORRECTABLE s))
  else match ownerOf n s with
    | some t => emit 0x1712 (memSource n) t (confirmBad n s)
    | none => match reserveOf n s with
      | some t => emit 0x1712 (memSource n) t (modTensor t (fun e => { e with resValid := false }) (confirmBad n s))
      | none => emit 0x1712 (memSource n) 0 (confirmBad n s)

/-- Bytes of a tier that its patrol walks (06 R193). -/
def tierSize (slow : Bool) : Nat := if slow then 0xC000000000 else 0x8000000000

/-- The pace point of a pass, in bytes from the start of the tier: (t / SCRUB_PERIOD) x tier size (07 R248). -/
def pacePoint (slow : Bool) (s : State) : Nat :=
  let p := patrolOf slow s
  (s.clk.ticks - p.startAt) * tierSize slow / (max 1 p.period * 10 ^ 9)

/-- The patrol is behind its pace point (07 R249). -/
def behindPace (slow : Bool) (s : State) : Bool :=
  decide ((patrolOf slow s).pointer - (if slow then 0x8000000000 else 0) < pacePoint slow s)

/-- Thousandths of a tick that one sector takes at the patrol's rate: FIG_RATE in a SCRUB figure, the pace rate outside one, no
limit in Sit-out (07 R249, R251). -/
def patrolCost (slow : Bool) (s : State) : Nat :=
  if inSitout s then 0
  else if scrubOpen slow s then 32 * 1000 / max 1 (if slow then rd Obj.SLOW_FIG_RATE s else rd Obj.FAST_FIG_RATE s)
  else 32 * 1000 * (patrolOf slow s).period * 10 ^ 9 / tierSize slow

/-- The patrol may issue a read now: in Sit-out without pause; in a SCRUB figure while it is behind its pace point; never faster
than its rate (07 R249, R251; log entry 109). -/
def patrolMay (slow : Bool) (s : State) : Bool :=
  inSitout s ||
  ((!scrubOpen slow s || behindPace slow s) && decide ((patrolOf slow s).nextAt ≤ 1000 * s.clk.ticks))

/-- The read issued now takes its share of the rate. -/
def patrolSpend (slow : Bool) (s : State) : State :=
  let cost := patrolCost slow s
  modPatrol slow (fun p => { p with nextAt := max p.nextAt (1000 * (s.clk.ticks - 1)) + cost }) s

/-- PATROL_READ: the patrol of a tier reads its next sector, undecoded of any write-combining entry, and acts on what it
finds (07 R248 to R251), as its pace and its rate allow. Units lost for reasons 5 to 10 get no command (R263). -/
def execPatrolRead (slow : Bool) (first again : BitVec 288) (s : State) : Host.Outcome State Fault Refusal :=
  run (fun s =>
    let p := patrolOf slow s
    let n := p.pointer / 32
    let inFigure := scrubOpen slow s
    if p.active = false ∨ (frozenAt 7 n s && !inFigure && !inSitout s) ∨ accessHeld n s ∨ patrolMay slow s = false then s
    else if unitGone ((unitOf n).getD 0) s then patrolAdvance slow s
    else if needsSnoop (decodeSector (rdSector n s) != .ok (rdSector n s).data 0) n s then sendSnoop ((hostLine n).getD 0) none s
    else
      let s := patrolSpend slow s
      let s := match decodeSector (disturb (rdSector n s) first) with
        | .ok _ 0 => s
        | .ok d k => noteCorrected n k (wrSector n (encodeSector d) s)
        | .bad => match decodeSector (disturb (rdSector n s) again) with
          | .bad => patrolBad n s
          | .ok _ _ => countTransit n (emit 0x1601 (memSource n) 0xFF s)
      patrolAdvance slow s) s

/-- PATROL_PERIOD_END: a pass unfinished at the end of its period writes code 0x1711 and goes on (07 R250). -/
def execPatrolPeriodEnd (slow : Bool) (s : State) : Host.Outcome State Fault Refusal :=
  run (fun s =>
    let p := patrolOf slow s
    if p.active ∧ p.behind = false ∧ p.startAt + p.period * 10 ^ 9 ≤ s.clk.ticks then
      emit 0x1711 0 (b2n slow) (modPatrol slow (fun p => { p with behind := true }) s)
    else s) s

/-! ### Temperatures (07 R252) -/

/-- Stack 0-7 or package 8-19 as the lost unit of 07 R261. -/
def thermalLoss (u : Nat) : Nat := if u < 8 then u else 14 + (u - 8)

/-- A thermal state of a stack or package. -/
def setThermal (u v : Nat) (s : State) : State := { s with mo := { s.mo with thermal := s.mo.thermal.set u v } }

/-- Since when a unit reads below a threshold, in 1/8 °C: kept while it does (07 R252). -/
def belowSince (u lim : Nat) (t : Int) (tick : Nat) (m : List (Nat × Nat)) : List (Nat × Nat) :=
  if t < (8 * lim : Nat) then (if spGet 0 m u = 0 then spSet 0 u (tick + 1) m else m) else spSet 0 u 0 m

/-- A unit has read below a threshold for 1 s (07 R252). -/
def belowFor (u : Nat) (m : List (Nat × Nat)) (s : State) : Bool :=
  let a := spGet 0 m u
  decide (0 < a ∧ a + 10 ^ 9 ≤ s.clk.ticks + 1)

/-- MEMORY_TEMP_READING: a stack's or package's temperature in 1/8 °C moves its thermal state (07 R252). -/
def execMemoryTempReading (unit : Nat) (temp : BitVec 16) (s : State) : Host.Outcome State Fault Refusal :=
  run (fun s =>
    let s := if unit < 8 then wr (Obj.STACK_TEMP (unit + 1)) temp.toNat s
      else if unit < 20 then wr (Obj.PACKAGE_TEMP (unit + 1)) temp.toNat s else s
    let t := temp.toInt
    let tick := s.clk.ticks
    let s := { s with mo := { s.mo with
      below92 := belowSince unit 92 t tick s.mo.below92, below83 := belowSince unit 83 t tick s.mo.below83 } }
    let st := nth 0 s.mo.thermal unit
    if st = 3 then s
    else if 105 * 8 < t then loseUnit (thermalLoss unit) 6 (setThermal unit 3 s)
    else if 95 * 8 < t then (if st = 2 then s else emit 0x1731 unit unit (setThermal unit 2 s))
    else if 85 * 8 < t ∧ st = 0 then emit 0x1730 unit unit (setThermal unit 1 s)
    else s) s

/-- THERMAL_HOT_EXIT: a unit whose readings have been below its exit threshold for 1 s leaves Capped for Hot, or Hot for Normal
(07 R252). -/
def execThermalHotExit (unit : Nat) (s : State) : Host.Outcome State Fault Refusal :=
  run (fun s =>
    match nth 0 s.mo.thermal unit with
    | 2 => onlyIf (belowFor unit s.mo.below92 s) (setThermal unit 1) s
    | 1 => onlyIf (belowFor unit s.mo.below83 s) (setThermal unit 0) s
    | _ => s) s

/-! ### Lost units (07 R255, R261) -/

/-- REQUEST_SILENT_TIMEOUT: a request unanswered for 10 µs loses stack 0-7 or buffer 8-13 with reason 5 (07 R261). -/
def execRequestSilentTimeout (unit : Nat) (s : State) : Host.Outcome State Fault Refusal := run (loseUnit (unit % 14) 5) s

/-- UNIT_INTERNAL_FAULT: stack 0-7 or buffer 8-13 reports an internal fault, reason 8 (07 R261). -/
def execUnitInternalFault (unit : Nat) (s : State) : Host.Outcome State Fault Refusal := run (loseUnit (unit % 14) 8) s

/-- BUFFER_LINK_REPLAY: a transfer of a buffer's substrate path is replayed and counted (07 R255). -/
def execBufferLinkReplay (buffer : Nat) (s : State) : Host.Outcome State Fault Refusal :=
  run (fun s => forEach (List.range 8) (fun i => bump (Obj.CHAN_REPLAYS (256 + 8 * (buffer % 6) + i))) s) s

/-- REPLAY_FAIL_TIMEOUT: replays failing for 100 µs lose the buffer with reason 9 (07 R261). -/
def execReplayFailTimeout (buffer : Nat) (s : State) : Host.Outcome State Fault Refusal :=
  run (loseUnit (8 + buffer % 6) 9) s

/-! ### Count bins (15 R516, R633) -/

/-- BIN_BOUNDARY: the next whole second of operating time begins. A second with held notifications writes code 0x9504;
transit counts begin again; at whole minutes and hours the bins of 07 R256, 14 R502 and 16 R554 move on (15 R633;
log entry 3). -/
def execBinBoundary (s : State) : Host.Outcome State Fault Refusal :=
  run (fun s =>
    let sec := opSec s + 1
    let s := { s with pow := { s.pow with opTime := sec * 16 } }
    let s := onlyIf (decide (0 < s.rcd.heldSec)) (emit 0x9504 0 s.rcd.heldSec) s
    let s := { s with rcd := { s.rcd with heldSec := 0 }, mo := { s.mo with transit := [] } }
    let shift (h : HourCount) : HourCount := { h with bins := (0 :: h.bins).take 60 }
    let s := if sec % 60 = 0 then
        { s with mo := { s.mo with ce := s.mo.ce.map fun p => (p.1, shift p.2), ue := s.mo.ue.map fun p => (p.1, shift p.2) } }
      else s
    if sec % 3600 = 0 then
      { s with
        flt := { s.flt with hourCounts := [] },
        pow := { s.pow with ledger := { s.pow.ledger with surgeBins := (0 :: s.pow.ledger.surgeBins).take 24 } } }
    else s) s

/-! ### Traffic generators (07 R258 to R260) -/

/-- The generator of a unit. -/
def tgOf (u : Nat) (s : State) : Tg := spGet Tg.init s.mo.tgs u

/-- The generator of a unit changed by `f`. -/
def modTg (u : Nat) (f : Tg → Tg) (s : State) : State :=
  { s with mo := { s.mo with tgs := spSet Tg.init u (f (tgOf u s)) s.mo.tgs } }

/-- The units TG_SELECT selects (07 R258). -/
def tgSelected (sel : Nat) : List Nat := if sel = 0xFFFF then List.range 304 else if sel < 304 then [sel] else []

/-- A traffic-generator setting, subindex 2 to 6, written to every selected unit; refused while one runs (07 R259). -/
def tgSet (sel sub v : Nat) (s : State) : Nat × State :=
  let us := tgSelected sel
  if us.any fun u => (tgOf u s).status == 1 then (0x03000004, s)
  else if sub = 4 ∧ (us.any fun u => !decide (v < unitSectors u)) then (0x02000001, s)
  else (0, forEach us (fun u => modTg u fun t => match sub with
    | 2 => { t with pattern := v }
    | 3 => { t with mode := v }
    | 4 => { t with start := v }
    | 5 => { t with count := v }
    | _ => { t with seed := v }) s)

/-- No tensor of the unit's tier is in use. -/
def tierFree (unit : Nat) (s : State) : Bool :=
  (tensorIds s).all fun t => (tensorOf t s).tier != (if unit < 256 then 0 else 1)

/-- TG_CONTROL = 1 (07 R259): modes 1 to 3 need the tier free, no Sit-out and no figure firing. -/
def tgStart (sel : Nat) (s : State) : Nat × State :=
  let us := tgSelected sel
  if us.any fun u => (tgOf u s).status == 1 then (0x03000004, s)
  else if us.any fun u => (tgOf u s).mode != 0 && (!tierFree u s || inSitout s || !s.cal.figs.isEmpty) then (0x03000004, s)
  else (0, forEach us (fun u => modTg u fun t => { t with status := 1, errors := 0, first := 0 }) s)

/-- TG_CONTROL = 2: running generators stop. -/
def tgStop (sel : Nat) (s : State) : Nat × State :=
  (0, forEach (tgSelected sel) (fun u => modTg u fun t => if t.status = 1 then { t with status := 4 } else t) s)

/-- A write of TG_CONTROL. -/
def writeTgControl (w : Writer) (v : Nat) (s : State) : Nat × State :=
  let sel := selectorOf w.via 0xE100 s
  if v = 1 then tgStart sel s else if v = 2 then tgStop sel s else (0x02000002, s)

/-- TG_START: TG_CONTROL = 1 (07 R259). -/
def execTgStart (w : Writer) (s : State) : Host.Outcome State Fault Refusal :=
  run (command w 0xE100 7 1 (writeTgControl w 1)) s

/-- TG_STOP: TG_CONTROL = 2 (07 R258). -/
def execTgStop (w : Writer) (s : State) : Host.Outcome State Fault Refusal :=
  run (command w 0xE100 7 2 (writeTgControl w 2)) s

/-- The 288 bits of sector `k` of a unit under a pattern (07 R258). -/
def tgSector (t : Tg) (k : Nat) : Sector :=
  let x : Nat := match t.pattern with
    | 1 => (List.range 9).foldl (fun a i => a + k % 2 ^ 32 * 2 ^ (32 * i)) 0
    | 2 => (List.range 36).foldl (fun a i => a + (if k % 2 = 0 then 0x55 else 0xAA) * 2 ^ (8 * i)) 0
    | 4 => 0
    | p => (Config.tgPattern p t.seed k).toNat
  ⟨BitVec.ofNat 256 x, BitVec.ofNat 32 (x / 2 ^ 256)⟩

/-- Bytes in which two sectors differ. -/
def diffBytes (a b : Sector) : Nat :=
  let x := a.data.toNat ^^^ b.data.toNat
  let y := a.chk.toNat ^^^ b.chk.toNat
  ((List.range 32).filter fun i => fld x (8 * i + 7) (8 * i) != 0).length +
  ((List.range 4).filter fun i => fld y (8 * i + 7) (8 * i) != 0).length

/-- A failed sector of a run is counted, and the first one kept with its mismatched bytes (07 R258). -/
def tgFail (unit k bytes : Nat) (s : State) : State :=
  modTg unit (fun t => { t with
    errors := min (t.errors + 1) (2 ^ 32 - 1),
    first := if t.errors = 0 then BitVec.ofNat 64 (k % 2 ^ 29 * 2 ^ 35 + bytes * 2 ^ 29) else t.first }) s

/-- One sector of a run: decoded in mode 0 as any consumer decodes; written in modes 1 and 2, and read and compared in modes 2 and
3 (07 R258). -/
def tgRunSector (unit : Nat) (errs : List (Nat × BitVec 288)) (t : Tg) (k : Nat) (s : State) : State :=
  let n := unitSector unit k
  let want := tgSector t k
  let e := match errs.find? fun p => p.1 == k with
    | some p => p.2
    | none => 0
  if t.mode = 0 then match consume n e 0 s with
    | (some _, s) => s
    | (none, s) => tgFail unit k 0 s
  else
    let s := if t.mode = 1 ∨ t.mode = 2 then fullWrite n want s else s
    let d := diffBytes (disturb (readOverlay n s) e) want
    if t.mode = 1 ∨ d = 0 then s else tgFail unit k d s

/-- A run of the unit's generator waits: for a retrain hold, a refresh that has taken precedence or an update step (07 R239, R242;
08 R290). -/
def tgHeld (unit : Nat) (s : State) : Bool :=
  (s.mo.training.any fun r => r.unit == unit) || refreshPending unit s ||
  s.upd.units.any fun p => p.2.step.any fun b => unitOf (stateSector (setEntry b.set_ s) b.part b.block s) == some unit

/-- TG_RUN_END: a running generator finishes its range; `errs` are the disturbances of its reads by sector (07 R258). -/
def execTgRunEnd (unit : Nat) (errs : List (Nat × BitVec 288)) (s : State) : Host.Outcome State Fault Refusal :=
  run (fun s =>
    let t := tgOf unit s
    let left := unitSectors unit - t.start
    let n := if t.count = 0 then left else min t.count left
    if t.status ≠ 1 ∨ (t.mode = 0 && frozenAt 7 (unitSector unit t.start) s) ∨ tgHeld unit s = true then s
    else if unitGone unit s then modTg unit (fun t => { t with status := 3 }) s
    else
      let s := (List.range n).foldl (fun s i => tgRunSector unit errs t (t.start + i) s) s
      modTg unit (fun t => { t with status := if t.errors = 0 then 2 else 3 }) s) s

end Sys2Proof.Machine
end

