-- ==== Sys2Proof/Machine/Shake.lean ====
section
/-! DEFINITION. SHAKE256 (FIPS 202), the digest function of the module: block and tensor digests (09 R329), image and boot
digests and measurements (17 R559, R568, R571). -/

namespace Sys2Proof.Machine

open Sys2Proof

/-! ### The permutation -/

/-- The 25 lanes of the state, lane (x, y) at x + 5y. -/
abbrev Lanes := List (BitVec 64)

/-- Lane (x, y), coordinates modulo 5. -/
def laneAt (a : Lanes) (x y : Nat) : BitVec 64 := nth 0#64 a (x % 5 + 5 * (y % 5))

/-- θ: each lane takes in the parities of the column to its left and of the rotated column to its right. -/
def mixColumns (a : Lanes) : Lanes :=
  let parity := (List.range 5).map fun x => (List.range 5).foldl (fun p y => p ^^^ laneAt a x y) 0#64
  (List.range 25).map fun i =>
    laneAt a i (i / 5) ^^^ laneAt parity (i + 4) 0 ^^^ (laneAt parity (i + 1) 0).rotateLeft 1

/-- ρ and π as one walk of 24 steps from lane (1, 0): the lane at step t, rotated by the triangular number of t + 1, goes to the
place of step t + 1. `b` gathers the result. -/
def walkLanes (a : Lanes) : Nat → Nat → Nat → Nat → Lanes → Lanes
  | 0, _, _, _, b => b
  | n + 1, t, x, y, b =>
    let z := (2 * x + 3 * y) % 5
    walkLanes a n (t + 1) y z (b.set (y + 5 * z) ((laneAt a x y).rotateLeft ((t + 1) * (t + 2) / 2 % 64)))

/-- χ: each lane takes in the next but one, where the next is 0. -/
def mixRows (a : Lanes) : Lanes :=
  (List.range 25).map fun i => laneAt a i (i / 5) ^^^ (~~~ laneAt a (i + 1) (i / 5) &&& laneAt a (i + 2) (i / 5))

/-- One step of the 8-bit shift register that gives the round constants. -/
def stepRegister (r : Nat) : Nat := if bitOf r 7 then (2 * r) ^^^ 0x171 else 2 * r

/-- The constant of a round and the register after it: bit 2^j - 1 is the register's low bit after j more steps, j from 0
to 6. -/
def roundConstant (r : Nat) : BitVec 64 × Nat :=
  (List.range 7).foldl (fun (c, r) j => (if bitOf r 0 then c ^^^ 1#64 <<< (2 ^ j - 1) else c, stepRegister r)) (0#64, r)

/-- ι: the constant of the round goes into lane (0, 0). -/
def addConstant (c : BitVec 64) : Lanes → Lanes
  | [] => []
  | l :: ls => (l ^^^ c) :: ls

/-- `n` rounds from a register value. -/
def permuteRounds : Nat → Nat → Lanes → Lanes
  | 0, _, a => a
  | n + 1, r, a =>
    let m := mixColumns a
    permuteRounds n (roundConstant r).2 (addConstant (roundConstant r).1 (mixRows (walkLanes m 24 0 1 0 m)))

/-! ### The sponge, 136 bytes to a block -/

/-- A block, as a number of 1,088 bits, is taken in and the state permuted. -/
def takeBlock (v : Nat) (a : Lanes) : Lanes :=
  permuteRounds 24 1 ((List.range 25).map fun i => nth 0#64 a i ^^^ BitVec.ofNat 64 (v / 2 ^ (64 * i)))

/-- The last block: what is left of the message, the suffix 1111, the first and the last bit of the padding. -/
def lastBlock (m : List Byte) : Nat := ofLeBytes m + 0x1F * 2 ^ (8 * m.length) + 2 ^ 1087

/-- Whole blocks and the last one; `n` bounds them. -/
def takeMessage : Nat → List Byte → Lanes → Lanes
  | 0, _, a => a
  | n + 1, m, a =>
    if m.length < 136 then takeBlock (lastBlock m) a
    else takeMessage n (m.drop 136) (takeBlock (ofLeBytes (m.take 136)) a)

/-- The first `out` bytes, at most 136, of SHAKE256 of a message. -/
def shake256 (out : Nat) (msg : List Byte) : List Byte :=
  ((takeMessage (msg.length / 136 + 1) msg (List.replicate 25 0#64)).flatMap fun l => leBytes 8 l.toNat).take out

/-- Its first 128 bits as a number whose byte 0 is least significant (09 R329). -/
def shake128 (msg : List Byte) : BitVec 128 := BitVec.ofNat 128 (ofLeBytes (shake256 16 msg))

/-- Its first 64 bytes (17 R559, R568, R571). -/
def shake512 (msg : List Byte) : List Byte := shake256 64 msg

end Sys2Proof.Machine
end

