-- ==== Sys2Proof/Machine/Directory.lean ====
section
/-! DEFINITION. The tensor directory, its commands and the movers (06 R215 to R229). -/

namespace Sys2Proof.Machine

open Sys2Proof

/-! ### Digests (09 R329) -/

/-- The bytes of consecutive sectors as their consumer sees them; none when one of them is uncorrectable, which is then
confirmed (06 R204, R206). -/
def readSectors (n : Nat) : Nat → State → Option (List Byte) × State
  | 0, s => (some [], s)
  | k + 1, s =>
    match consumeClean n s with
    | (none, s) => (none, s)
    | (some d, s) => match readSectors (n + 1) k s with
      | (none, s) => (none, s)
      | (some bs, s) => (some (leBytes 32 d.toNat ++ bs), s)

/-- The block digests of a byte string, 4 MiB per block (09 R329). -/
def blockDigests (bs : List Byte) : List (BitVec 128) := (chunks (4 * 1024 * 1024) bs).map shake128

/-- The tensor digest of a byte string (09 R329). -/
def digestOf (bs : List Byte) : BitVec 128 :=
  shake128 (leBytes 8 bs.length ++ (blockDigests bs).flatMap fun d => leBytes 16 d.toNat)

/-- The digest of `size` sectors from `home`. -/
def homeDigest (home size : Nat) (s : State) : Option (BitVec 128) × State :=
  match readSectors home size s with
  | (none, s) => (none, s)
  | (some bs, s) => (some (digestOf bs), s)

/-- The stored digest of tensor `t`; none when its entry of the digest table is uncorrectable, and then it equals no digest
(09 R325, R329). -/
def storedDigest (t : Nat) (s : State) : Option (BitVec 128) × State :=
  match consumeClean ((digestBase + 16 * t) / 32) s with
  | (none, s) => (none, s)
  | (some d, s) => (some (BitVec.ofNat 128 (d.toNat / 2 ^ (128 * (t % 2)))), s)

/-- A tensor digest goes into the digest table (06 R222). -/
def storeDigest (t : Nat) (d : BitVec 128) (s : State) : State :=
  engineBytes (digestBase + 16 * t) (leBytes 16 d.toNat) s

/-- The tensor's entry of the digest table has to be waited for. -/
def digestEntryHeld (t : Nat) (s : State) : Bool := accessHeld ((digestBase + 16 * t) / 32) s

/-! ### Directory commands (06 R219 to R221) -/

/-- KEEP, TIER and DEST of a command (06 R219). -/
def DirJob.keep (j : DirJob) : Bool := bitOf j.cmd.toNat 223

/-- Its TIER. -/
def DirJob.tier (j : DirJob) : Nat := fld j.cmd.toNat 222 221

/-- Its DEST. -/
def DirJob.dest (j : DirJob) : Nat := fld j.cmd.toNat 220 184

/-- The sectors from `home` on lie in the tensor space of a tier (06 R193, R221). -/
def inTensorSpace (tier home size : Nat) : Bool :=
  match tier with
  | 0 => decide (home + size ≤ 0x7FC0000000 / 32)
  | 1 => decide (0x8000000000 / 32 ≤ home ∧ home + size ≤ 0x14000000000 / 32)
  | 2 => decide (0x20000000000 / 32 ≤ home ∧ home + size ≤ 0x20004000000 / 32)
  | _ => false

/-- A tier's speed: the Floor above the fast tier above the slow tier (06 R221). -/
def tierSpeed (tier : Nat) : Nat := match tier with | 2 => 2 | 0 => 1 | _ => 0

/-- A destination of a MOVE is allowed (06 R221). -/
def moveAllowed (j : DirJob) (e : DirEntry) : Bool :=
  j.tier != e.tier && inTensorSpace j.tier j.dest e.size &&
  (!j.keep || decide (tierSpeed e.tier < tierSpeed j.tier))

/-- The image of a CREATE is allowed: a known format and role, and DATA and SIZE as 06 R214 gives them (06 R221). -/
def imageAllowed (j : DirJob) (i : DirEntry) : Bool :=
  decide (fmtWidth i.fmt ≠ 0 ∧ i.role ≠ 7 ∧ i.data = dataSectors i.fmt i.elements ∧
    i.size = tensorSectors i.fmt i.elements i.hist ∧ fld j.image.toNat 28 0 = 0)

/-- The command's own bits are allowed: a known OP, no reserved TIER, reserved bits 0, KEEP on a MOVE only (06 R219, R221). -/
def jobForm (j : DirJob) : Bool :=
  decide (1 ≤ j.op ∧ j.op ≤ 8 ∧ fld j.cmd.toNat 183 0 = 0) && (!j.keep || j.op == 3) && j.tier != 3 &&
  j.tensor != 0 && j.tensor != 0xFFFFFF

/-- The part of `k` sectors from `a` that lies in another range of sectors. -/
def overlapOf (a k b l : Nat) : Option (Nat × Nat) :=
  let lo := max a b
  let hi := min (a + k) (b + l)
  if lo < hi then some (lo, hi - lo) else none

/-- Tensor `t` gets the home `home` of `size` sectors: what of it lies in another tensor's home or reservation has undefined
contents from then on (06 R233; log entry 111). -/
def undefOverlaps (t home size : Nat) (s : State) : State :=
  let others := ((tensorIds s).filter (· != t)).flatMap fun u =>
    let e := tensorOf u s
    [overlapOf home size e.home e.size] ++ (if e.resValid then [overlapOf home size e.reserve e.size] else [])
  forEach (others.filterMap id) (fun (a, k) => makeUndef (32 * a) (32 * k)) s

/-- A refused command writes code 0x1608 and changes nothing (06 R221). -/
def refuseJob (j : DirJob) (s : State) : State := endJob j 3 0x1608 (emit 0x1608 0 j.op s)

/-- A job takes a new form. -/
def setJob (j k : DirJob) (s : State) : State :=
  { s with jobs := s.jobs.map fun x => if x == j then k else x }

/-- A MOVE, RETURN or VACATE is accepted: the entry enters moving and the mover waits for its references (06 R222). -/
def beginMove (j : DirJob) (s : State) : State :=
  let e := tensorOf j.tensor s
  setTensor j.tensor { e with state := 2 }
    (setJob j { j with phase := .waitRefs, before := BitVec.ofNat 256 (entryBits e) } s)

/-- A command on a tensor that no earlier command holds begins: it is refused, done in one directory write, or handed to a
mover (06 R218, R219, R221, R222, R227, R229). -/
def beginJob (j : DirJob) (s : State) : State :=
  let t := j.tensor
  let e := tensorOf t s
  let ok := jobForm j
  match j.op with
  | 1 =>
    let i := entryOf j.image.toNat
    if ok && e.state == 0 && imageAllowed j i && inTensorSpace j.tier j.dest i.size then
      endJob j 0 0 (setTensor t { i with
        state := 1, tier := j.tier, home := j.dest, written := false, resValid := false, resTier := 0, reserve := 0,
        refs := 0 } (undefOverlaps t j.dest i.size s))
    else refuseJob j s
  | 2 =>
    if ok && (e.state == 1 || e.state == 3 || e.state == 4) && e.refs == 0 then endJob j 0 0 (setTensor t (entryOf 0) s)
    else refuseJob j s
  | 3 => if ok && e.state == 1 && moveAllowed j e then beginMove j s else refuseJob j s
  | 4 => if ok && e.state == 1 && (e.resValid || moveAllowed j e) then beginMove j s else refuseJob j s
  | 5 => if ok && e.state == 1 then beginMove j s else refuseJob j s
  | 6 => if ok && e.state == 3 then setJob j { j with phase := .waitRefs, before := BitVec.ofNat 256 (entryBits e) } s
    else refuseJob j s
  | 7 => if ok && e.state == 4 then setJob j { j with phase := .waitRefs, before := BitVec.ofNat 256 (entryBits e) } s
    else refuseJob j s
  | 8 =>
    if ok && (e.state == 1 || e.state == 3 || e.state == 4) && fld j.image.toNat 28 0 == 0 then
      let i := entryOf j.image.toNat
      endJob j 0 0 (setTensor t { e with
        digestMark := i.digestMark, windowMode := i.windowMode, windowLog2 := i.windowLog2 } s)
    else refuseJob j s
  | _ => refuseJob j s

/-- The first command of a tensor. -/
def jobOn (t : Nat) (s : State) : Option DirJob := s.jobs.find? fun j => j.tensor == t

/-- The next waiting command of a tensor begins; `n` bounds the commands that end at once (06 R220). -/
def nextJob (t : Nat) : Nat → State → State
  | 0, s => s
  | n + 1, s => match jobOn t s with
    | some j => if j.phase = .queued then nextJob t n (beginJob j s) else s
    | none => s

/-- A directory command is accepted: commands on one tensor run in the order of acceptance (06 R220). -/
def acceptJob (j : DirJob) (s : State) : State :=
  let s' := { s with jobs := s.jobs ++ [j] }
  if (jobOn j.tensor s).isSome then s' else nextJob j.tensor 1 s'

/-- The command of a DIRECTORY entry (12 R438). -/
def jobOfEntry (q : Nat) (e : BitVec 1024) : DirJob :=
  { DirJob.init with
    cmd := BitVec.ofNat 256 (fld e.toNat 511 256), image := BitVec.ofNat 256 (fld e.toNat 255 0), queue := some q,
    cid := entryCid e, irq := entryIrq e }

/-- A DIRECTORY entry whose OP is `op` is taken from queue `q`. A reserved OP is refused by the command itself; in Sit-out
the entry completes with reason 3 and code 0x9410 (12 R438; 06 R221; 14 R492). -/
def takeDirectory (op q : Nat) (e : BitVec 1024) (s : State) : State :=
  let j := jobOfEntry q e
  if entryKind e ≠ 2 ∨ (j.op ≠ op ∧ 1 ≤ j.op ∧ j.op ≤ 8) then s
  else takeEntry q e (fun s =>
    if fld e.toNat 998 512 ≠ 0 ∨ (j.op ≠ 1 ∧ j.op ≠ 8 ∧ fld e.toNat 255 0 ≠ 0) then refuseEntry q e s
    else if inSitout s then complete q (entryCid e) (entryIrq e) 3 0x9410 s
    else acceptJob j s) s

/-- CREATE (06 R218, R219). -/
def execCreate (q : Nat) (entry : BitVec 1024) (s : State) : Host.Outcome State Fault Refusal :=
  run (takeDirectory 1 q entry) s

/-- DESTROY (06 R218). -/
def execDestroy (q : Nat) (entry : BitVec 1024) (s : State) : Host.Outcome State Fault Refusal :=
  run (takeDirectory 2 q entry) s

/-- MOVE (06 R222). -/
def execMove (q : Nat) (entry : BitVec 1024) (s : State) : Host.Outcome State Fault Refusal :=
  run (takeDirectory 3 q entry) s

/-- RETURN (06 R227). -/
def execDirReturn (q : Nat) (entry : BitVec 1024) (s : State) : Host.Outcome State Fault Refusal :=
  run (takeDirectory 4 q entry) s

/-- VACATE (06 R229). -/
def execVacate (q : Nat) (entry : BitVec 1024) (s : State) : Host.Outcome State Fault Refusal :=
  run (takeDirectory 5 q entry) s

/-- REINSTATE (06 R218, R229). -/
def execReinstate (q : Nat) (entry : BitVec 1024) (s : State) : Host.Outcome State Fault Refusal :=
  run (takeDirectory 6 q entry) s

/-- CLEAR_DAMAGE (06 R218). -/
def execClearDamage (q : Nat) (entry : BitVec 1024) (s : State) : Host.Outcome State Fault Refusal :=
  run (takeDirectory 7 q entry) s

/-- SET_ATTR (06 R219). -/
def execSetAttr (q : Nat) (entry : BitVec 1024) (s : State) : Host.Outcome State Fault Refusal :=
  run (takeDirectory 8 q entry) s

/-! ### The movers (06 R222 to R229) -/

/-- The commands the movers carry out now, at most eight (06 R220). -/
def activeJobs (s : State) : List DirJob := s.jobs.filter DirJob.active

/-- The command is a RETURN of a tensor whose reservation was valid when the command was accepted: it goes to the reservation
(06 R227; log entry 110). -/
def DirJob.toReserve (j : DirJob) : Bool := j.op == 4 && (entryOf j.before.toNat).resValid

/-- MOVER_START: a waiting command of the tensor begins, or, with no reference left and a mover free, its copy or digest
begins, and the mover or digest engine takes a reference (06 R217, R220, R222, R227, R229). -/
def execMoverStart (tensor : Nat) (s : State) : Host.Outcome State Fault Refusal :=
  run (fun s =>
    let s := nextJob tensor (s.jobs.length) s
    match jobOn tensor s with
    | none => s
    | some j =>
      let e := tensorOf tensor s
      if j.phase = .waitRefs ∧ (activeJobs s).length < 8 ∧ (e.state ≠ 2 ∨ e.refs = 0) then
        let copies := j.op == 3 || (j.op == 4 && (!j.toReserve || e.written))
        let s := takeRef tensor (setJob j { j with phase := if copies then .copying else .digesting } s)
        onlyIf (copies && j.toReserve) (fun s => emit 0x1605 0 1 (bump Obj.FULL_RETURNS s)) s
      else s) s

/-- Sectors copied in order, each corrected; false at an uncorrectable source sector (06 R204, R222). -/
def copySectors (src dst : Nat) : Nat → State → Bool × State
  | 0, s => (true, s)
  | k + 1, s =>
    match consumeClean src s with
    | (none, s) => (false, s)
    | (some d, s) => copySectors (src + 1) (dst + 1) k (fullWrite dst (encodeSector d) s)

/-- The mover met an uncorrectable source sector: code 0x1603, and the command ends, unless the finding has ended it
(06 R224). -/
def moverFailed (j : DirJob) (s : State) : State :=
  let s := emit 0x1603 0 j.tensor s
  if s.jobs.contains j then endJob j 1 0x1603 s else s

/-- A copy to `dst` in `tier` ends (06 R222 steps 2 to 4). -/
def finishCopy (j : DirJob) (dst tier : Nat) (keep : Bool) (s : State) : State :=
  let e := tensorOf j.tensor s
  match copySectors e.home dst e.size s with
  | (false, s) => moverFailed j s
  | (true, s) =>
    let s := undefOverlaps j.tensor dst e.size s
    let s := if keep then match homeDigest dst e.size s with
        | (some d, s) => storeDigest j.tensor d s
        | (none, s) => s
      else s
    let s := modTensor j.tensor (fun e => { e with
      state := 1, home := dst, tier := tier, reserve := e.home, resTier := e.tier, resValid := keep, written := false }) s
    endJob j 0 0 (bumpBy e.size Obj.MOVED_SECTORS (bump Obj.MOVES s))

/-- A clean check ends: with equal digests the tensor is at its reservation without a transfer; otherwise the mover copies
(06 R227, R228). -/
def finishCleanCheck (j : DirJob) (s : State) : State :=
  let e := tensorOf j.tensor s
  match homeDigest e.home e.size s with
  | (none, s) => moverFailed j s
  | (some a, s) =>
    let (b, s) := if rd Obj.CLEAN_CHECK s = 1 then (some a, s) else homeDigest e.reserve e.size s
    let (want, s) := storedDigest j.tensor s
    if want = some a ∧ b = some a then
      endJob j 0 0 (emit 0x1604 0 j.tensor (bump Obj.CLEAN_RETURNS (modTensor j.tensor (fun e => { e with
        state := 1, home := e.reserve, tier := e.resTier, resValid := false }) s)))
    else emit 0x1605 0 2 (bump Obj.FULL_RETURNS (setJob j { j with phase := .copying } s))

/-- What a command's mover or digest engine reads and writes has to be waited for: an update step, a retrain hold or a refresh
stands in its way (07 R239, R242; 08 R290, R291). -/
def jobHeld (j : DirJob) (s : State) : Bool :=
  let e := tensorOf j.tensor s
  let dst := if j.toReserve then e.reserve else j.dest
  rangeHeld e.home e.size s || digestEntryHeld j.tensor s ||
  ((j.op == 3 || j.op == 4) && rangeHeld dst e.size s)

/-- The sectors a command's mover writes (06 R222, R227). -/
def jobWrites (j : DirJob) (s : State) : List (Nat × Nat) :=
  let e := tensorOf j.tensor s
  if j.phase = .copying then [(if j.toReserve then e.reserve else j.dest, e.size)] else []

/-- The copy or digest of the tensor's command ends and the final directory write is made; the tensor's next command goes on
(06 R222 to R229). -/
def jobEnds (j : DirJob) (tensor : Nat) (s : State) : State :=
  let e := tensorOf tensor s
  let s := if j.phase = .copying then
      (if j.toReserve then finishCopy j e.reserve e.resTier false s
       else finishCopy j j.dest j.tier j.keep s)
    else if j.phase = .digesting then match j.op with
      | 4 => finishCleanCheck j s
      | 5 => (match homeDigest e.home e.size s with
        | (none, s) => moverFailed j s
        | (some d, s) =>
          endJob j 0 0 (modTensor tensor (fun e => { e with state := 3 }) (storeDigest tensor d s)))
      | 6 => (match homeDigest e.home e.size s with
        | (some d, s) =>
          let (want, s) := storedDigest tensor s
          endJob j 0 0 (modTensor tensor (fun e => { e with state := if want = some d then 1 else 4 }) s)
        | (none, s) => endJob j 0 0 (modTensor tensor (fun e => { e with state := 4 }) s))
      | _ => (match readSectors e.home e.size s with
        | (some _, s) => endJob j 0 0 (modTensor tensor (fun e => { e with state := 1 }) s)
        | (none, s) => refuseJob j s)
    else s
  nextJob tensor s.jobs.length s

/-- MOVER_DONE: the copy or digest of the tensor's command ends and the final directory write is made (06 R222 to R229). It waits
for what holds its sectors, and for a reference other than its own. -/
def execMoverDone (tensor : Nat) (s : State) : Host.Outcome State Fault Refusal :=
  run (fun s => match jobOn tensor s with
    | none => s
    | some j =>
      let e := tensorOf tensor s
      if frozenAt 5 e.home s ∨ j.active = false ∨ jobHeld j s ∨ 1 < e.refs then s
      else afterSnoops false [(e.home, e.size)] (afterSnoops true (jobWrites j s) (jobEnds j tensor)) s) s

end Sys2Proof.Machine
end

