-- ==== Sys2Proof/Machine/TimeBase.lean ====
section
/-! DEFINITION. The servo's states and the loss of its source (02 R31 to R40). -/

namespace Sys2Proof.Machine

open Sys2Proof

/-- SERVO_STATE of a servo state (02). -/
def servoCode : Servo → Nat
  | .unset => 0
  | .acquiring => 1
  | .locked => 2
  | .holdover => 3

/-- The asymmetry calibration of a link fails (10 R371). -/
def asymFails (k : Nat) (s : State) : State := emit 0x3023 k k (modLink k (fun l => { l with asymCal := false }) s)

/-- The servo enters a state, counting its good intervals afresh; a calibration of a link's asymmetry fails as this end leaves
LOCKED (02 R34; 10 R371). -/
def setServo (v : Servo) (s : State) : State :=
  let s := onlyIf (s.tim.servo == .locked && v != .locked)
    (forEach ((List.range 64).filter fun k => (linkOf k s).asymCal) asymFails) s
  wr Obj.SERVO_STATE (servoCode v) { s with tim := { s.tim with servo := v, good := 0 } }

/-- The servo enters HOLDOVER: TimeDegraded is raised with code 0x4001 (02 R38). -/
def enterHoldover (s : State) : State :=
  let s := setServo .holdover s
  emit 0x4001 0 0 { s with tim := { s.tim with degraded := true, holdoverAt := some (now s) } }

/-- The source is lost: a locked servo enters HOLDOVER, an acquiring one counts its intervals afresh (02 R31). -/
def sourceLost (s : State) : State :=
  if s.tim.lost then s
  else
    let s := { s with tim := { s.tim with lost := true, good := 0 } }
    if s.tim.servo = .locked then enterHoldover s else s

/-- The servo enters LOCKED: TimeDegraded ends (02 R38). -/
def enterLocked (s : State) : State :=
  let s := setServo .locked s
  { s with tim := { s.tim with degraded := false, holdoverAt := none } }

/-- The tasks that wait on a Caller flag are aborted with CALLER_STOPPED (02 R40; 12 R443). -/
def abortFlagWaiters (waiting : Task → State → Bool) (s : State) : State :=
  forEach (s.tasks.filter fun t => waiting t s) (fun t => abortTask t 2 0x4002 true) s

end Sys2Proof.Machine
end

