-- ==== Sys2Proof/Machine/Links.lean ====
section
/-! DEFINITION. Cavo links: light, training, frames, replay, credits, transmission, holds and the loss of a link
(10 Cavo optical links). -/

namespace Sys2Proof.Machine

open Sys2Proof

/-! ### Light and states (10 R357) -/

/-- Optical engine `e`. -/
def engineOf (e : Nat) (s : State) : OptEngine := nth OptEngine.init s.net.engines e

/-- Optical engine `e` changed by `f`. -/
def modEngine (e : Nat) (f : OptEngine → OptEngine) (s : State) : State :=
  { s with net := { s.net with engines := upd f s.net.engines e } }

/-- Light and control allow a link: LASER_EN high, the bank at launch power, its engine's lasers able and not off, and
LINK_CONTROL not 0 (10 R357; 16 R549; 14 R504). -/
def lightOk (k : Nat) (s : State) : Bool :=
  let e := engineOf (k / 8) s
  s.pins.laserEn && s.net.laserOn && e.laserOk.all id && !e.hotOff && !e.faulted && rd (Obj.LINK_CONTROL (k + 1)) s != 0

/-- A link begins training. -/
def startTraining (k : Nat) (s : State) : State :=
  modLink k (fun l => { l with state := .training, stateAt := s.clk.ticks }) s

/-- A link has been in its state for `n` ticks. -/
def stateFor (k n : Nat) (s : State) : Bool := decide ((linkOf k s).stateAt + n ≤ s.clk.ticks)

/-- Every DARK link that light and control allow begins training (10 R357). -/
def lightLinks (s : State) : State :=
  forEach (List.range 64) (fun k s => onlyIf ((linkOf k s).state == .dark && lightOk k s) (startTraining k) s) s

/-- The initial credits of a link: 32 on VL0 and each class of VL1, 16 on each class of VL2 and VL3, of which VL2 class 0
keeps one for the Sit-out token (10 R353). -/
def firstCredits : List Nat := [32, 32, 32, 15, 16, 16, 16]

/-- A link's counters, credits and stores as training leaves them (10 R353, R375). -/
def freshLink (farBuffer : Nat) (l : Link) : Link :=
  { l with
    txNo := 0, rxNo := 0, rxAny := false, nak := false, nakRun := 0, nakFrame := 0, replay := [], replaying := [],
    again := none, againPos := 0, stamps := [], rttSum := 0, rttNum := 0,
    cred := firstCredits, shared := farBuffer - 160, sharedAll := farBuffer - 160, sharedLow := 0,
    ret := List.replicate 8 0, txq := [], cur := [], tokenDue := false, vl3InFrame := 0, winPos := 0,
    rx := [], token0 := true, echoNo := 0 }

/-! ### Losing a link (10 R374 to R376; 11 R414, R415) -/

/-- The flits a link holds or has sent without acknowledgement, oldest first (10 R375). -/
def unacked (l : Link) : List Flit := l.replay.flatMap (·.flits) ++ l.cur ++ l.txq

/-- The spare of a stage's SEND or RECV when that is link `k`, no spare where `k` is a child's link or the spare that has taken the
place of a link of `used`; none when the stage does not use the link (11 R414, R415). -/
def stageSpare (used : List Nat) (x k : Nat) : Option (Bool × Option Nat) :=
  let field (h l : Nat) : Option Nat := let f := fld x h l; if bitOf f 6 then some (f % 64) else none
  let inUse (spare prim : Option Nat) : Bool := spare == some k && prim.any used.contains
  if field 227 221 = some k then some (true, field 220 214)
  else if field 213 207 = some k then some (false, field 206 200)
  else if inUse (field 220 214) (field 227 221) ∨ inUse (field 206 200) (field 213 207) then some (false, none)
  else if [field 199 193, field 192 186, field 185 179, field 178 172].contains (some k) then some (false, none)
  else none

/-- A collective meets the loss of link `k` at one stage: its traffic moves to a usable spare, or the stage stops
(11 R414, R415). -/
def collLoss (k : Nat) (lost : List Flit) (c : Coll) (i : Nat) (s : State) : State :=
  match stageSpare c.spareUsed (stageBits c i) k with
  | none => s
  | some (send, spare) =>
    let set (f : Coll → Coll) (s : State) : State :=
      { s with col := { s.col with slots := mapIf (fun d => d.entry == c.entry && d.tag == c.tag) f s.col.slots } }
    match spare with
    | some j =>
      if linkReady j s then
        let mine := lost.filter fun f => f.vl == 0 && flitTag f == c.tag && fld f.hdr.toNat 106 103 == i
        let s := if send then forEach mine (queueFlit j) s else s
        emit 0x3107 j j (bump Obj.SPARE_SWITCHES (set (fun d => { d with spareUsed := d.spareUsed ++ [k] }) s))
      else set (fun d => { d with stuck := d.stuck ++ [i] }) s
    | none => set (fun d => { d with stuck := d.stuck ++ [i] }) s

/-- A link goes down for a reason of 10 R374: routes leave it at once, its routed flits are routed again, its credits and
replay store are cleared, and 8 downs within 600 s lock it out, except by reason 6 (R360, R375, R376). -/
def linkDown (k reason : Nat) (s : State) : State :=
  let l := linkOf k s
  let lost := unacked l
  let sec := opSec s
  let recent := if reason = 6 then l.downTimes else (sec :: l.downTimes).take 8
  let locked := reason != 6 && decide (8 ≤ (recent.filter fun t => decide (sec ≤ t + 600)).length)
  let s := modLink k (fun l => { freshLink 160 l with
    state := if locked then .lockedOut else .down, stateAt := s.clk.ticks, reason := reason, usable := false, everDown := true,
    downTimes := recent }) s
  let s := emit 0x3002 k (k * 256 + reason) (bump (Obj.DOWNS k) s)
  let s := onlyIf locked (emit 0x3003 k k) s
  let s := forEach s.col.slots (fun c => forEach (List.range (collStages c)) (collLoss k lost c)) s
  forEach (lost.filter fun f => !f.oneLink && !(f.vl == 3 && f.kind == 0)) (routeOrWait 64) s

/-- A link that carries frames. -/
def linkLive (k : Nat) (s : State) : Bool := (linkOf k s).state == .up || (linkOf k s).state == .hold

/-- A link goes down where it was live or training. -/
def dropLink (k reason : Nat) (s : State) : State :=
  if linkLive k s ∨ (linkOf k s).state = .training then linkDown k reason s else s

/-- A link is dark: a live or training one goes down first (10 R357, R360, R374). -/
def darken (k reason : Nat) (s : State) : State := modLink k (fun l => { l with state := .dark }) (dropLink k reason s)

/-- LOSS_OF_LIGHT: a lane below the threshold for 10 µs, reason 1 (10 R374). -/
def execLossOfLight (link : Nat) (s : State) : Host.Outcome State Fault Refusal :=
  run (fun s => onlyIf (linkLive link s) (linkDown link 1) s) s

/-- ALIGNMENT_LOST: outside a hold, reason 2 (10 R374). -/
def execAlignmentLost (link : Nat) (s : State) : Host.Outcome State Fault Refusal :=
  run (fun s => onlyIf ((linkOf link s).state == .up) (linkDown link 2) s) s

/-- SCRC_TIMEOUT: eight frames without a good SCRC, reason 4 (10 R374). -/
def execScrcTimeout (link : Nat) (s : State) : Host.Outcome State Fault Refusal :=
  run (fun s => onlyIf (linkLive link s) (linkDown link 4) s) s

/-- TRAINING_TIMEOUT: a link not UP within 500 ms, reason 9 (10 R357). -/
def execTrainingTimeout (link : Nat) (s : State) : Host.Outcome State Fault Refusal :=
  run (fun s => onlyIf ((linkOf link s).state == .training && stateFor link 500000000 s) (linkDown link 9) s) s

/-- LINK_RETRY_TIMER: a down link retrains every second (10 R376). -/
def execLinkRetryTimer (link : Nat) (s : State) : Host.Outcome State Fault Refusal :=
  run (fun s =>
    onlyIf ((linkOf link s).state == .down && lightOk link s && stateFor link 1000000000 s) (startTraining link) s) s

/-- LINK_USABLE_TIMER: 10 s after its training ended, holds included, a link that has stayed up is usable for routing again
(10 R376; log entry 125). -/
def execLinkUsableTimer (link : Nat) (s : State) : Host.Outcome State Fault Refusal :=
  run (fun s =>
    onlyIf (linkLive link s && decide ((linkOf link s).upAt + 10000000000 ≤ s.clk.ticks))
      (modLink link fun l => { l with usable := true }) s) s

/-- A trained link is UP with fresh counters; a round trip that moved by more than 2 ns since it was last up makes its asymmetry
invalid, and a PTP source that uses the link is lost; a partner link that reaches another node is reported (10 R357,
R372; 21 R631). -/
def trainedLink (k farNode farLink rtt farBuffer : Nat) (s : State) : State :=
  let l := linkOf k s
  let moved := l.everDown && decide (l.rtt + 2 < rtt ∨ rtt + 2 < l.rtt)
  let s := modLink k (fun l => { freshLink farBuffer l with
    state := .up, stateAt := s.clk.ticks, upAt := s.clk.ticks, farNode := farNode, farLink := farLink, farTransitOff := false, usable := !l.everDown, rtt := rtt,
    rttAt := s.clk.ticks }) s
  let s := emit 0x3001 k k (wr (Obj.RTT k) rtt s)
  let s := if moved then
      let s := emit 0x3020 k k (saveDue [(Obj.ASYM_VALID k).key] (wr (Obj.ASYM_VALID k) 0 s))
      onlyIf (rd Obj.TIME_MODE s == 0 && rd Obj.PTP_LINK s == k) sourceLost s
    else s
  onlyIf (bitOf (rd Obj.PARTNER_LINKS s) k && rd Obj.PARTNER_NODE s != 0 && farNode != partnerNode s) (emit 0x8007 k 5) s

/-- LINK_TRAINING_COMPLETE: identities are exchanged and the round trip is measured; the link goes UP, or down as a loop to
this module, and a changed fibre ends its asymmetry calibration (10 R357, R372; log entry 30). -/
def execLinkTrainingComplete (link farNode farLink rtt farBuffer : Nat) (s : State) : Host.Outcome State Fault Refusal :=
  run (fun s =>
    if (linkOf link s).state ≠ .training then s
    else if farNode = nodeId s ∧ nodeId s ≠ 0 then
      linkDown link 5 (modLink link (fun l => { l with farNode := farNode, farLink := farLink }) s)
    else trainedLink link farNode farLink rtt farBuffer s) s

/-! ### Receiving frames (10 R346, R350, R351, R363; 14 R377) -/

/-- Frame `a` is at or before frame `b` in wrapping order. -/
def frameLe (a b : Nat) : Bool := decide ((b + 65536 - a) % 65536 < 32768)

/-- The slot's SCRC holds (10 R346; log entry 31). -/
def scrcOk (slot : Nat) : Bool := crc32 (leBytes 76 (slot / 2 ^ 32)) == slot % 2 ^ 32

/-- The frames of the replay store are to be sent again, from the first (10 R350, R358). -/
def replayAll (l : Link) : Link := { l with replaying := l.replay.map (·.no), again := none, againPos := 0 }

/-- Acknowledged frames leave the replay store; a NAK has the rest sent again, and counts, unless that is under way
(10 R350, R351; log entry 121). -/
def takeAck (slot : Nat) (l : Link) : Link :=
  let ack := fld slot 559 544
  let covered := l.replay.any fun f => f.no == ack
  let l := if covered then { l with
      replay := l.replay.filter (fun f => !frameLe f.no ack), replaying := l.replaying.filter fun n => !frameLe n ack } else l
  if bitOf slot 543 = false then { l with nakRun := 0 }
  else
    let f := (ack + 1) % 65536
    if l.nakFrame = f ∧ (l.replaying ≠ [] ∨ l.again.isSome) then l
    else { replayAll l with nakFrame := f, nakRun := if l.nakFrame = f then l.nakRun + 1 else 1 }

/-- The round trip a slot shows: from the TX_STAMP of the frame it echoes to its own arrival, less the far end's delay (10 R346). -/
def slotRtt (slot at_ : Nat) (l : Link) : Option Nat :=
  (l.stamps.find? fun p => p.1 == fld slot 343 328).map fun p => at_ - p.2 - fld slot 327 296

/-- A measured round trip joins the mean of its second, which object RTT shows once the second is over (10 R346). -/
def takeRtt (k r : Nat) (s : State) : State :=
  let s := modLink k (fun l => { l with rtt := r, rttSum := l.rttSum + r, rttNum := l.rttNum + 1 }) s
  let l := linkOf k s
  if l.rttAt + 1000000000 ≤ s.clk.ticks then
    wr (Obj.RTT k) (l.rttSum / l.rttNum) (modLink k (fun l => { l with rttSum := 0, rttNum := 0, rttAt := s.clk.ticks }) s)
  else s

/-- Returned credits are held again (10 R346, R353; log entry 32). -/
def takeCredits (slot : Nat) (l : Link) : Link :=
  let cr (i : Nat) : Nat := fld slot (439 - 12 * i) (428 - 12 * i)
  let shared := min l.sharedAll (l.shared + fld slot 355 344)
  { l with
    cred := l.cred.mapIdx (fun i c => c + cr i), shared := shared,
    sharedLow := min l.sharedLow (l.sharedAll - shared) }

/-- The idle flit (10 R349). -/
def idleFlit : Flit := ⟨withHcrc (3 * 2 ^ 126), List.replicate 8 ⟨0, 0⟩⟩

/-- One flit of a good frame goes where it belongs: an idle flit nowhere, VL0 and tokens to the receive buffer, routed flits
to their route; in Sit-out VL0 flits are discarded and their credits returned (10 R349, R363; 14 R377). -/
def takeFlit (k : Nat) (f : Flit) (s : State) : State :=
  if f.vl = 3 ∧ f.kind = 0 then s
  else if f.oneLink then
    if f.vl = 0 ∧ inSitout s then returnCredit k f s else modLink k (fun l => { l with rx := l.rx ++ [f] }) s
  else routeOrWait k f s

/-- A frame is whole: it left the fibre, and its flits are kept for replay (10 R344, R350). -/
def frameDone (l : Link) : Link :=
  let f : Frame := ⟨(l.txNo + 1) % 65536, l.cur, l.slot⟩
  { l with cur := [], txNo := f.no, replay := l.replay ++ [f], wire := some f, vl3InFrame := 0 }

/-- The frame being filled goes out with idle flits in its last positions. -/
def closeFrame (l : Link) : Link :=
  if l.cur.isEmpty then l else frameDone { l with cur := l.cur ++ List.replicate (135 - l.cur.length) idleFlit }

/-- A hold begins at tick `at_`: the frame being filled is closed, and no further flit is sent (10 R358). -/
def holdLink (at_ : Nat) (l : Link) : Link :=
  { closeFrame l with state := .hold, stateAt := at_, again := none, againPos := 0 }

/-- The receiver's link state after a slot was read: of the frame's 64 codewords those corrected and an uncorrectable one count; a good slot counts a NAK, moves
acknowledgements, credits, the round trip and the far end's routing bit, and a hold it announces holds this end too (10 R346,
R350, R351, R358). -/
def takeSlot (k x : Nat) (fecBad : Bool) (corrected : Nat) (s : State) : State :=
  let s := bumpBy (min corrected 64) (Obj.CW_CORRECTED k) s
  let s := onlyIf fecBad (bump (Obj.CW_UNCORRECTABLE k)) s
  if fecBad = false ∧ scrcOk x = true then
    let s := onlyIf (bitOf x 543) (bump (Obj.REPLAYS k)) s
    let r := slotRtt x (now s) (linkOf k s)
    let s := modLink k (fun l =>
      let l := { takeCredits x (takeAck x l) with
        farTransitOff := bitOf x 538, rxAny := true, echoNo := fld x 575 560, echoAt := s.clk.ticks,
        stamps := l.stamps.filter fun p => frameLe (fld x 343 328) p.1 }
      if fld x 542 539 = 1 ∧ l.state = .up then holdLink s.clk.ticks l else l) s
    match r with
    | some r => takeRtt k r s
    | none => s
  else s

/-- A PTP message (10 R369). -/
def isPtp (f : Flit) : Bool := f.vl == 3 && f.kind == 5

/-- A good frame in order is accepted: its number is the last one, its PTP flits keep its stamps, and its flits go where they belong
(10 R350, R370). -/
def acceptFrame (k slot : Nat) (flits : List Flit) (s : State) : State :=
  forEach flits (takeFlit k) (modLink k (fun l => { l with
    rxNo := fld slot 575 560, nak := false,
    ptpRx := l.ptpRx ++ (flits.filter isPtp).map fun f => (f, fld slot 503 440, now s) }) s)

/-- FRAME_RECEIVE: a frame arrives with its slot and flits; `fecBad` says that a codeword was uncorrectable,
`corrected` how many were corrected. The first frame after
training has number 1 (10 R346, R350, R351, R374, R376; log entry 120). -/
def execFrameReceive (link : Nat) (slot : BitVec 640) (flits : List Flit) (fecBad : Bool) (corrected : Nat) (s : State) :
    Host.Outcome State Fault Refusal :=
  run (fun s =>
    let x := slot.toNat
    let l := linkOf link s
    if l.state = .down ∧ (fecBad = false ∧ scrcOk x = true) ∧ fld x 542 539 = 2 ∧ lightOk link s = true then startTraining link s
    else if linkLive link s = false then s
    else if (fecBad = false ∧ scrcOk x = true) ∧ (fld x 527 504 ≠ l.farNode ∨ fld x 533 528 ≠ l.farLink) then
      linkDown link 5 s
    else
      let t := takeSlot link x fecBad corrected s
      if 16 ≤ (linkOf link t).nakRun then linkDown link 3 t
      else if fecBad = true ∨ scrcOk x = false ∨ flits.all hcrcOk = false then modLink link (fun l => { l with nak := true }) t
      else if fld x 575 560 ≠ (l.rxNo + 1) % 65536 then t
      else acceptFrame link x flits t) s

/-! ### Transmitting (10 R353, R355, R356; 11 R399) -/

/-- The place of a flit's dedicated credits. -/
def creditIndex (f : Flit) : Nat := if f.vl = 0 then 0 else 2 * f.vl - 1 + b2n f.cls

/-- A flit takes its credit: a dedicated one, else a shared one, of which VL1 to VL3 hold at most a quarter (10 R353). -/
def useCredit (f : Flit) (l : Link) : Option (Flit × Link) :=
  let i := creditIndex f
  if 0 < nth 0 l.cred i then some (f.set 124 124 0, { l with cred := upd (· - 1) l.cred i })
  else if 0 < l.shared ∧ (f.vl = 0 ∨ 4 * (l.sharedLow + 1) ≤ l.sharedAll) then
    some (f.set 124 124 1, { l with shared := l.shared - 1, sharedLow := l.sharedLow + b2n (f.vl != 0) })
  else none

/-- The first waiting flit that satisfies `p` and has a credit. -/
def ready (p : Flit → Bool) (l : Link) : Option Flit := l.txq.find? fun f => p f && (useCredit f l).isSome

/-- Class 1 goes before class 0 (10 R355). -/
def readyVl (v : Nat) (l : Link) : Option Flit :=
  (ready (fun f => f.vl == v && f.cls) l).or (ready (fun f => f.vl == v) l)

/-- The VL0 flit whose turn it is: one flit at a time among the collectives in flight, in firing order (11 R399). -/
def readyVl0 (tags : List Nat) (l : Link) : Option Flit :=
  let i := (tags.idxOf l.colTurn + 1) % max 1 tags.length
  let order := tags.drop i ++ tags.take i
  (order.findSome? fun t => ready (fun f => f.vl == 0 && flitTag f == t) l).or (ready (fun f => f.vl == 0) l)

/-- Positions of a window of 100 that VL1 is guaranteed on a link (11 R399). -/
def vl1Share (k : Nat) (s : State) : Nat := if bitOf (rd Obj.PARTNER_LINKS s) k then rd Obj.PARTNER_SHARE s else 5

/-- The flit of the next position by the order of 10 R355, and whether it fills a position of the VL0 and VL1 window. -/
def chooseFlit (k : Nat) (s : State) : Option Flit × Bool :=
  let l := linkOf k s
  let low := (readyVl0 (s.col.slots.map (·.tag)) l, readyVl 1 l)
  match readyVl 2 l with
  | some f => (some f, false)
  | none =>
    match (if l.vl3InFrame < 4 ∨ (low.1.isNone ∧ low.2.isNone) then readyVl 3 l else none) with
    | some f => (some f, false)
    | none => (if l.winPos < vl1Share k s then low.2.or low.1 else low.1.or low.2, true)

/-- The slot of frame `no` of link `k`, with STATE and HOLD_US: what has been received, whether it is to be replayed, the credits
to return, the echo of the last frame received, and its check (10 R346, R350, R353, R377). -/
def slotBits (k no state holdUs : Nat) (s : State) : BitVec 640 :=
  let l := linkOf k s
  let cr (i : Nat) : Nat := min (nth 0 l.ret i) 4095 * 2 ^ (428 - 12 * i)
  let x := 0x9E4B61D22D16B4E9 * 2 ^ 576 + no % 65536 * 2 ^ 560 + l.rxNo * 2 ^ 544 + b2n l.nak * 2 ^ 543 +
    state % 16 * 2 ^ 539 + b2n (transitOff s) * 2 ^ 538 + holdUs % 16 * 2 ^ 534 + k % 64 * 2 ^ 528 +
    nodeId s % 2 ^ 24 * 2 ^ 504 + now s % 2 ^ 64 * 2 ^ 440 + sumNat ((List.range 8).map cr) +
    l.echoNo % 65536 * 2 ^ 328 + (if l.rxAny then (s.clk.ticks - l.echoAt) % 2 ^ 32 else 0) * 2 ^ 296
  BitVec.ofNat 640 (x + crc32 (leBytes 76 (x / 2 ^ 32)))

/-- Frame `no` begins: its slot is formed, takes the credits due and leaves its stamp (10 R346, R353, R370). -/
def beginFrame (k no state holdUs : Nat) (s : State) : BitVec 640 × State :=
  (slotBits k no state holdUs s, modLink k (fun l => { l with
    ret := l.ret.map fun n => n - 4095, stamps := (l.stamps.filter fun p => p.1 != no) ++ [(no, now s)] }) s)

/-- A PTP message takes the TX_STAMP of the frame that carries it (10 R370; log entry 49). -/
def stampFlit (slot : BitVec 640) (f : Flit) : Flit :=
  if isPtp f then
    { f with sectors := (Config.ptpStamped (f.sectors.map (·.data)) (fld slot.toNat 503 440)).map encodeSector }
  else f

/-- A flit as it travels: eight sectors, those past what it carries zero with zero check bytes (10 R347). -/
def wholeFlit (f : Flit) : Flit := { f with sectors := f.sectors ++ List.replicate (8 - f.sectors.length) ⟨0, 0⟩ }

/-- A flit is placed in the frame being filled, which begins with its slot; a full frame leaves, and is kept for replay
(10 R344, R346, R350). -/
def placeFlit (k : Nat) (f : Flit) (s : State) : State :=
  let l := linkOf k s
  let s := if l.cur.isEmpty then
      let (x, s) := beginFrame k ((l.txNo + 1) % 65536) 0 0 s
      modLink k (fun l => { l with slot := x }) s
    else s
  modLink k (fun l =>
    let l := { l with cur := l.cur ++ [wholeFlit (stampFlit l.slot f)] }
    if l.cur.length < 135 then l else frameDone l) s

/-- An idle flit: it needs no place in the replay store. -/
def isIdle (f : Flit) : Bool := f.vl == 3 && f.kind == 0

/-- The replay store has room: it holds as many flits as LINK_BUFFER (10 R354). -/
def replayRoom (k : Nat) (s : State) : Bool :=
  let l := linkOf k s
  decide (((l.replay.flatMap (·.flits) ++ l.cur).filter fun f => !isIdle f).length < rd (Obj.LINK_BUFFER (k + 1)) s)

/-- A position goes to the frame that is sent again: the first of those due, with a fresh slot, until its 135 flits have gone
(10 R350, R355). -/
def replayFlit (k : Nat) (s : State) : State :=
  let l := linkOf k s
  match l.again with
  | some f =>
    modLink k (fun l => if l.againPos < 134 then { l with againPos := l.againPos + 1 }
      else { l with again := none, againPos := 0, wire := some f, vl3InFrame := 0,
                    replay := mapIf (fun g => g.no == f.no) (fun _ => f) l.replay }) s
  | none =>
    match l.replaying with
    | [] => s
    | n :: rest => match l.replay.find? fun f => f.no == n with
      | none => modLink k (fun l => { l with replaying := rest }) s
      | some f =>
        let (x, s) := beginFrame k n 0 0 s
        modLink k (fun l => { l with replaying := rest, again := some { f with slot := x, flits := f.flits.map (stampFlit x) }, againPos := 1 }) s

/-- The Sit-out token of this module (11 R411). -/
def sitoutToken (s : State) : Flit := abortToken 0 true 1 (nodeId s)

/-- A flit with its credit taken leaves its queue and fills a position of the frame (10 R353, R355; 11 R399). -/
def sendFlit (k : Nat) (f g : Flit) (l : Link) (s : State) : State :=
  placeFlit k g (modLink k (fun _ => { l with
    txq := dropFirst (fun x => x == f) l.txq, vl3InFrame := l.vl3InFrame + b2n (f.vl == 3),
    colTurn := if f.vl = 0 then flitTag f else l.colTurn }) s)

/-- A position of the VL0 and VL1 window goes by (11 R399). -/
def windowStep (k : Nat) (windowed : Bool) (s : State) : State :=
  onlyIf windowed (modLink k fun l => { l with winPos := (l.winPos + 1) % 100 }) s

/-- The flits that wait for a route are tried again while routing runs (10 R363). -/
def routesRetried (s : State) : State := onlyIf (routing s && !s.net.waitFlits.isEmpty) routeWaiting s

/-- FLIT_TRANSMIT: the transmitter fills its next flit position: the Sit-out token, a replay, VL2, VL3, VL0 and VL1 in their
windows, or an idle flit. A replayed frame goes out whole, and begins where a frame ends. Nothing is sent in a hold (10 R355,
R356, R358; 11 R399; log entry 120). -/
def execFlitTransmit (link : Nat) (s : State) : Host.Outcome State Fault Refusal :=
  run (fun s =>
    let s := routesRetried s
    let l := linkOf link s
    if l.state ≠ .up then s
    else if l.again.isSome = true then replayFlit link s
    else if l.tokenDue = true ∧ l.token0 = true then
      placeFlit link (sitoutToken s) (modLink link (fun l => { l with tokenDue := false, token0 := false }) s)
    else if l.cur = [] ∧ l.replaying ≠ [] then replayFlit link s
    else if replayRoom link s = false then placeFlit link idleFlit s
    else
      let t := windowStep link (chooseFlit link s).2 s
      match (chooseFlit link s).1 with
      | none => placeFlit link idleFlit t
      | some f => match useCredit f (linkOf link t) with
        | none => placeFlit link idleFlit t
        | some (g, l) => sendFlit link f g l t) s

/-! ### Holds and ring calibration (10 R358, R359) -/

/-- The link a calibration is at. -/
def RingFig.link (r : RingFig) : Option Nat := r.engines.head?.map fun e => 8 * e + r.next

/-- The link the first calibration is at. -/
def ringLink (s : State) : Option Nat := s.net.ringFigs.head?.bind RingFig.link

/-- The first calibration that is at link `k` moves to its next link; an engine whose eight links are done is calibrated, and the
figure ends with outcome 0 when none is left (10 R358). -/
def ringNext (k : Nat) (s : State) : State :=
  match s.net.ringFigs.find? fun r => r.link == some k with
  | none => s
  | some r =>
    let put (f : List RingFig) (s : State) : State :=
      { s with net := { s.net with ringFigs := s.net.ringFigs.flatMap fun x => if x == r then f else [x] } }
    if r.next < 7 then put [{ r with next := r.next + 1 }] s
    else
      let s := modEngine (r.engines.headD 0) (fun x => { x with calAge := opSec s }) s
      if r.engines.tail.isEmpty then
        (if r.urgent then put [] s else endFigure r.entry 0 (put [] s))
      else put [{ r with engines := r.engines.tail, next := 0 }] s

/-- An engine may start: 64 µs or more remain before the figure's deadline, or the calibration is urgent (10 R358). -/
def ringMayStart (s : State) : Bool :=
  match s.net.ringFigs with
  | [] => false
  | r :: _ => r.urgent || r.next != 0 ||
    (match s.cal.figs.find? fun f => figTag f == r.entry with
     | some f => decide (now s + 64000 ≤ f.deadline)
     | none => true)

/-- The engine sends STATE hold with HOLD_US 6, in the slot of a frame of idle flits, and holds the link (10 R346, R358). -/
def announceHold (k : Nat) (s : State) : State :=
  let s := modLink k closeFrame s
  let (x, s) := beginFrame k (((linkOf k s).txNo + 1) % 65536) 1 6 s
  modLink k (fun l => holdLink s.clk.ticks { l with slot := x, cur := [idleFlit] }) s

/-- RING_CAL_LINK: the engine announces the hold of its next link and holds it for calibration; a link that carries no frames
needs no hold (10 R358). -/
def execRingCalLink (link : Nat) (s : State) : Host.Outcome State Fault Refusal :=
  run (fun s =>
    if ringLink s ≠ some link then s
    else if ringMayStart s = false then
      match s.net.ringFigs with
      | r :: rest => endFigure r.entry 0 { s with net := { s.net with ringFigs := rest } }
      | [] => s
    else if (linkOf link s).state = .up then announceHold link s
    else if (linkOf link s).state = .hold then s
    else ringNext link s) s

/-- HOLD_END: the link is up again and every unacknowledged frame is replayed (10 R358). -/
def execHoldEnd (link : Nat) (s : State) : Host.Outcome State Fault Refusal :=
  run (fun s =>
    if (linkOf link s).state ≠ .hold then s
    else ringNext link (modLink link (fun l => { replayAll l with state := .up, stateAt := s.clk.ticks }) s)) s

/-- HOLD_TIMEOUT: a hold longer than 8 µs, reason 8 (10 R357, R374). -/
def execHoldTimeout (link : Nat) (s : State) : Host.Outcome State Fault Refusal :=
  run (fun s =>
    if (linkOf link s).state ≠ .hold ∨ stateFor link 8001 s = false then s
    else ringNext link (linkDown link 8 s)) s

/-- The ring calibration in progress has begun on this engine: on a link past its first, or with its first link in a hold. -/
def ringBusy (engine : Nat) (s : State) : Bool :=
  match s.net.ringFigs with
  | r :: _ => r.engines.head? == some engine && (r.urgent || r.next != 0 || (linkOf (8 * engine) s).state == .hold)
  | [] => false

/-- RING_MAX_AGE_EXPIRE: an engine too long without a calibration is calibrated at once, before the engines of any figure, unless
its calibration has begun (10 R359). -/
def execRingMaxAgeExpire (engine : Nat) (s : State) : Host.Outcome State Fault Refusal :=
  run (fun s =>
    let urgent := s.net.ringFigs.any fun r => r.urgent && r.engines.contains engine
    if (engineOf engine s).calAge + rd Obj.RING_MAX_AGE s ≤ opSec s ∧ urgent = false ∧ ringBusy engine s = false ∧ engine < 8 then
      emit 0x3021 engine engine (bump Obj.URGENT_RING_CALS
        { s with net := { s.net with ringFigs := ⟨0, [engine], 0, true⟩ :: s.net.ringFigs } })
    else s) s

/-! ### Lasers and control (10 R360, R374, R376; 18 R576) -/

/-- The links of an engine. -/
def engineLinks (e : Nat) : List Nat := (List.range 8).map (8 * e + ·)

/-- LASER_BIAS_CHECK: a laser's bias in percent of its limit, and whether it holds launch power. Above 90% it is warned of
once; a laser that cannot hold launch power takes its links down with reason 6 to DARK (10 R360). -/
def execLaserBiasCheck (engine wavelength bias : Nat) (holds : Bool) (s : State) : Host.Outcome State Fault Refusal :=
  run (fun s =>
    let e := engineOf engine s
    let warn := decide (90 < bias) && !nth true e.warned wavelength
    let s := onlyIf warn (fun s =>
      emit 0x3022 engine (engine * 2 + wavelength) (modEngine engine (fun e => { e with warned := e.warned.set wavelength true }) s)) s
    let s := modEngine engine (fun e => { e with laserOk := e.laserOk.set wavelength holds }) s
    if holds then lightLinks s
    else forEach (engineLinks engine) (fun k s =>
      onlyIf ((linkOf k s).state != .lockedOut) (darken k 6) s) s) s

/-- LINK_CONTROL = 1: a locked-out link is released, and a dark one with light trains (10 R357, R376). -/
def linkEnabled (k : Nat) (s : State) : State :=
  let s := wr (Obj.LINK_CONTROL (k + 1)) 1 (saveDue [(Obj.LINK_CONTROL (k + 1)).key] s)
  let s := if (linkOf k s).state = .lockedOut then modLink k (fun l => { l with state := .dark, downTimes := [] }) s else s
  if (linkOf k s).state = .dark ∧ lightOk k s then startTraining k s else s

/-- LINK_CONTROL = 2: the link is reset, which is reported, and trains at once (18 R576). -/
def linkRetrained (k : Nat) (s : State) : State :=
  let s := darken k 7 (wr (Obj.LINK_CONTROL (k + 1)) 1 (emit 0x9603 0 (0x100 + k) (saveDue [(Obj.LINK_CONTROL (k + 1)).key] s)))
  if lightOk k s then startTraining k s else s

/-- A write of LINK_CONTROL of link `k` (10 R357, R374, R376; 18 R576). -/
def writeLinkControl (k v : Nat) (s : State) : Nat × State :=
  match v with
  | 0 => (0, darken k 7 (wr (Obj.LINK_CONTROL (k + 1)) 0 (saveDue [(Obj.LINK_CONTROL (k + 1)).key] s)))
  | 1 => (0, linkEnabled k s)
  | 2 => (0, linkRetrained k s)
  | _ => (0x02000001, s)

/-- LINK_DISABLE: LINK_CONTROL = 0 (10 R374). -/
def execLinkDisable (w : Writer) (link : Nat) (s : State) : Host.Outcome State Fault Refusal :=
  run (command w 0x8002 (link + 1) 0 (writeLinkControl link 0)) s

/-- LINK_ENABLE: LINK_CONTROL = 1 (10 R376). -/
def execLinkEnable (w : Writer) (link : Nat) (s : State) : Host.Outcome State Fault Refusal :=
  run (command w 0x8002 (link + 1) 1 (writeLinkControl link 1)) s

/-- LINK_RETRAIN: LINK_CONTROL = 2 resets one link and retrains it at once (18 R576). -/
def execLinkRetrain (w : Writer) (link : Nat) (s : State) : Host.Outcome State Fault Refusal :=
  run (command w 0x8002 (link + 1) 2 (writeLinkControl link 2)) s

/-! ### Asymmetry (10 R371) -/

/-- A write of ASYM_CAL for the selected link: this end must be LOCKED from another source (10 R371). -/
def writeAsymCal (w : Writer) (v : Nat) (s : State) : Nat × State :=
  let k := selectorOf w.via 0x8005 s
  if v ≠ 1 then (0x02000002, s)
  else if s.tim.servo ≠ .locked ∨ (rd Obj.TIME_MODE s = 0 ∧ rd Obj.PTP_LINK s = k) ∨ linkLive k s = false then (0x03000004, s)
  else (0, modLink k (fun l => { l with asymCal := true, asymAt := s.clk.ticks }) s)

/-- ASYM_CAL: a 64 s calibration of the selected link begins (10 R371). -/
def execAsymCal (w : Writer) (s : State) : Host.Outcome State Fault Refusal :=
  run (command w 0x8005 13 1 (writeAsymCal w 1)) s

/-- ASYM_CAL_END: the asymmetry measured over 64 s is stored, or the calibration fails because the far end left LOCKED; where this
end left it, the calibration has already failed (10 R371). -/
def execAsymCalEnd (link : Nat) (bothLocked : Bool) (asym : BitVec 32) (s : State) : Host.Outcome State Fault Refusal :=
  run (fun s =>
    if (linkOf link s).asymCal = false then s
    else
      let full := (linkOf link s).asymAt + 64000000000 ≤ s.clk.ticks
      if bothLocked ∧ s.tim.servo = .locked then
        if ¬ full then s
        else
        let s := modLink link (fun l => { l with asymCal := false }) s
        saveDue [(Obj.ASYM_VALID link).key, (Obj.LINK_ASYM link).key] (wr (Obj.ASYM_VALID link) 1 (wr (Obj.LINK_ASYM link) asym.toNat s))
      else asymFails link s) s

end Sys2Proof.Machine
end

