-- ==== Sys2Proof/Machine/XferBase.lean ====
section
/-! DEFINITION. Opening and sending routed transfers, and the partner's links (10 R366, R367; 21 R631). -/

namespace Sys2Proof.Machine

open Sys2Proof

/-- The links that carry partner traffic: those of PARTNER_LINKS that reach the partner (21 R631). -/
def partnerLinks (s : State) : List Nat :=
  (bitList 64 (rd Obj.PARTNER_LINKS s)).filter fun k => linkReady k s && (linkOf k s).farNode == partnerNode s

/-- A flit to a node: partner traffic is striped over the partner links in sector order, or travels as an ordinary routed
flit when none reaches the partner (09 R313; 21 R631). An unassigned module sends no such flit (10 R361). -/
def sendTo (f : Flit) (s : State) : State :=
  match partnerLinks s with
  | [] => originate f s
  | ls => if f.dest = partnerNode s ∧ running 4 s ∧ nodeId s ≠ 0 then queueFlit (nth 0 ls (f.foff % ls.length)) f s else originate f s

/-- Sector 0 of a DESC (10 R366). -/
def descBits (op tensor key elemBase start len step : Nat) : Nat :=
  op % 256 * 2 ^ 248 + tensor % 2 ^ 24 * 2 ^ 224 + key % 2 ^ 24 * 2 ^ 200 + elemBase % 2 ^ 40 * 2 ^ 160 +
  start % 2 ^ 36 * 2 ^ 124 + len % 2 ^ 36 * 2 ^ 88 + step % 2 ^ 64 * 2 ^ 24

/-- OP of a DESC. -/
def descOp (d : Nat) : Nat := fld d 255 248

/-- TENSOR of a DESC. -/
def descTensor (d : Nat) : Nat := fld d 247 224

/-- KEY of a DESC. -/
def descKey (d : Nat) : Nat := fld d 223 200

/-- ELEM_BASE of a DESC. -/
def descElem (d : Nat) : Nat := fld d 199 160

/-- START of a DESC. -/
def descStart (d : Nat) : Nat := fld d 159 124

/-- LENGTH of a DESC. -/
def descLen (d : Nat) : Nat := fld d 123 88

/-- A transfer is opened toward a node by a DESC (10 R366 step 1). `tensor` is the local tensor it sends. -/
def openTransfer (dest desc : Nat) (extra : List Nat) (tensor set part : Nat) (s : State) : State :=
  let no := s.net.xferNo
  let x : Xfer := { Xfer.init with
    peer := dest, no := no, desc := BitVec.ofNat 256 desc, extra := extra.map dataSector, tensor := tensor, set_ := set,
    part := part }
  let s := { s with net := { s.net with xferNo := (no + 1) % 65536, txX := s.net.txX ++ [x] } }
  sendTo (mkFlit 1 1 dest (nodeId s) no 0 ((desc :: extra).map dataSector)) s

/-- A transfer from this module changed by `f`. -/
def modTx (no : Nat) (f : Xfer → Xfer) (s : State) : State :=
  { s with net := { s.net with txX := mapIf (fun x => x.no == no) f s.net.txX } }

/-- A transfer from this module is over. -/
def dropTx (no : Nat) (s : State) : State :=
  { s with net := { s.net with txX := s.net.txX.filter fun x => x.no != no } }

/-- The DATA flits of a transfer from `next` on, each sector read and corrected; an uncorrectable sector stops the transfer
(10 R366 steps 3 and 4; 14 R497). -/
def sendData (x : Xfer) (home : Nat) : Nat → Nat → State → State
  | 0, _, s => s
  | n + 1, foff, s =>
    let d := x.desc.toNat
    let k := min 8 (descLen d - 8 * foff)
    match readSectors (home + descStart d + 8 * foff) k s with
    | (none, s) => dropTx x.no s
    | (some bs, s) =>
      let xs := (chunks 32 bs).map fun c => dataSector (ofLeBytes c)
      let s := sendTo (mkFlit 1 2 x.peer (nodeId s) x.no foff xs) s
      sendData x home n (foff + 1) (modTx x.no (fun x => { x with next := foff + 1 }) s)

/-- The sectors that a transfer's opening has sent: those of its tensor and, for a landing, of every one on the Promenade. -/
def sendRanges (x : Xfer) (s : State) : List (Nat × Nat) :=
  (x.tensor :: (if descOp x.desc.toNat = 1 then s.trn.promenade.map (·.2) else [])).map fun t =>
    let e := tensorOf t s; (e.home, e.size)

/-- What a transfer sends has to be waited for: an update step, a retrain hold or a refresh holds some of its sectors (07 R239,
R242; 08 R290). -/
def sendHeld (x : Xfer) (s : State) : Bool := (sendRanges x s).any fun r => rangeHeld r.1 r.2 s

/-- Every DATA flit of a transfer of a resident tensor. -/
def sendAll (x : Xfer) (s : State) : State :=
  sendData x (tensorOf x.tensor s).home (ceilDiv (descLen x.desc.toNat) 8) 0 s

/-- The landings at the head of the Promenade whose transfers are opened are sent, in the order in which their reduce-scatters
completed (09 R313). -/
def promenadeGo : Nat → State → State
  | 0, s => s
  | n + 1, s =>
    match s.trn.promenade with
    | [] => s
    | (set, t) :: rest =>
      match s.net.txX.find? fun x => descOp x.desc.toNat == 1 && x.set_ == set && x.tensor == t with
      | none => promenadeGo n { s with trn := { s.trn with promenade := rest } }
      | some x =>
        if x.opened ∧ x.next = 0 then promenadeGo n (sendAll x { s with trn := { s.trn with promenade := rest } }) else s

/-- A landing joins the Promenade and its transfer is opened (09 R313). -/
def promenadeAdd (set : Nat) (s : State) : State :=
  let e := setEntry set s
  let s := { s with trn := { s.trn with promenade := s.trn.promenade ++ [(set, e.landing)] } }
  openTransfer (partnerNode s) (descBits 1 0 e.keyT e.elemBase 0 (tensorOf e.landing s).size (openStep s)) [] e.landing set 0 s

/-! ### Restores and seedings from here (09 R326, R327) -/

/-- The extra sectors of a restore or seeding transfer: the set record and PART (10 R367). -/
def restoreExtra (n part committed : Nat) (s : State) : List Nat :=
  let r := recBitsOf n s
  [r / 2 ^ 256, r % 2 ^ 256, part * 2 ^ 254 + committed % 2 ^ 64 * 2 ^ 128]

/-- The transfers that carry one set: STATE and MASTER, and for a restore the landing (09 R326 step 4, R327). -/
def donateSet (op n : Nat) (s : State) : State :=
  let e := setEntry n s
  let parts := [(0, e.stateT), (1, e.masterT)] ++ (if op = 2 then [(2, e.landing)] else [])
  forEach parts (fun (p, t) s =>
    openTransfer (partnerNode s) (descBits op 0 e.keyT e.elemBase 0 (tensorOf t s).size (recOf n s).step)
      (restoreExtra n p 0 s) t n p s) s

/-- RESTORE_STATE and the run it describes. -/
def setRestore (state : Nat) (r : Option RestoreRun) (s : State) : State :=
  wr Obj.RESTORE_STATE state { s with trn := { s.trn with restore := r } }

/-- A restore or seeding goes on: sets that have been reapplied are sent; once every transfer of a restore has completed
COMMITTED follows, and a seeding is complete (09 R326 steps 3, 4 and 6, R327). -/
def restoreGo (s : State) : State :=
  match s.trn.restore with
  | none => s
  | some r =>
    if r.kind ≠ 1 ∧ r.kind ≠ 3 then s
    else
      let op := if r.kind = 1 then 2 else 3
      let ready := r.waitApply.filter fun n => appliedNow n s
      let rest := r.waitApply.filter fun n => !appliedNow n s
      let go := r.sets ++ ready
      let r := { r with sets := [], waitApply := rest }
      let s := forEach go (donateSet op) { s with trn := { s.trn with restore := some r } }
      if rest.isEmpty = false ∨ (s.net.txX.any fun x => descOp x.desc.toNat == 2 || descOp x.desc.toNat == 3) then s
      else if r.kind = 1 ∧ r.got.isEmpty then
        openTransfer (partnerNode s) (descBits 2 0 0 0 0 0 0) [0, 0, 3 * 2 ^ 254 + committedStep s % 2 ^ 64 * 2 ^ 128] 0 0 3
          { s with trn := { s.trn with restore := some { r with got := [1] } } }
      else emit 0x800A 0 (committedStep s) (setRestore 3 none s)

end Sys2Proof.Machine
end

