-- ==== Sys2Proof/Machine/CollBase.lean ====
section
/-! DEFINITION. The collective engine: plans, units, contributions, partial sums, records and the gather of final units
(11 R378 to R416). -/

namespace Sys2Proof.Machine

open Sys2Proof

/-! ### Plans (11 R382, R383) -/

/-- A link field of a stage entry: bit 6 valid, [5:0] the link. -/
def linkField (x h l : Nat) : Option Nat :=
  let f := fld x h l
  if bitOf f 6 then some (f % 64) else none

/-- KIND of a stage entry. -/
def stKind (x : Nat) : Nat := fld x 255 252

/-- N. -/
def stN (x : Nat) : Nat := fld x 251 240

/-- POS. -/
def stPos (x : Nat) : Nat := fld x 239 228

/-- SEND. -/
def stSend (x : Nat) : Option Nat := linkField x 227 221

/-- SEND_SPARE. -/
def stSendSpare (x : Nat) : Option Nat := linkField x 220 214

/-- RECV. -/
def stRecv (x : Nat) : Option Nat := linkField x 213 207

/-- RECV_SPARE. -/
def stRecvSpare (x : Nat) : Option Nat := linkField x 206 200

/-- CHILD0 to CHILD3. -/
def stChildren (x : Nat) : List (Option Nat) :=
  [linkField x 199 193, linkField x 192 186, linkField x 185 179, linkField x 178 172]

/-- FIRST. -/
def stFirst (x : Nat) : Nat := fld x 171 140

/-- COUNT. -/
def stCount (x : Nat) : Nat := fld x 139 108

/-- Plan slot `p` as it stands (11 R381). -/
def planOf (p : Nat) (s : State) : List (BitVec 256) :=
  (List.range 16).map fun k => BitVec.ofNat 256 (join4 fun i => rd (Obj.PLAN_WORD (2 + 4 * k + i) p) s)

/-- P of a plan. -/
def collP (c : Coll) : Nat := fld (planHdr c) 245 214

/-- READY_FLAG. -/
def collFlag (c : Coll) : Nat := fld (planHdr c) 161 154

/-- Reduce stages of a plan: half of the stages for an OP that reduces, none otherwise (11 R384). -/
def reduceStages (c : Coll) : Nat := if collReduces c then collStages c / 2 else 0

/-- The collective of a TAG. -/
def slotOf (tag : Nat) (s : State) : Option Coll := s.col.slots.find? fun c => c.tag == tag

/-- That collective changed by `f`. -/
def modColl (tag : Nat) (f : Coll → Coll) (s : State) : State :=
  { s with col := { s.col with slots := mapIf (fun c => c.tag == tag) f s.col.slots } }

/-! ### Units, shards and who contributes (11 R384) -/

/-- Units of a round for each plan unit: round 1 of a DIGEST figure gathers the block digests of every tensor whose digests
differ, and a plan unit stands for as many of them as the largest such tensor has digest blocks (09 R331 step 3; log entry
35). -/
def unitScale (c : Coll) (round : Nat) : Nat :=
  if c.kind = 6 ∧ 0 < round then (c.redo.map (·.2)).foldl max 1 else 1

/-- The first unit of shard `k` of a stage. -/
def shardFirst (x k : Nat) : Nat := stFirst x + k * stCount x / max 1 (stN x)

/-- A stage divides its range among the members of a ring. -/
def isRing (x : Nat) : Bool := stKind x == 1 || stKind x == 2

/-- The range of units, in round-0 numbering, that a member holds as its own at a stage: its shard of a ring, or the whole
range of a tree (11 R384). -/
def ownRange (x : Nat) : Nat × Nat :=
  if isRing x then (shardFirst x (stPos x), shardFirst x (stPos x + 1)) else (stFirst x, stFirst x + stCount x)

/-- The shard a unit lies in. -/
def shardOf (x u : Nat) : Nat :=
  ((List.range (stN x)).find? fun k => decide (shardFirst x k ≤ u ∧ u < shardFirst x (k + 1))).getD 0

/-- The first stage at which the member is below the root of a TREE_UP (11 R384). -/
def belowAt (c : Coll) : Option Nat :=
  (List.range (reduceStages c)).find? fun i => stKind (stageBits c i) == 3 && (stSend (stageBits c i)).isSome

/-- The member runs a stage: those above a TREE_UP that it leaves are passed over, with their mates (11 R384). -/
def runsStage (c : Coll) (i : Nat) : Bool :=
  match belowAt c with
  | none => true
  | some d => decide (i ≤ d) || decide (collStages c - 1 - d ≤ i)

/-- Units of a round: all of stage 0's range, or the blocks to redo; in round 1 of a DIGEST figure those of the plan units whose
round-0 record names a tensor that differs (11 R402; 09 R331). -/
def roundUnits (c : Coll) : List Nat :=
  let x := stageBits c 0
  if c.round = 0 then (List.range (stCount x)).map (stFirst x + ·)
  else if c.kind = 6 then
    let k := unitScale c c.round
    (c.finals.filter fun u => u.round == 0 && c.redo.any fun p => p.1 == fld (ofLeBytes u.bytes) 127 104).flatMap fun u =>
      (List.range k).map (u.idx * k + ·)
  else c.redo.map (·.1)

/-- A unit takes part in the round. -/
def unitActive (c : Coll) (u : Nat) : Bool :=
  if c.round = 0 then true
  else if c.kind = 6 then (roundUnits c).contains u
  else c.redo.any fun p => p.1 == u

/-- The units of a member's own range at a stage that take part in the round. -/
def ownUnits (c : Coll) (i : Nat) : List Nat :=
  let (a, b) := ownRange (stageBits c i)
  let k := unitScale c c.round
  ((List.range (b * k - a * k)).map (a * k + ·)).filter (unitActive c)

/-- The contributors a unit waits for at a reduce stage: 5 this member, 4 the ring predecessor, 0 to 3 the children. -/
def needs (x u : Nat) : List Nat :=
  if stKind x = 1 then
    (if stPos x = (shardOf x u + 1) % max 1 (stN x) then [5] else [4, 5])
  else ((List.range 4).filter fun j => (nth none (stChildren x) j).isSome) ++ [5]

/-- The unit's result is formed here and not passed on. -/
def resultHere (x u : Nat) : Bool :=
  if stKind x = 1 then stPos x == shardOf x u else (stSend x).isNone

/-- Which neighbour of a stage a link comes from; none when the stage does not receive on it. -/
def neighbour (x k : Nat) : Option Nat :=
  if stKind x = 3 then (List.range 4).find? fun j => nth none (stChildren x) j == some k
  else if stRecv x = some k ∨ stRecvSpare x = some k then some 4 else none

/-! ### Flits (11 R392, R393) -/

/-- A VL0 flit. -/
def collFlit (kind tag stage round form block a0 a1 nsect : Nat) (mix0 mix1 : Bool) (xs : List Sector) : Flit :=
  ⟨withHcrc (kind * 2 ^ 120 + tag % 2 ^ 13 * 2 ^ 107 + stage % 16 * 2 ^ 103 + round % 32 * 2 ^ 98 + form % 4 * 2 ^ 96 +
    block % 2 ^ 32 * 2 ^ 64 + a0 % 256 * 2 ^ 56 + a1 % 256 * 2 ^ 48 + (nsect - 1) % 8 * 2 ^ 45 + b2n mix0 * 2 ^ 44 +
    b2n mix1 * 2 ^ 43), xs⟩

/-- STAGE. -/
def flitStage (f : Flit) : Nat := fld f.hdr.toNat 106 103

/-- ROUND. -/
def flitRound (f : Flit) : Nat := fld f.hdr.toNat 102 98

/-- FORM. -/
def flitForm (f : Flit) : Nat := fld f.hdr.toNat 97 96

/-- BLOCK. -/
def flitBlock (f : Flit) : Nat := fld f.hdr.toNat 95 64

/-- The sectors a VL0 flit carries: by NSECT for PLAIN and RECORD, four for one narrow block, else all eight; the receiver ignores
any other (10 R347; 11 R392, R393). -/
def vl0Carried (f : Flit) : List Sector :=
  f.sectors.take (match f.kind with
    | 0x9 | 0xA => fld f.hdr.toNat 47 45 + 1
    | 8 => if flitForm f = 1 then 4 else 8
    | _ => 8)

/-- The data bytes of the sectors a VL0 flit carries; none when one arrives uncorrectable. -/
def flitBytes (f : Flit) : Option (List Byte) :=
  ((vl0Carried f).mapM fun x => match decodeSector x with
    | .ok d _ => some (leBytes 32 d.toNat)
    | .bad => none).map List.flatten

/-- 32 integers of `w` bits as bytes (03 R70, 11 R393). -/
def intsToBytes (w : Nat) (vs : List Int) : List Byte := vs.flatMap fun v => leBytes (w / 8) (ofSigned w v)

/-- Integers of `w` bits from bytes. -/
def bytesToInts (w : Nat) (bs : List Byte) : List Int := (chunks (w / 8) bs).map fun c => toSigned w (ofLeBytes c)

/-- A block is sent wide when an element lies outside 32 bits (11 R394). -/
def unitWide (u : Unit) : Bool := !u.vals.all fits32

/-- The REDUCE flits of a group of blocks: two neighbouring narrow blocks share a flit (11 R392 to R394). -/
def reduceFlits (tag stage round : Nat) : List Unit → List Flit
  | [] => []
  | [u] =>
    if unitWide u then [collFlit 8 tag stage round 2 u.idx u.exp 0 1 u.mix false (bytesToSectors (intsToBytes 64 u.vals))]
    else [collFlit 8 tag stage round 1 u.idx u.exp 0 1 u.mix false (bytesToSectors (intsToBytes 32 u.vals))]
  | u :: v :: rest =>
    if !unitWide u && !unitWide v && v.idx == u.idx + 1 then
      collFlit 8 tag stage round 0 u.idx u.exp v.exp 1 u.mix v.mix
        (bytesToSectors (intsToBytes 32 (u.vals ++ v.vals))) :: reduceFlits tag stage round rest
    else
      (if unitWide u then [collFlit 8 tag stage round 2 u.idx u.exp 0 1 u.mix false (bytesToSectors (intsToBytes 64 u.vals))]
       else [collFlit 8 tag stage round 1 u.idx u.exp 0 1 u.mix false (bytesToSectors (intsToBytes 32 u.vals))]) ++
      reduceFlits tag stage round (v :: rest)

/-- The flits of a group of units: REDUCE for blocks, COMBINE for exact values and MAX bytes, PLAIN for sectors. -/
def groupFlits (c : Coll) (stage : Nat) (us : List Unit) : List Flit :=
  let first := match us with
    | u :: _ => u.idx
    | [] => 0
  match collOp c with
  | 1 | 3 => reduceFlits c.tag stage c.round us
  | 5 => [collFlit 0xB c.tag stage c.round 0 first 0 0 1 false false (bytesToSectors
      ((us.flatMap fun u => leBytes 80 (accBits u.acc)) ++ List.replicate (256 - 80 * us.length) 0))]
  | 6 => [collFlit 0xB c.tag stage c.round 0 first 0 0 1 false false (bytesToSectors
      ((us.flatMap (·.bytes)) ++ List.replicate (256 - 32 * us.length) 0))]
  | _ => [collFlit 0xA c.tag stage c.round 0 first 0 0 us.length false false (bytesToSectors (us.flatMap (·.bytes)))]

/-- Units of one flit of an OP (11 R392, R393); block digests travel one to a flit (log entry 35). -/
def groupSize (c : Coll) : Nat :=
  if c.kind = 6 ∧ 0 < c.round then 1 else
  match collOp c with
  | 1 | 3 => 2
  | 5 => 3
  | _ => 8

/-- The units of one flit around `u`: aligned to the start of its shard, within the shard and the round. -/
def groupOf (c : Coll) (x u : Nat) : List Nat :=
  let k := unitScale c c.round
  let (a, b) := if isRing x then (shardFirst x (shardOf x (u / k)), shardFirst x (shardOf x (u / k) + 1))
    else (stFirst x, stFirst x + stCount x)
  let g := groupSize c
  let lo := a * k + (u - a * k) / g * g
  ((List.range (min g (b * k - lo))).map (lo + ·)).filter (unitActive c)

/-- A flit goes to a stage's neighbour over the link or, once its traffic has moved, over the spare; a stopped stage sends
nothing (11 R414, R415). -/
def stageOut (c : Coll) (i : Nat) (prim spare : Option Nat) (f : Flit) (s : State) : State :=
  if c.stuck.contains i then s
  else match prim with
    | none => s
    | some k =>
      if c.spareUsed.contains k then match spare with
        | some j => if linkReady j s then queueFlit j f s else s
        | none => s
      else if linkReady k s then queueFlit k f s else s

/-- A flit goes down a stage: to the ring's next position, to the parent, or to every child. -/
def stageSend (c : Coll) (i : Nat) (f : Flit) (s : State) : State :=
  let x := stageBits c i
  let s := onlyIf (flitForm f == 2 && f.kind == 8) (bump Obj.WIDE_FLITS) s
  if stKind x = 4 then forEach (stChildren x) (fun k => stageOut c i k none f) s
  else stageOut c i (stSend x) (stSendSpare x) f s

/-! ### Combining (11 R395, R405, R407) -/

/-- Two parts of a unit combined: blocks under 11 R395, exact values under R405, bytes under R407. -/
def combineUnit (op : Nat) (a b : Unit) : Unit :=
  let u := { a with from_ := a.from_ ++ b.from_ }
  match op with
  | 5 => { u with acc := accAdd a.acc b.acc }
  | 6 => { u with bytes := List.zipWith (fun x y => if x < y then y else x) a.bytes b.bytes }
  | _ =>
    let zero := List.replicate 32 (0 : Int)
    if a.exp = 255 ∨ b.exp = 255 then { u with exp := 255, mix := a.mix || b.mix, vals := zero }
    else if a.mix ∨ b.mix ∨ a.exp ≠ b.exp then { u with exp := max a.exp b.exp, mix := true, vals := zero }
    else { u with vals := List.zipWith (· + ·) a.vals b.vals }

/-! ### Final units (11 R400, R403) -/

/-- The VALUE of a done block (11 R403). -/
def doneValue (u : Unit) : Nat :=
  let m := u.vals.foldl (fun m v => max m v.natAbs) 0
  if m = 0 then 0
  else
    let h : Int := (u.exp : Int) - 30 + Nat.log2 m
    if h < 1 then 1 else if 254 < h then 254 else h.toNat

/-- The status record of a final block (11 R400, R401). -/
def recordOf (u : Unit) : Nat :=
  if u.exp = 255 then 2 * 2 ^ 14 + 255
  else if u.mix then 2 ^ 14 + u.exp
  else if u.vals.all fits32 then doneValue u
  else if 254 < u.exp + 8 then 2 * 2 ^ 14 + 255 else 2 ^ 14 + (u.exp + 8)

/-- STATUS of a record: 0 done, 1 redo, 2 NaN. -/
def recStatus (r : Nat) : Nat := fld r 15 14

/-- VALUE of a record. -/
def recValue (r : Nat) : Nat := r % 256

/-- The first block of the member's result: its shard's first block for REDUCE_SCATTER, 0 otherwise (11 R384). -/
def destBase (c : Coll) : Nat :=
  if collOp c = 1 ∧ 0 < reduceStages c then (ownRange (stageBits c (reduceStages c - 1))).1 else 0

/-- Bytes read by the engine from a device address; none at an uncorrectable sector. -/
def readBytesAt (a n : Nat) (s : State) : Option (List Byte) × State :=
  let first := a / 32
  match readSectors first ((a + n - 1) / 32 + 1 - first) s with
  | (none, s) => (none, s)
  | (some bs, s) => (some ((bs.drop (a % 32)).take n), s)

/-- Block `b` of a landing tensor can be read: none of its sectors, data or side, is uncorrectable (08 R299; 06 R206). One whose
sectors are held has not been written yet, and is taken as it lands. -/
def blockReadable (d : DirEntry) (b : Nat) (s : State) : Bool × State :=
  if rangeHeld (d.home + 4 * b) 4 s ∨ accessHeld (sideAddr d b / 32) s then (true, s)
  else match readBytesAt (dataAddr d + 128 * b) 128 s with
    | (none, s) => (false, s)
    | (some _, s) => match readBytesAt (sideAddr d b) 1 s with
      | (none, s) => (false, s)
      | (some _, s) => (true, s)

/-- The clip group accumulator takes in a landed block `b` of the tensor `dest`; one that cannot be read makes it NaN
(08 R299). -/
def clipBlock (dest b : Nat) (u : Unit) (s : State) : State :=
  match (validSets s).find? fun n => let e := setEntry n s; e.landing == dest && !e.mirror && e.clip with
  | none => s
  | some n =>
    let g := (setEntry n s).clipGroup
    let (ok, s) := blockReadable (tensorOf dest s) b s
    let a := nth Acc.zero s.upd.clipAcc g
    let a := if u.exp = 255 ∨ ok = false then .nan
      else u.vals.foldl (fun a v => accAdd a (accOf (FVal.ofInt (v * v) (2 * (u.exp : Int) - 314)))) a
    { s with upd := { s.upd with clipAcc := s.upd.clipAcc.set g a } }

/-- A final unit is drained into the destination: a carry block with its exponent byte, an exact value, or a sector, each sector
held where an update step or a retrain holds it (11 R397, R403; 06 R207; 08 R291). -/
def landUnit (c : Coll) (u : Unit) (s : State) : State :=
  let t := collDest c
  let d := tensorOf t s
  match collOp c with
  | 1 | 3 =>
    let b := u.idx - destBase c
    let xs := bytesToSectors (intsToBytes 32 u.vals)
    let s := forEach (List.range 4) (fun i s =>
      if 4 * b + i < d.data then engineWrite (d.home + 4 * b + i) (nth ⟨0, 0⟩ xs i) (2 ^ 32 - 1) none s else s) s
    let s := engineBytes (sideAddr d b) [BitVec.ofNat 8 u.exp] s
    let s := onlyIf (collOp c == 1) (clipBlock t b u) s
    markWritten t s
  | 5 => markWritten t (engineBytes (dataAddr d + 80 * u.idx) (leBytes 80 (accBits u.acc)) s)
  | _ => markWritten t (engineWrite (d.home + u.idx) (dataSector (ofLeBytes u.bytes)) (2 ^ 32 - 1) none s)

/-- A final unit is held for the gather and, where the collective has a destination, landed. A BOW keeps its sums and a DIGEST
its records (11 R397, R406; 09 R331). -/
def holdFinal (tag : Nat) (u : Unit) (s : State) : State :=
  match slotOf tag s with
  | none => s
  | some c =>
    let s := modColl tag (fun c => { c with finals := c.finals ++ [u] }) s
    if c.kind = 0 then landUnit c u s else s

/-- A block's final value reaches its owner at the last reduce stage of a round: its status is recorded, and a done or NaN
block is landed (11 R400, R402). -/
def finishUnit (tag : Nat) (u : Unit) (s : State) : State :=
  match slotOf tag s with
  | none => s
  | some c =>
    if collOp c = 5 ∨ collOp c = 6 then holdFinal tag { u with stage := 0, from_ := [] } s
    else
      let r := recordOf u
      let s := modColl tag (fun c => { c with
        records := c.records ++ [(u.idx, BitVec.ofNat 16 r)], realigned := c.realigned || u.mix }) s
      match recStatus r with
      | 1 => if u.mix then bump Obj.REALIGNED_BLOCKS s else bump Obj.CARRY_REDOS s
      | 2 => holdFinal tag { u with exp := 255, mix := false, vals := List.replicate 32 0, stage := 0, round := 0, from_ := [] } s
      | _ => holdFinal tag { u with stage := 0, round := 0, from_ := [] } s

/-! ### Partial sums on their way (11 R384, R394 to R397) -/

/-- The unit held at a stage and round. -/
def partialAt (c : Coll) (stage round u : Nat) : Option Unit :=
  c.partials.find? fun p => p.stage == stage && p.round == round && p.idx == u

/-- Partials without one unit. -/
def dropPartials (stage round : Nat) (us : List Nat) (c : Coll) : Coll :=
  { c with partials := c.partials.filter fun p => !(p.stage == stage && p.round == round && us.contains p.idx) }

/-- Every contributor of a unit has been folded in. -/
def unitFull (c : Coll) (stage round u : Nat) : Bool :=
  match partialAt c stage round u with
  | none => false
  | some p => (needs (stageBits c stage) (u / unitScale c round)).all p.from_.contains

/-- A part of a unit arrives at reduce stage `v.stage` and is folded in. A unit with every contributor is passed on with the
units of its flit, enters the next reduce stage, or is final. The fuel bounds the stages. -/
def foldUnit : Nat → Nat → Unit → State → State
  | 0, _, _, s => s
  | n + 1, tag, v, s =>
    match slotOf tag s with
    | none => s
    | some c =>
      let i := v.stage
      let u := match partialAt c i v.round v.idx with
        | some p => combineUnit (collOp c) p v
        | none => v
      let c := { dropPartials i v.round [v.idx] c with stage := max c.stage i }
      let c := { c with partials := c.partials ++ [u] }
      let s := modColl tag (fun _ => c) s
      if unitFull c i v.round v.idx = false then s
      else if resultHere (stageBits c i) v.idx then
        let s := modColl tag (dropPartials i v.round [v.idx]) s
        if i + 1 < reduceStages c then foldUnit n tag { u with stage := i + 1, from_ := [5] } s
        else finishUnit tag u s
      else
        let g := groupOf c (stageBits c i) v.idx
        if v.round = c.round ∧ g.all (unitFull c i v.round) then
          let us := g.filterMap (partialAt c i v.round)
          let s := modColl tag (dropPartials i v.round g) s
          forEach (groupFlits c i us) (stageSend c i) s
        else s

/-! ### Gathering (11 R384, R401) -/

/-- Every record of the round is held (11 R402). -/
def recordsDone (c : Coll) : Bool :=
  (collOp c == 1 || collOp c == 3) && (roundUnits c).all fun u => c.records.any fun r => r.1 == u

/-- Some record of the round says redo. -/
def redoAny (c : Coll) : Bool := c.records.any fun r => recStatus r.2.toNat == 1

/-- The RECORD flits of a list of blocks: dense in round 0, entries of 8 bytes later; the last entry fills the rest of its
sector (11 R401; log entry 33). -/
def recordFlits (c : Coll) (stage : Nat) (us : List Nat) : List Flit :=
  let rec' (u : Nat) : Nat := match c.records.find? fun r => r.1 == u with
    | some r => r.2.toNat
    | none => 0
  if c.round = 0 then
    (chunks 128 us).map fun g =>
      let bs := g.flatMap fun u => leBytes 2 (rec' u)
      let n := ceilDiv bs.length 32
      collFlit 9 c.tag stage 0 0 (nth 0 g 0) 0 0 n false false
        (bytesToSectors (bs ++ List.replicate (32 * n - bs.length) 0))
  else
    (chunks 32 us).map fun g =>
      let n := ceilDiv g.length 4
      let last := nth 0 g (g.length - 1)
      let g' := g ++ List.replicate (4 * n - g.length) last
      collFlit 9 c.tag stage c.round 0 (nth 0 g 0) 0 0 n false false
        (bytesToSectors (g'.flatMap fun u => leBytes 8 (u * 2 ^ 32 + rec' u)))

/-- The final unit held for a round. -/
def finalAt (c : Coll) (u : Nat) : Option Unit :=
  c.finals.find? fun p => p.idx == u && (c.kind != 6 || p.round == c.round)

/-- A gather stage passes something on to another member. -/
def passesOn (x : Nat) : Bool :=
  if stKind x = 2 then decide (1 < stN x) else (stChildren x).any Option.isSome

/-- This member starts the stage's traffic: a ring member always, a tree's root only. -/
def startsStage (x : Nat) : Bool := stKind x == 2 || (stRecv x).isNone

/-- The units of a flit group as lists of at most the group's size, from the start of the range. -/
def groups (c : Coll) (x : Nat) (us : List Nat) : List (List Nat) := (us.map (groupOf c x)).dedup

/-- The member's own shard of a gather stage is sent once it holds all of it: the records of the round, or the final units
(11 R384, R401, R403). -/
def pumpStage (tag i : Nat) (s : State) : State :=
  match slotOf tag s with
  | none => s
  | some c =>
    let x := stageBits c i
    if runsStage c i = false ∨ startsStage x = false ∨ passesOn x = false ∨ i < reduceStages c then s
    else
      let us := ownUnits c i
      let s := if (collOp c = 1 ∨ collOp c = 3) ∧ c.sentOwn.contains (2 * i) = false ∧
          us.all (fun u => c.records.any fun r => r.1 == u) then
          forEach (recordFlits c i us) (stageSend c i)
            (modColl tag (fun c => { c with sentOwn := c.sentOwn ++ [2 * i] }) s)
        else s
      let sendFinals : Bool := match collOp c with
        | 1 => false
        | 3 => recordsDone c && !redoAny c
        | _ => true
      let all := if collOp c = 3 then
          (let (a, b) := ownRange x; (List.range (b - a)).map (a + ·))
        else us
      if sendFinals = true ∧ c.sentOwn.contains (2 * i + 1) = false ∧ all.all (fun u => (finalAt c u).isSome) then
        let c0 := { c with redo := if collOp c = 3 then all.map fun u => (u, 0) else c.redo }
        forEach (groups c0 x all) (fun g => forEach (groupFlits c i (g.filterMap (finalAt c))) (stageSend c i))
          (modColl tag (fun c => { c with sentOwn := c.sentOwn ++ [2 * i + 1], stage := max c.stage i }) s)
      else s

/-- Every gather stage sends what it can. -/
def pump (tag : Nat) (s : State) : State :=
  match slotOf tag s with
  | none => s
  | some c => forEach (List.range (collStages c)) (pumpStage tag) s

/-! ### Contributions (11 R380, R391, R402) -/

/-- The least multiple of 8 that shifts every element of a wide-carry block inside [-2^38, 2^38) (11 R380). -/
def wideShift (vs : List Int) : Nat → Nat → Nat
  | 0, k => k
  | n + 1, k => if vs.all fun v => decide (-(2 ^ 38 : Int) ≤ v / 2 ^ (8 * k) ∧ v / 2 ^ (8 * k) < 2 ^ 38) then k
    else wideShift vs n (k + 1)

/-- One source block as a contribution (11 R380). -/
def sourceBlock (t b : Nat) (s : State) : Option Unit × State :=
  let e := tensorOf t s
  let w := fmtWidth e.fmt
  match readBytesAt (dataAddr e + 4 * w * b) (4 * w) s with
  | (none, s) => (none, s)
  | (some bs, s) => match readBytesAt (sideAddr e b) 1 s with
    | (none, s) => (none, s)
    | (some xs, s) =>
      let a := ofLeBytes xs
      let vs := bytesToInts w bs
      if a = 255 then (some { Unit.init with exp := 255, vals := List.replicate 32 0 }, s)
      else
        let k := wideShift vs 4 0
        let s := onlyIf (decide (0 < k)) (emit 0x310A 0 t) s
        if 254 < a + 8 * k then (some { Unit.init with exp := 255, vals := List.replicate 32 0 }, s)
        else (some { Unit.init with exp := a + 8 * k, vals := vs.map fun v => v / 2 ^ (8 * k) }, s)

/-- A source block at a round's target exponent; one above the target enters unshifted (11 R402). -/
def atTarget (target : Option Nat) (u : Unit) : Unit :=
  match target with
  | none => u
  | some a => if u.exp = 255 ∨ a < u.exp then u
    else { u with exp := a, vals := u.vals.map fun v => v / 2 ^ (a - u.exp) }

/-- A source block's exponent lies above the round's target (11 R402). -/
def aboveTarget (target : Option Nat) (u : Unit) : Bool := target.any fun a => u.exp != 255 && decide (a < u.exp)

/-- The member's own contribution to unit `b`: its sources combined; `note` is what a block above its target leaves (11 R379, R380,
R395, R402). -/
def ownBlock (note : State → State) (ts : List Nat) (b : Nat) (target : Option Nat) (s : State) : Option Unit × State :=
  ts.foldl (fun (acc : Option Unit × State) t =>
    match sourceBlock t b acc.2 with
    | (none, s) => (none, s)
    | (some v, s) =>
      let s := onlyIf (aboveTarget target v) note s
      let v := atTarget target v
      match acc.1 with
      | none => (some v, s)
      | some u => (some (combineUnit 1 u v), s)) (none, s)

/-- The member's own contribution of a unit of a COLLECTIVE. -/
def ownUnit (c : Coll) (u : Nat) (s : State) : Option Unit × State :=
  match collOp c with
  | 1 | 3 => ownBlock (modColl c.tag fun c => { c with above := true }) (collSources c) u ((c.redo.find? fun p => p.1 == u).map (·.2)) s
  | 5 =>
    let e := tensorOf c.tensor s
    (match readBytesAt (dataAddr e + 80 * u) 80 s with
    | (none, s) => (none, s)
    | (some bs, s) => (some { Unit.init with acc := accOfBits (ofLeBytes bs) }, s))
  | _ =>
    let e := tensorOf c.tensor s
    (match readSectors (e.home + u) 1 s with
    | (none, s) => (none, s)
    | (some bs, s) => (some { Unit.init with bytes := bs }, s))

/-- The member's own contributions of the round enter stage 0; an uncorrectable source sector is a local fault (11 R402,
R410). -/
def contributeUnits (tag : Nat) : List Nat → State → State
  | [], s => s
  | u :: us, s =>
    match slotOf tag s with
    | none => s
    | some c =>
      match ownUnit c u s with
      | (none, s) => match slotOf tag s with
        | some c => localFault c s
        | none => s
      | (some v, s) =>
        contributeUnits tag us (foldUnit 16 tag { v with stage := 0, round := c.round, idx := u, from_ := [5] } s)

/-- The units of every stage's range. -/
def gatherUnits (c : Coll) : List Nat :=
  ((List.range (collStages c)).flatMap fun i =>
    let x := stageBits c i
    (List.range (stCount x)).map (stFirst x + ·)).dedup

/-- The shard a gathering collective starts with: its shard of the first ring, or a root's whole range (11 R384). -/
def firstHeld (c : Coll) : List Nat :=
  let x := stageBits c 0
  if stKind x = 2 then let (a, b) := ownRange x; (List.range (b - a)).map (a + ·)
  else if (List.range (collStages c)).all fun i => (stRecv (stageBits c i)).isNone then
    (List.range (stCount x)).map (stFirst x + ·)
  else []

/-- The sectors a gathering collective starts with are held, and landed where the destination differs (11 R379, R384). -/
def contributeSectors (tag : Nat) : List Nat → State → State
  | [], s => s
  | u :: us, s =>
    match slotOf tag s with
    | none => s
    | some c =>
      match ownUnit c u s with
      | (none, s) => match slotOf tag s with
        | some c => localFault c s
        | none => s
      | (some v, s) =>
        let v := { v with idx := u }
        let s := modColl tag (fun c => { c with finals := c.finals ++ [v] }) s
        let s := if collDest c = c.tensor then s else landUnit c v s
        contributeSectors tag us s

/-- The clip group whose tensor is `t`. -/
def clipGroupOf (t : Nat) (s : State) : Option Nat :=
  (List.range 4).find? fun g => t != 0 && rd (Obj.CLIP_TENSOR (g + 1)) s % 2 ^ 24 == t

/-- Some valid set clips in the group. -/
def clipUsed (g : Nat) (s : State) : Bool :=
  (validSets s).any fun n => let e := setEntry n s; e.clip && e.clipGroup == g

/-- The accumulator of a clip group is written into its clip tensor once every valid primary CLIP set of the group has landed, at
once where the group has mirror sets alone (08 R300). -/
def clipWrite (g : Nat) (s : State) : State :=
  let sets := (validSets s).filter fun n => let e := setEntry n s; e.clip && !e.mirror && e.clipGroup == g
  if sets.all s.upd.landed.contains ∧ clipUsed g s = true ∧ nth false s.upd.clipReady g = false then
    let t := rd (Obj.CLIP_TENSOR (g + 1)) s % 2 ^ 24
    let e := tensorOf t s
    let s := if e.state = 0 then s
      else markWritten t (engineBytes (dataAddr e) (leBytes 80 (accBits (nth Acc.zero s.upd.clipAcc g))) s)
    { s with upd := { s.upd with clipReady := s.upd.clipReady.set g true } }
  else s

/-- A COLLECTIVE's contributions are ready: READY_FLAG has reached its target, and a clip tensor has been written (11 R391;
08 R300). -/
def collReady (c : Coll) (s : State) : Bool :=
  let f := collFlag c
  (decide (64 ≤ f) || reached (coreFlag f s) c.target) &&
  (match (if collOp c = 5 then clipGroupOf c.tensor s else none) with
   | some g => !clipUsed g s || nth false s.upd.clipReady g
   | none => true)

/-- A waiting COLLECTIVE contributes as soon as it is ready, before its deadline and once nothing holds its sources (11 R391,
R400, R408; 08 R290). -/
def tryContribute (tag : Nat) (s : State) : State :=
  match slotOf tag s with
  | none => s
  | some c =>
    let s := match (if c.kind = 0 ∧ collOp c = 5 then clipGroupOf c.tensor s else none) with
      | some g => clipWrite g s
      | none => s
    let ranges := (collSources c).map fun t => let e := tensorOf t s; (e.home, e.size)
    if c.kind ≠ 0 ∨ c.phase ≠ .waiting ∨ c.deadline ≤ now s ∨ collReady c s = false ∨
        ranges.any (fun r => frozenAt 1 r.1 s || rangeHeld r.1 r.2 s) then s
    else afterSnoops false ranges (fun s =>
      let s := modColl tag (fun c => { c with phase := .running }) s
      pump tag (if collReduces c then contributeUnits tag (roundUnits c) s else contributeSectors tag (firstHeld c) s)) s

/-- Every waiting collective whose contributions have become ready contributes, in firing order. -/
def contributeReady (s : State) : State := forEach (s.col.slots.map (·.tag)) tryContribute s

/-! ### The Bow's contribution and the confirmation of a step (09 R317, R318, R323; 11 R406) -/

/-- A BOW contributes c0 and c1 (09 R318; 11 R406). -/
def contributeBow (tag : Nat) (c0 : Bool) (s : State) : State :=
  match slotOf tag s with
  | none => s
  | some c =>
    if c.kind ≠ 1 ∨ c.c0.isSome ∨ c.deadline ≤ now s then s
    else
      let first := stFirst (stageBits c 0)
      let put (i v : Nat) : State → State :=
        foldUnit 16 tag { Unit.init with idx := first + i, acc := .finite ((v : Int) * 2 ^ 300), from_ := [5] }
      let s := modColl tag (fun c => { c with c0 := some c0, phase := .running }) s
      pump tag (put 1 (openStep s) (put 0 (b2n c0) s))

/-- Every valid primary set is APPLIED with PARTNER_APPLIED for the open step (09 R317). -/
def stepConfirmed (s : State) : Bool :=
  (validSets s).all fun n =>
    (setEntry n s).mirror || (let r := recOf n s; r.step == openStep s && r.applied && r.partner)

/-- STEP_STATE becomes CONFIRMED and a waiting Bow contributes 1 (09 R317, R318). -/
def confirmed (s : State) : State :=
  let s := setStep (committedStep s) 1 s
  forEach ((s.col.slots.filter fun c => c.kind == 1).map (·.tag)) (fun t => contributeBow t true) s

/-- The module confirms its open step when every primary set is applied on both sides; with an uncorrectable header it cannot,
and finds it so with code 0x1713 (09 R317, R325). -/
def confirmStep (s : State) : State :=
  if rd Obj.STEP_STATE s ≠ 0 ∨ stepConfirmed s = false then s
  else match consumeClean stepBase s with
    | (none, s) => s
    | (some _, s) => confirmed s

end Sys2Proof.Machine
end

