-- ==== Sys2Proof/Machine/HostAccess.lean ====
section
/-! DEFINITION. Host reads and writes of the CXL.mem windows, once they reach the module (12 R426 to R432; 14 R492). -/

namespace Sys2Proof.Machine

open Sys2Proof

/-- What a CXL DPA names (12 R426). -/
inductive HostWindow where
  | tensor (addr : Nat) | system (addr : Nat) | floor (addr : Nat) | empty | outside
  deriving DecidableEq, Repr

/-- The window of a CXL DPA (12 R426). -/
def hostWindow (dpa : Nat) : HostWindow :=
  if dpa < 0x7FC0000000 then .tensor dpa
  else if dpa < 0x8000000000 then .system dpa
  else if dpa < 0x14000000000 then .tensor dpa
  else if dpa < 0x14004000000 then .floor (dpa - 0x14000000000 + 0x20000000000)
  else if dpa < 0x14010000000 then .empty
  else .outside

/-- The CXL DPA a host address maps to (12 R427). -/
def hostDpa (hpa : Nat) (s : State) : Option Nat :=
  (s.host.decoders.find? fun d => d.committed && decide (d.base ≤ hpa ∧ hpa < d.base + d.size)).map fun d =>
    d.dpa + (hpa - d.base)

/-- A line of read data goes back to the host. -/
def returnRead (dpa data : Nat) (s : State) : State :=
  { s with host := { s.host with reads := s.host.reads ++ [⟨dpa, BitVec.ofNat 512 data⟩] } }

/-- A bad line: code 0x6003 with the device address, UE_READS, a General Media event record (12 R431). -/
def badLine (dpa addr : Nat) (s : State) : State :=
  let s := emit 0x6003 0 addr (bump Obj.UE_READS s)
  { s with host := { s.host with media := s.host.media ++ [dpa] } }

/-- One sector of a host read: its data, and whether it was uncorrectable; `first` and `again` disturb the read and the
reread (12 R431; 06 R206). -/
def hostSector (n : Nat) (first again : BitVec 288) (s : State) : Nat × Bool × State :=
  if unitGone ((unitOf n).getD 0) s && (unitOf n).isSome then
    let (k, s) := drawFree s
    (ofLeBytes ((List.range 32).map (Config.freeByte k)), true, s)
  else
    let x := disturb (readOverlay n s) first
    match consume n first again s with
    | (some d, s) => (d.toNat, false, s)
    | (none, s) => (x.data.toNat, true, s)

/-- A host read that nothing holds (12 R426, R431). -/
def serveHostRead (dpa : Nat) (first again : BitVec 288) (s : State) : State :=
  let line (addr : Nat) (s : State) : State :=
    let (a, bad, s) := hostSector (addr / 32) first again s
    let (b, bad', s) := hostSector (addr / 32 + 1) 0 0 s
    returnRead dpa (a + b * 2 ^ 256) (onlyIf (bad || bad') (badLine dpa (if bad then addr else addr + 32)) s)
  match hostWindow dpa with
  | .tensor a => line a s
  | .system a => line a s
  | .floor a => line a s
  | .empty => returnRead dpa 0 (emit 0x6004 0 dpa s)
  | .outside => s

/-- The sector lies in the home of a tensor that is moving (06 R223). -/
def inMovingHome (n : Nat) (s : State) : Bool :=
  match ownerOf n s with
  | some t => (tensorOf t s).state == 2
  | none => false

/-- A host write that nothing holds: whole sectors with their code, parts as partials (12 R426, R428; 06 R195; 14 R492). One to
the home of a moving tensor leaves its sector undefined (06 R223). -/
def serveHostWrite (dpa : Nat) (data : BitVec 512) (mask : BitVec 64) (s : State) : State :=
  let half (n d m : Nat) (s : State) : State :=
    if m = 0 ∨ (unitGone ((unitOf n).getD 0) s && (unitOf n).isSome) = true then s
    else if inMovingHome n s then makeUndef (32 * n) 32 s
    else if m = 2 ^ 32 - 1 then fullWrite n (dataSector d) s
    else partialWrite n (overlay 0 d m) m none s
  let line (addr : Nat) (s : State) : State :=
    half (addr / 32 + 1) (data.toNat / 2 ^ 256) (mask.toNat / 2 ^ 32)
      (half (addr / 32) (data.toNat % 2 ^ 256) (mask.toNat % 2 ^ 32) s)
  if inSitout s then emit 0x6010 0 dpa s
  else match hostWindow dpa with
    | .tensor a => line a s
    | .floor a => line a s
    | .system a => emit 0x1609 0 a s
    | .empty => emit 0x6004 0 dpa s
    | .outside => s

/-- The sectors of a line of device memory that an update step, a retrain, a refresh or a frozen HOST class holds (07 R239, R242;
08 R290; 19 R596, R598). -/
def lineHeld (dpa : Nat) (s : State) : Bool :=
  match hostWindow dpa with
  | .tensor a | .system a | .floor a =>
    accessHeld (a / 32) s || accessHeld (a / 32 + 1) s || (frozenAt 6 (a / 32) s && !inSitout s)
  | _ => false

/-- A sector of a line lies in a granule of a running update step (08 R290). -/
def lineUpdated (dpa : Nat) (s : State) : Bool :=
  match hostWindow dpa with
  | .tensor a => heldByUpdate (a / 32) s || heldByUpdate (a / 32 + 1) s
  | _ => false

/-- How the host holds a line after an access: it joins, changes in or leaves the snoop filter (12 R429). -/
def trackLine (line cache : Nat) (s : State) : State :=
  let rest := s.host.snoop.filter fun p => p.1 != line
  let f := if cache = 0 then rest
    else if s.host.snoop.any fun p => p.1 == line then mapIf (fun p => p.1 == line) (fun p => (p.1, cache == 2)) s.host.snoop
    else rest ++ [(line, cache == 2)]
  { s with host := { s.host with snoop := f } }

/-- A host access runs. -/
def serveHost (a : HostAcc) (s : State) : State :=
  let s := trackLine (a.dpa / 64) a.cache s
  if a.write then serveHostWrite a.dpa a.data a.mask s else serveHostRead a.dpa 0 0 s

/-- Host accesses that nothing holds any more run in order of arrival (08 R290, R291; 12 R432). -/
def releaseHost (s : State) : State :=
  let go := s.host.waitAcc.filter fun a => !lineHeld a.dpa s
  let s := { s with host := { s.host with waitAcc := s.host.waitAcc.filter fun a => lineHeld a.dpa s } }
  forEach go serveHost s

/-- An update step or a retrain hold has ended: what it held goes on. -/
def releaseAccesses (noteUpdate : Bool) (s : State) : State := releaseHost (releaseHeld noteUpdate s)

/-- REFRESH: an interval of a pseudo-channel falls due and `issued` refreshes are issued. Debt that reaches 4 takes
precedence until it is 0, and what waited for it goes on; debt beyond the limit loses the unit (07 R239, R240, R261
reason 7). -/
def execRefresh (pc issued : Nat) (s : State) : Host.Outcome State Fault Refusal :=
  run (fun s =>
    let unit := pcUnit pc
    if unitGone unit s then s
    else
      let n := if heldByTraining (unitSector unit 0) s then 0 else min issued (debtOf pc s + 1)
      let forced := decide (4 ≤ debtOf pc s) && decide (0 < n)
      let d := debtOf pc s + 1 - n
      let s := onlyIf forced (bump Obj.FORCED_REFRESH) s
      let prec := s.mo.precedence.filter (· != pc)
      let prec := if d = 0 then prec else if 4 ≤ d ∨ s.mo.precedence.contains pc then insertBy id pc prec else prec
      let s := { s with mo := { s.mo with debt := spSet 0 pc d s.mo.debt, precedence := prec } }
      releaseAccesses false (onlyIf (decide (4 < d)) (loseUnit (lossUnit unit) 7) s)) s

/-- The hold of a channel ends: its ticks are counted, and it leaves the list and its alarm (07 R242, R245). -/
def holdEnds (unit : Nat) (r : Retrain) (s : State) : State :=
  let s := bumpBy (s.clk.ticks - r.since) Obj.HOLD_TICKS s
  { s with mo := { s.mo with
      training := s.mo.training.filter fun x => x.unit != unit, alarms := s.mo.alarms.filter (· != unit) } }

/-- A first attempt that failed is followed at once by a second (07 R247). -/
def holdAgain (unit : Nat) (r : Retrain) (s : State) : State :=
  let s := bumpBy (s.clk.ticks - r.since) Obj.HOLD_TICKS s
  { s with mo := { s.mo with
      training := mapIf (fun x => x.unit == unit) (fun x => { x with second := true, since := s.clk.ticks }) s.mo.training } }

/-- A channel that trained has its margin back (07 R242, R245). -/
def retrained (unit : Nat) (s : State) : State :=
  wr (Obj.CHAN_MARGIN unit) 100 (wr (Obj.CHAN_LAST_RETRAIN unit) (now s)
    { s with mo := { s.mo with trainedAt := spSet 0 unit s.clk.ticks s.mo.trainedAt } })

/-- RETRAIN_HOLD_END: the hold ends and training is judged; a first failure is retried at once with code 0x1704, a second
loses the stack or package (07 R242, R247, R261 reason 1). -/
def execRetrainHoldEnd (unit : Nat) (ok : Bool) (s : State) : Host.Outcome State Fault Refusal :=
  run (fun s => match s.mo.training.find? fun r => r.unit == unit with
    | none => s
    | some r =>
      if ok = false ∧ r.second = false ∧ unitGone unit s = false then emit 0x1704 unit unit (holdAgain unit r s)
      else
        let s := holdEnds unit r s
        let s := if unitGone unit s then s else if ok then onlyIf (!r.urgent) (bump Obj.FIGURE_RETRAINS) (retrained unit s)
          else loseUnit (lossUnit unit) 1 s
        releaseAccesses false (onlyIf (!r.urgent) (retrainDone unit) s)) s

end Sys2Proof.Machine
end

