-- ==== Sys2Proof/Machine/Update.lean ====
section
/-! DEFINITION. The update engines: triggers, sets, update steps, the update instructions and the journal (08 Near-bank and
buffer update engines). -/

namespace Sys2Proof.Machine

open Sys2Proof

/-! ### Lane arithmetic (08 R271 to R275) -/

/-- What the operand codes above f name for one block (08 R271). -/
structure UpdCtx where
  consts : List Nat
  scalars : List Nat
  steps : List Nat
  nsq : Nat
  bexp : Nat
  deriving DecidableEq, Repr

/-- The value of an operand code (08 R271). -/
def updOperand (c : UpdCtx) (f : List (BitVec 32)) (code : Nat) : Nat :=
  if code < 0x10 then (nth 0 f code).toNat
  else if code < 0x20 then nth 0 c.consts (code - 0x10)
  else if code < 0x24 then nth 0 c.scalars (code - 0x20)
  else if code < 0x2C then nth 0 c.steps (code - 0x24)
  else if code = 0x2C then c.nsq
  else if code = 0x2D then c.bexp
  else 0

/-- -v when `b`. -/
def negIf (b : Bool) (v : FVal) : FVal := if b then v.neg else v

/-- The condition of SEL on C (08 R273, R274). -/
def selHolds (mod : Nat) (c : FVal) : Bool :=
  match mod with
  | 0 => !c.eq FVal.zero
  | 1 => (match c with | .nan => false | v => FVal.lt FVal.zero v && !v.eq FVal.zero)
  | 2 => (match c with | .nan => false | v => v.lt FVal.zero && !v.eq FVal.zero)
  | _ => (match c with | .nan => true | _ => false)

/-- FMA (08 R272). -/
def laneFma (i : UpdInstr) (a b c : Nat) : Nat :=
  toFp32 ((negIf (bitOf i.mod 1) ((ofFp32 a).mul (ofFp32 b))).add (negIf (bitOf i.mod 0) (ofFp32 c)))

/-- ADD. -/
def laneAdd (i : UpdInstr) (a b _c : Nat) : Nat := toFp32 ((ofFp32 a).add (negIf (bitOf i.mod 1) (ofFp32 b)))

/-- MUL. -/
def laneMul (i : UpdInstr) (a b _c : Nat) : Nat := toFp32 (negIf (bitOf i.mod 1) ((ofFp32 a).mul (ofFp32 b)))

/-- DIV. -/
def laneDiv (_ : UpdInstr) (a b _c : Nat) : Nat := toFp32 ((ofFp32 a).div (ofFp32 b))

/-- SQRT. -/
def laneSqrt (_ : UpdInstr) (a _b _c : Nat) : Nat := toFp32 (ofFp32 a).sqrt

/-- RSQRT. -/
def laneRsqrt (_ : UpdInstr) (a _b _c : Nat) : Nat := toFp32 (ofFp32 a).rsqrt

/-- MIN. -/
def laneMin (_ : UpdInstr) (a b _c : Nat) : Nat := fMin a b

/-- MAX. -/
def laneMax (_ : UpdInstr) (a b _c : Nat) : Nat := fMax a b

/-- SEL. -/
def laneSel (i : UpdInstr) (a b c : Nat) : Nat := toFp32 (ofFp32 (if selHolds i.mod (ofFp32 c) then a else b))

/-- The operation of an arithmetic OP (08 R272). -/
def laneOp (i : UpdInstr) : Nat → Nat → Nat → Nat :=
  match i.op with
  | 1 => laneFma i
  | 2 => laneAdd i
  | 3 => laneMul i
  | 4 => laneDiv i
  | 5 => laneSqrt i
  | 6 => laneRsqrt i
  | 7 => laneMin i
  | 8 => laneMax i
  | _ => laneSel i

/-! ### The step section (08 R283) -/

/-- What the step section works on in lane 0. -/
structure StepSec where
  f : List (BitVec 32)
  scalars : List Nat
  steps : List Nat
  deriving DecidableEq, Repr

/-- One instruction of the step section. -/
def stepInstr (c : UpdCtx) (x : Nat) (z : StepSec) : StepSec :=
  let i := updInstrOf x
  let c := { c with scalars := z.scalars, steps := z.steps }
  let v := laneOp i (updOperand c z.f i.a) (updOperand c z.f i.b) (updOperand c z.f i.c)
  if i.d < 0x10 then { z with f := z.f.set i.d (BitVec.ofNat 32 v) }
  else if 0x20 ≤ i.d ∧ i.d < 0x24 then { z with scalars := z.scalars.set (i.d - 0x20) v }
  else if 0x24 ≤ i.d ∧ i.d < 0x2C then { z with steps := z.steps.set (i.d - 0x24) v }
  else z

/-- The constants k0 to k15 of a bank. -/
def bankConsts (b : Nat) (s : State) : List Nat := (List.range 16).map fun i => rd (Obj.K (2 + i) b) s

/-- The step section of a set's program, from the scalars at the start of the training step (08 R283). -/
def runStepSection (e : SetEntry) (nsq : Nat) (scalars : List Nat) (s : State) : StepSec :=
  let p := progOf e.prog s
  let c : UpdCtx := ⟨bankConsts e.cbank s, scalars, [], nsq, 0⟩
  (List.range (p.len 0)).foldl (fun z i => stepInstr c (progInstr p.slot i s) z)
    ⟨List.replicate 16 0, scalars, List.replicate 8 0⟩

/-! ### Sets (08 R279 to R283, R293) -/

/-- The tensors a set holds references to while it runs (06 R217). -/
def setRefs (e : SetEntry) : List Nat :=
  ([e.landing, e.stateT, e.masterT] ++ (if e.mirror then [] else [e.working])).dedup

/-- The update units can reach every tensor of the set: each is resident, and no move has begun (06 R218, R222, R229). -/
def setReachable (e : SetEntry) (s : State) : Bool := (setRefs e).all fun t => (tensorOf t s).state == 1 || (tensorOf t s).state == 4

/-- A tensor of the set is vacant-intact or free: no unit reaches its home (06 R229). -/
def setVacant (e : SetEntry) (s : State) : Bool := (setRefs e).any fun t => (tensorOf t s).state == 3 || (tensorOf t s).state == 0

/-- A tensor of the set is damaged-reported (08 R298). -/
def setDamaged (e : SetEntry) (s : State) : Bool :=
  [e.landing, e.stateT, e.masterT].any fun t => (tensorOf t s).state == 4

/-- One assembly-buffer sector leaves as a partial write (08 R286). -/
def asmFlush (a : Asm) (s : State) : State :=
  engineWrite a.addr (dataSector (overlay 0 a.data.toNat a.mask.toNat)) a.mask.toNat none
    { s with upd := { s.upd with assembly := s.upd.assembly.filter fun x => x.addr != a.addr } }

/-- Bytes of one sector enter the assembly buffer; a complete sector is written whole, and a full buffer writes its oldest
sector as a partial (08 R286). -/
def asmPut (n data mask : Nat) (s : State) : State :=
  if mask = 0 then s
  else
    let (d, m) := match s.upd.assembly.find? fun x => x.addr == n with
      | some a => (overlay a.data.toNat data mask, a.mask.toNat ||| mask)
      | none => (data, mask)
    if m = 2 ^ 32 - 1 then
      engineWrite n (dataSector d) (2 ^ 32 - 1) none { s with upd := { s.upd with assembly := s.upd.assembly.filter fun x => x.addr != n } }
    else if s.upd.assembly.any fun x => x.addr == n then
      let put (x : Asm) : Asm := { x with data := BitVec.ofNat 256 d, mask := BitVec.ofNat 32 m }
      { s with upd := { s.upd with assembly := mapIf (fun x => x.addr == n) put s.upd.assembly } }
    else
      let s := match s.upd.assembly with
        | a :: _ => if 4096 ≤ s.upd.assembly.length then asmFlush a s else s
        | [] => s
      { s with upd := { s.upd with assembly := s.upd.assembly ++ [⟨n, BitVec.ofNat 256 d, BitVec.ofNat 32 m⟩] } }

/-- `k` bytes of `v` at a device address go through the assembly buffer. -/
def asmBytes (a k v : Nat) (s : State) : State :=
  let off := a % 32
  let here := min k (32 - off)
  let s := asmPut (a / 32) (v % 2 ^ (8 * here) * 2 ^ (8 * off)) ((2 ^ here - 1) * 2 ^ off) s
  asmPut (a / 32 + 1) (v / 2 ^ (8 * here)) (2 ^ (k - here) - 1) s

/-- The working weight of a block, derived from the stored master values by round-to-nearest-even (08 R286; 09 R304). -/
def deriveWorking (e : SetEntry) (b : Nat) (masters : List (BitVec 32)) (s : State) : State :=
  let w := tensorOf e.working s
  let vals := (List.range 32).map fun i =>
    if 32 * b + i < w.elements then ofFp32 (nth 0 masters i).toNat else FVal.zero
  if w.fmt = 1 then
    let bits := (List.range 32).foldl (fun a i => a + encodeIeee bf16 .rne 0 (nth .nan vals i) * 2 ^ (16 * i)) 0
    forEach [0, 1] (fun h s =>
      if 2 * b + h < w.data then
        engineWrite (w.home + 2 * b + h) (dataSector (bits / 2 ^ (256 * h))) (2 ^ 32 - 1) none s
      else s) s
  else match mxOf w.fmt with
    | none => s
    | some f =>
      let m := mxConvert f .rne (vals.map fun v => (v, 0))
      asmBytes (sideAddr w b) 1 m.scale (asmBytes (dataAddr w + 4 * f.width * b) (4 * f.width) m.elems s)

/-- Writes of a set's working tensor still in the assembly buffer leave as partials (08 R286). -/
def asmSetEnd (e : SetEntry) (s : State) : State :=
  let w := tensorOf e.working s
  let mine := s.upd.assembly.filter fun a => decide (w.home ≤ a.addr ∧ a.addr < w.home + w.size)
  if e.mirror then s else forEach mine asmFlush s

/-- A set whose every block is stored is APPLIED: the record is written, a mirror set reports it (08 R293; 09 R314). -/
def finishSet (n : Nat) (s : State) : State :=
  match setRunOf n s with
  | none => s
  | some r =>
    if r.moments = 0 ∧ r.masters = 0 ∧ r.torn = false then
      let e := setEntry n s
      let s := asmSetEnd e s
      let s := setRec n { recOf n s with applied := true } s
      let s := forEach (setRefs e) dropRef s
      let s := { s with upd := { s.upd with sets := s.upd.sets.filter fun x => x.set_ != n } }
      let s := emit 0x2402 n n s
      if e.mirror then restoreGo (sendApplied e (recOf n s).step s) else confirmStep s
    else s

/-- A set begins: BEGUN is recorded, the step section runs and its blocks wait to be dispatched (08 R283, R284, R293). -/
def beginSet (n nsq : Nat) (s : State) : State :=
  let e := setEntry n s
  let r := recOf n s
  let fresh := r.step != openStep s
  let z := runStepSection e nsq r.scal s
  let s := setRec n { r with
    step := openStep s, begun := true, applied := false, partner := !fresh && r.partner, nsq := nsq, pend := z.scalars } s
  let s := forEach (setRefs e) takeRef (emit 0x2401 n n s)
  let s := forEach ([e.stateT, e.masterT] ++ (if e.mirror then [] else [e.working])) spoilDigests s
  let blocks := setBlocks e s
  finishSet n { s with upd := { s.upd with
    kept := s.upd.kept.filter (· != n),
    sets := s.upd.sets ++ [⟨n, z.steps.map (BitVec.ofNat 32), BitVec.ofNat 32 nsq, 0, blocks, blocks, false, false⟩] } }

/-- A set begins, or is kept until the move of one of its tensors has ended (06 R222). -/
def startSet (n : Nat) (s : State) : State :=
  let e := setEntry n s
  if setReachable e s then beginSet n (nsqFor e s) s
  else { s with upd := { s.upd with kept := insertBy id n (s.upd.kept.filter (· != n)) } }

/-- A kept trigger can begin: the set is valid and not BEGUN, its clip group has its NSQ, and its tensors can be reached
(08 R279, R281, R282; 06 R222, R229). -/
def mayBegin (n : Nat) (s : State) : Bool :=
  let e := setEntry n s
  e.valid && clipReadyFor e s && !begunNow n s && setReachable e s

/-- SET_BEGIN: a triggered set begins when the update function is Running and it is the lowest that can (08 R279, R282, R283). -/
def execSetBegin (set_ : Nat) (s : State) : Host.Outcome State Fault Refusal :=
  run (fun s =>
    let e := setEntry set_ s
    if running 2 s ∧ (s.upd.kept.find? fun n => mayBegin n s) = some set_ then beginSet set_ (nsqFor e s) s else s) s

/-! ### Blocks on their way (08 R284, R285, R296, R298) -/

/-- The staged settings change a set: its entry, program or bank (08 R269; 13 R452). -/
def setChanging (n : Nat) (s : State) : Bool :=
  let e := setEntry n s
  s.dict.staged.any fun x =>
    (keyIdx x.key == 0x7003 && keySel x.key == n) || (keyIdx x.key == 0x7001 && keySel x.key == e.prog) ||
    (keyIdx x.key == 0x7002 && keySel x.key == e.cbank)

/-- Set `n` stands between its BEGUN and APPLIED records in the open step (08 R293). -/
def setOpen (n : Nat) (s : State) : Bool := begunNow n s && !appliedNow n s

/-- No set that the staged settings change stands between BEGUN and APPLIED (08 R269, R634; 13 R452). -/
def setsSettled (s : State) : Bool := (validSets s).all fun n => !(setOpen n s && setChanging n s)

/-- A set's blocks may be worked on: the function is Running, or is Stopping for a commit that waits for the set
(08 R269, R288). -/
def setMayRun (n : Nat) (s : State) : Bool :=
  running 2 s || (runOf 2 s == .stopping && setChanging n s)

/-- The exponent byte of a carry block. -/
def blockExp (e : DirEntry) (b : Nat) (s : State) : Option Nat × State :=
  match consumeClean (sideAddr e b / 32) s with
  | (none, s) => (none, s)
  | (some d, s) => (some (fld d.toNat (8 * (sideAddr e b % 32) + 7) (8 * (sideAddr e b % 32))), s)

/-- Sectors of data as they arrive, each decoded; none when one is uncorrectable. -/
def arriveSectors (xs : List Sector) (errs : List (BitVec 288)) : Option (List (BitVec 256)) :=
  (List.range xs.length).mapM fun i =>
    match decodeSector (disturb (nth ⟨0, 0⟩ xs i) (nth 0 errs i)) with
    | .ok d _ => some d
    | .bad => none

/-- `k` stored sectors as a consumer's data. -/
def readData (n : Nat) : Nat → State → Option (List (BitVec 256)) × State
  | 0, s => (some [], s)
  | k + 1, s =>
    match consumeClean n s with
    | (none, s) => (none, s)
    | (some d, s) => match readData (n + 1) k s with
      | (none, s) => (none, s)
      | (some ds, s) => (some (d :: ds), s)

/-- The request word of a block's UPDATE_WORK: KIND 4 with the RANK of its class and a TAG, SECTOR naming the block's first
state sector (07 R234; 08 R284). -/
def workRequest (tag n : Nat) (s : State) : Nat :=
  4 * 2 ^ 60 + rd Obj.RANK_UPDATE s % 8 * 2 ^ 57 + tag % 256 * 2 ^ 49 + channelAddr (32 * n) / 32 % 2 ^ 29 * 2 ^ 19

/-- The word that follows it: SET, BLOCK, EXP and PART (08 R284). -/
def workBlock (n block exp part : Nat) : Nat :=
  n % 2 ^ 11 * 2 ^ 53 + block % 2 ^ 37 * 2 ^ 16 + exp % 256 * 2 ^ 8 + part % 2 * 2 ^ 7

/-- An UPDATE_WORK request reaches a channel or sub-channel: refused or lost it is answered so; otherwise its block enters the
queue of the unit there, or stops the update function when its payload arrives uncorrectable (07 R235; 08 R284, R298). -/
def takeWork (unit word block : Nat) (xs : List Sector) (errs : List (BitVec 288)) (s : State) : State :=
  if unitGone unit s then answerMem unit word 2 none none s
  else if reqRefused unit word || reqKind word != 4 || fld block 6 0 != 0 then answerMem unit word 1 none none s
  else
    let s := answerMem unit word 0 none none s
    let n := fld block 63 53
    match arriveSectors xs errs with
    | none => updateFault n s
    | some ds =>
      modUnit (updUnitOf (unitSector unit (reqSector word))) (fun x => { x with queue := x.queue ++
        [{ BlockRun.init with
            set_ := n, block := fld block 52 16, exp := fld block 15 8, part := fld block 7 7,
            payload := ds.map encodeSector }] }) s

/-- A block is sent to the channel or sub-channel that holds its state granule (08 R284). -/
def sendWork (tag n part block exp : Nat) (xs : List Sector) (errs : List (BitVec 288)) (s : State) : State :=
  let at_ := stateSector (setEntry n s) part block s
  takeWork ((unitOf at_).getD 0) (workRequest tag at_ s) (workBlock n block exp part) xs errs s

/-- The moment part of a set's next block is dispatched with its gradient (08 R284). -/
def dispatchMoment (tag : Nat) (r : SetRun) (errs : List (BitVec 288)) (s : State) : State :=
  let e := setEntry r.set_ s
  let land := tensorOf e.landing s
  let s := modSetRun r.set_ (fun x => { x with next := x.next + 1 }) s
  if land.state = 4 then updateFault r.set_ s
  else match blockExp land r.next s with
    | (none, s) => updateFault r.set_ s
    | (some a, s) => match readData (land.home + 4 * r.next) 4 s with
      | (none, s) => updateFault r.set_ s
      | (some ds, s) => sendWork tag r.set_ 0 r.next a (ds.map encodeSector) errs s

/-- The dispatcher has to wait with a set's next block: a tensor of the set cannot be reached, or a sector of its landing block
is held (06 R229; 07 R239, R242). -/
def dispatchHeld (e : SetEntry) (b : Nat) (s : State) : Bool :=
  let land := tensorOf e.landing s
  setVacant e s || rangeHeld (land.home + 4 * b) 4 s || accessHeld (sideAddr land b / 32) s

/-- The tensor whose block is sent on: the landing of a moment part, the master of a master part. -/
def workTensor (e : SetEntry) : WorkBlock → Nat
  | .moment _ => e.landing
  | .master _ => e.masterT

/-- The moment part of block `block` is dispatched where it is the next one of its set and nothing stands in its way
(08 R284). -/
def sendMoment (tag : Nat) (r : SetRun) (block : Nat) (errs : List (BitVec 288)) (s : State) : State :=
  let e := setEntry r.set_ s
  if block = r.next ∧ block < setBlocks e s ∧ setMayRun r.set_ s ∧ dispatchHeld e block s = false then
    dispatchMoment tag r errs s
  else s

/-- The deltas of block `block` of a set leave the delta queue for the unit of its master part (08 R284, R285). -/
def sendMaster (tag : Nat) (r : SetRun) (block : Nat) (errs : List (BitVec 288)) (s : State) : State :=
  match s.upd.deltas.find? fun d => d.set_ == r.set_ && d.block == block with
  | none => s
  | some d =>
    let s := { s with upd := { s.upd with deltas := dropFirst (fun x => x == d) s.upd.deltas } }
    let xs := (List.range 4).map fun i => dataSector
      ((List.range 8).foldl (fun a j => a + (nth 0 d.values (8 * i + j)).toNat * 2 ^ (32 * j)) 0)
    sendWork tag r.set_ 1 block 0 xs errs s

/-- A block of a set that is not torn is sent on, unless its tensor's class is frozen. -/
def sendBlock (tag : Nat) (r : SetRun) (work : WorkBlock) (errs : List (BitVec 288)) (s : State) : State :=
  if r.torn || frozenAt 2 (tensorOf (workTensor (setEntry r.set_ s) work) s).home s then s
  else match work with
    | .moment b => sendMoment tag r b errs s
    | .master b => sendMaster tag r b errs s

/-- UPDATE_WORK: a gradient or delta block goes to the unit that holds its state, in a request with a TAG; `errs` disturb its
payload (07 R235; 08 R284, R285). -/
def execUpdateWork (tag set_ : Nat) (work : WorkBlock) (errs : List (BitVec 288)) (s : State) :
    Host.Outcome State Fault Refusal :=
  run (fun s => match setRunOf set_ s with
    | none => s
    | some r => sendBlock tag r work errs s) s

/-! ### Update steps (08 R287 to R291) -/

/-- The channels and sub-channels an update unit works in front of. -/
def updaterUnits (u : Nat) : List Nat := if u < 256 then [u] else (List.range 8).map fun i => 256 + 8 * (u - 256) + i

/-- A commit or a PHASE has stopped the update function (08 R288; 09 R336). -/
def commitStop (s : State) : Bool :=
  (s.dict.commit.any fun c => c.stopped.contains 2) || s.trn.phase.any fun p => p.stopped.contains 2

/-- A step boundary is given to a refresh that has taken precedence, a retrain waiting or a commit stop (08 R288). -/
def boundaryTaken (u n : Nat) (s : State) : Bool :=
  ((updaterUnits u).any fun c => refreshPending c s || retrainWaiting c s || s.mo.training.any fun r => r.unit == c) ||
  (!setMayRun n s && commitStop s)

/-- A unit gives the boundary it stands at, which is counted once (08 R288, SUSPENSIONS). -/
def giveBoundary (u : Nat) (s : State) : State :=
  if (unitState u s).gave then s else bump Obj.SUSPENSIONS (modUnit u (fun x => { x with gave := true }) s)

/-- Places in use of a buffer's delta queue: deltas waiting, blocks of the master part, and places reserved by running
moment steps (08 R285). -/
def deltaPlaces (target : Nat) (s : State) : Nat :=
  let mine (n b : Nat) : Bool := deltaTarget (setEntry n s) b s == target
  (s.upd.deltas.filter fun d => mine d.set_ d.block).length +
  sumNat (s.upd.units.map fun p =>
    ((p.2.queue.filter fun b => b.part == 1) ++ p.2.step).countP fun b => mine b.set_ b.block)

/-- The blocks of the unit's next step: a run of one set and part, as long as a step allows (08 R287). -/
def nextStep (u : Nat) (s : State) : List BlockRun :=
  match (unitState u s).queue with
  | [] => []
  | b :: rest =>
    let e := setEntry b.set_ s
    let n := if u < 256 then bankStepBlocks e s else 2 * lomlekStepIssues e s
    (b :: rest.takeWhile fun x => x.set_ == b.set_ && x.part == b.part).take n

/-- Every delta of a moment step has a place at its buffer (08 R285). -/
def placesFree (bs : List BlockRun) (s : State) : Bool :=
  bs.all fun b =>
    let t := deltaTarget (setEntry b.set_ s) b.block s
    b.part == 1 || decide (deltaPlaces t s + (bs.countP fun x => deltaTarget (setEntry x.set_ s) x.block s == t) ≤ 16384)

/-- A gradient block is non-finite (08 R296). -/
def blockNonfinite (e : SetEntry) (r : SetRun) (b : BlockRun) : Bool :=
  b.exp == 255 || (e.clip && fld r.nsq.toNat 30 23 == 255)

/-- The 32-bit words of consecutive data sectors. -/
def wordsOf (ds : List (BitVec 256)) : List (BitVec 32) :=
  ds.flatMap fun d => (List.range 8).map fun j => BitVec.ofNat 32 (d.toNat / 2 ^ (32 * j))

/-- A block's state is read and its lanes are cleared (08 R277, R287). -/
def loadBlock (b : BlockRun) (s : State) : Option BlockRun × State :=
  let e := setEntry b.set_ s
  match readData (stateSector e b.part b.block s) (4 * partSlots e b.part) s with
  | (none, s) => (none, s)
  | (some ds, s) =>
    let bad := match setRunOf b.set_ s with
      | some r => b.part == 0 && blockNonfinite e r b
      | none => false
    (some { b with state := wordsOf ds, lanes := List.replicate 32 Lane.init, skip := bad && e.nanSkip }, s)

/-- The blocks of a step, loaded; none where a state sector is uncorrectable. -/
def loadBlocks : List BlockRun → State → Option (List BlockRun) × State
  | [], s => (some [], s)
  | b :: bs, s =>
    match loadBlock b s with
    | (none, s) => (none, s)
    | (some b, s) => match loadBlocks bs s with
      | (none, s) => (none, s)
      | (some l, s) => (some (b :: l), s)

/-- The granules of a step's blocks. -/
def stepRanges (bs : List BlockRun) (s : State) : List (Nat × Nat) :=
  bs.map fun b =>
    let e := setEntry b.set_ s
    (stateSector e b.part b.block s, 4 * partSlots e b.part)

/-- UPDATE_STEP_START: an idle unit starts its next step, unless it gives the boundary to a refresh, a retrain or a commit, the
function has stopped, or no unit can reach the set's tensors (06 R229; 08 R285, R287, R288). -/
def execUpdateStepStart (unit : Nat) (s : State) : Host.Outcome State Fault Refusal :=
  run (fun s =>
    let u := unitState unit s
    let bs := nextStep unit s
    match bs with
    | [] => s
    | b :: _ =>
      if u.step.isEmpty = false then s
      else if boundaryTaken unit b.set_ s then giveBoundary unit s
      else if placesFree bs s = false ∨ setMayRun b.set_ s = false ∨ setVacant (setEntry b.set_ s) s then s
      else afterSnoops false (stepRanges bs s) (fun s =>
        if setDamaged (setEntry b.set_ s) s then updateFault b.set_ s
        else match loadBlocks bs s with
          | (none, s) => updateFault b.set_ s
          | (some l, s) =>
            modUnit unit (fun x => { x with
              queue := x.queue.drop bs.length, step := l, ip := 0, gave := false }) s) s) s

/-! ### Update instructions (08 R272) -/

/-- The instruction number of a step's next instruction, and its end, in the program. -/
def partSpan (p : Prog) (part : Nat) : Nat × Nat :=
  if part = 0 then (p.start 1, p.start 3) else (p.start 3, p.start 5)

/-- What a block's lanes read beside f (08 R271). -/
def blockCtx (b : BlockRun) (s : State) : UpdCtx :=
  let e := setEntry b.set_ s
  let r := (setRunOf b.set_ s).getD SetRun.init
  ⟨bankConsts e.cbank s, [], r.t.map (·.toNat), if e.clip then r.nsq.toNat else 0,
   if b.exp = 255 then 0x7FC00000 else toFp32 (FVal.ofInt (b.exp : Int) 0)⟩

/-- The next instruction of a unit's running step, its number and its program, when its OP is `op`. -/
def currentInstr (unit op : Nat) (s : State) : Option (UpdInstr × Nat) :=
  let u := unitState unit s
  match u.step with
  | [] => none
  | b :: _ =>
    let p := progOf (setEntry b.set_ s).prog s
    let (first, last) := partSpan p b.part
    let n := first + u.ip
    let i := updInstrOf (progInstr p.slot n s)
    if n < last ∧ i.op = op then some (i, n) else none

/-- The instruction runs on every block of the step, and the step moves on. -/
def onBlocks (unit op : Nat) (f : UpdInstr → Nat → State → BlockRun → BlockRun) (s : State) : State :=
  match currentInstr unit op s with
  | none => s
  | some (i, n) =>
    modUnit unit (fun x => { x with step := x.step.map (f i n s), ip := x.ip + 1 }) s

/-- A result written into D of every lane. -/
def setD (i : UpdInstr) (v : Nat → Lane → Nat) (b : BlockRun) : BlockRun :=
  { b with lanes := b.lanes.mapIdx fun j l => { l with f := l.f.set i.d (BitVec.ofNat 32 (v j l)) } }

/-- An arithmetic instruction on every lane. -/
def execArith (g : UpdInstr → Nat → Nat → Nat → Nat) (i : UpdInstr) (_n : Nat) (s : State) (b : BlockRun) : BlockRun :=
  let c := blockCtx b s
  setD i (fun _ l => g i (updOperand c l.f i.a) (updOperand c l.f i.b) (updOperand c l.f i.c)) b

/-- UPD_FMA (08 R272). -/
def execUpdFma (unit : Nat) (s : State) : Host.Outcome State Fault Refusal := run (onBlocks unit 1 (execArith laneFma)) s

/-- UPD_ADD. -/
def execUpdAdd (unit : Nat) (s : State) : Host.Outcome State Fault Refusal := run (onBlocks unit 2 (execArith laneAdd)) s

/-- UPD_MUL. -/
def execUpdMul (unit : Nat) (s : State) : Host.Outcome State Fault Refusal := run (onBlocks unit 3 (execArith laneMul)) s

/-- UPD_DIV (08 R274). -/
def execUpdDiv (unit : Nat) (s : State) : Host.Outcome State Fault Refusal := run (onBlocks unit 4 (execArith laneDiv)) s

/-- UPD_SQRT (08 R274). -/
def execUpdSqrt (unit : Nat) (s : State) : Host.Outcome State Fault Refusal := run (onBlocks unit 5 (execArith laneSqrt)) s

/-- UPD_RSQRT (08 R274). -/
def execUpdRsqrt (unit : Nat) (s : State) : Host.Outcome State Fault Refusal := run (onBlocks unit 6 (execArith laneRsqrt)) s

/-- UPD_MIN (03 R91). -/
def execUpdMin (unit : Nat) (s : State) : Host.Outcome State Fault Refusal := run (onBlocks unit 7 (execArith laneMin)) s

/-- UPD_MAX. -/
def execUpdMax (unit : Nat) (s : State) : Host.Outcome State Fault Refusal := run (onBlocks unit 8 (execArith laneMax)) s

/-- SEL (08 R273, R274). -/
def execSel (unit : Nat) (s : State) : Host.Outcome State Fault Refusal := run (onBlocks unit 9 (execArith laneSel)) s

/-- CVT on one block: FP32 narrowed to p bits, BF16, or the 32 lanes as one MX block (08 R275). -/
def cvtBlock (i : UpdInstr) (n : Nat) (s : State) (b : BlockRun) : BlockRun :=
  let e := setEntry b.set_ s
  let c := blockCtx b s
  let mode : Rounding := if bitOf i.mod 0 then .sr else .rne
  let r (j : Nat) : Nat := randBits (stepSeed s) (0x40 + n) e.keyT (e.elemBase + 32 * b.block + j)
  let a (l : Lane) : FVal := ofFp32 (updOperand c l.f i.a)
  match i.b with
  | 0 => setD i (fun j l => roundNarrow i.c mode (r j) (a l)) b
  | 1 => setD i (fun j l => encodeIeee bf16 mode (r j) (a l) * 65536) b
  | k => match mxOf k with
    | none => b
    | some f =>
      let m := mxConvert f mode (b.lanes.mapIdx fun j l => (a l, r j))
      setD i (fun j _ => toFp32 (mxVal f m.scale (mxElem f m.elems j))) b

/-- CVT (08 R275). -/
def execCvt (unit : Nat) (s : State) : Host.Outcome State Fault Refusal := run (onBlocks unit 0xA cvtBlock) s

/-- LD: D := state slot A (08 R272). -/
def execLd (unit : Nat) (s : State) : Host.Outcome State Fault Refusal :=
  run (onBlocks unit 0x10 fun i _ _ b => setD i (fun j _ => (nth 0 b.state (32 * i.a + j)).toNat) b) s

/-- An FP32 word is not finite. -/
def wordNonfinite (x : Nat) : Bool := fld x 30 23 == 255

/-- ST on one block: state slot B := A; a skipped block stores nothing (08 R272, R296). -/
def stBlock (i : UpdInstr) (s : State) (b : BlockRun) : BlockRun :=
  if b.skip then b
  else
    let c := blockCtx b s
    let vs := b.lanes.map fun l => updOperand c l.f i.a
    { b with state := (List.range 32).foldl (fun st j => st.set (32 * i.b + j) (BitVec.ofNat 32 (nth 0 vs j))) b.state }

/-- Non-finite values an ST writes in a step (08 R297). -/
def stNonfinite (i : UpdInstr) (s : State) (b : BlockRun) : Nat :=
  if b.skip then 0
  else let c := blockCtx b s; b.lanes.countP fun l => wordNonfinite (updOperand c l.f i.a)

/-- ST: non-finite values are counted, and code 0x2405 is written once per set and step (08 R272, R297). -/
def execSt (unit : Nat) (s : State) : Host.Outcome State Fault Refusal :=
  run (fun s => match currentInstr unit 0x11 s, (unitState unit s).step with
    | some (i, _), b :: _ =>
      let k := sumNat ((unitState unit s).step.map (stNonfinite i s))
      let noted := match setRunOf b.set_ s with
        | some r => r.noted
        | none => true
      let t := onBlocks unit 0x11 (fun i _ s b => stBlock i s b) s
      let t := bumpBy k Obj.NONFINITE_STORES t
      if 0 < k ∧ noted = false then
        emit 0x2405 b.set_ b.set_ (modSetRun b.set_ (fun r => { r with noted := true }) t)
      else t
    | _, _ => s) s

/-- The gradient integers of a block (03 R70). -/
def gradInt (b : BlockRun) (j : Nat) : Int :=
  toSigned 32 (fld (nth ⟨0, 0⟩ b.payload (j / 8)).data.toNat (32 * (j % 8) + 31) (32 * (j % 8)))

/-- LDG: the lane's gradient element, rounded to FP32 (08 R272; 03 R91). -/
def execLdg (unit : Nat) (s : State) : Host.Outcome State Fault Refusal :=
  run (onBlocks unit 0x12 fun i _ _ b => setD i (fun j _ => toFp32 (carryVal b.exp (gradInt b j))) b) s

/-- LDD: the lane's delta (08 R272). -/
def execLdd (unit : Nat) (s : State) : Host.Outcome State Fault Refusal :=
  run (onBlocks unit 0x13 fun i _ _ b => setD i (fun j _ =>
    fld (nth ⟨0, 0⟩ b.payload (j / 8)).data.toNat (32 * (j % 8) + 31) (32 * (j % 8))) b) s

/-- UPD_EMIT: the lane's delta := A (08 R272). -/
def execUpdEmit (unit : Nat) (s : State) : Host.Outcome State Fault Refusal :=
  run (onBlocks unit 0x14 fun i _ s b =>
    let c := blockCtx b s
    { b with lanes := b.lanes.map fun l => { l with delta := BitVec.ofNat 32 (updOperand c l.f i.a) } }) s

/-! ### The end of a step (08 R286, R287, R293, R296) -/

/-- The state words of a block as sectors. -/
def stateSectors (ws : List (BitVec 32)) : List Sector :=
  (chunks 8 ws).map fun c => dataSector ((List.range 8).foldl (fun a j => a + (nth 0 c j).toNat * 2 ^ (32 * j)) 0)

/-- Consecutive full-sector writes. -/
def fullWrites (n : Nat) : List Sector → State → State
  | [], s => s
  | x :: xs, s => fullWrites (n + 1) xs (fullWrite n x s)

/-- A block's results are accepted: state, then delta or working weight (08 R286, R293, R296). The delta of a torn set goes
nowhere: its remaining blocks are not processed (08 R298). -/
def storeBlock (b : BlockRun) (s : State) : State :=
  let e := setEntry b.set_ s
  if b.skip then
    emit 0x2403 b.set_ b.set_ (bump Obj.BLOCKS_SKIPPED (bump Obj.BLOCKS_APPLIED
      (modSetRun b.set_ (fun r => { r with moments := r.moments - 1, masters := r.masters - 1 }) s)))
  else
    let s := fullWrites (stateSector e b.part b.block s) (stateSectors b.state) s
    if b.part = 0 then
      let s := markWritten e.stateT s
      let d : Delta := ⟨b.set_, b.block, b.lanes.map (·.delta)⟩
      let torn := match setRunOf b.set_ s with
        | some r => r.torn
        | none => true
      modSetRun b.set_ (fun r => { r with moments := r.moments - 1 })
        { s with upd := { s.upd with deltas := if torn then s.upd.deltas else s.upd.deltas ++ [d] } }
    else
      let s := markWritten e.masterT s
      let s := if e.mirror then s else markWritten e.working (deriveWorking e b.block (b.state.take 32) s)
      bump Obj.BLOCKS_APPLIED (modSetRun b.set_ (fun r => { r with masters := r.masters - 1 }) s)

/-- A torn set with no step left leaves the list, and its references are released (08 R298). -/
def dropTorn (s : State) : State :=
  let ended (r : SetRun) : Bool := r.torn && !(s.upd.units.any fun p => p.2.step.any fun b => b.set_ == r.set_)
  let gone := s.upd.sets.filter ended
  forEach gone (fun r => forEach (setRefs (setEntry r.set_ s)) dropRef)
    { s with upd := { s.upd with sets := s.upd.sets.filter fun r => !ended r } }

/-- UPDATE_STEP_END: the last write of a step whose instructions have all run is accepted, held accesses go on, and the set
may be APPLIED (08 R287, R290, R291, R293). -/
def execUpdateStepEnd (unit : Nat) (s : State) : Host.Outcome State Fault Refusal :=
  run (fun s =>
    let u := unitState unit s
    match u.step with
    | [] => s
    | b :: _ =>
      let p := progOf (setEntry b.set_ s).prog s
      let (first, last) := partSpan p b.part
      if first + u.ip < last then s
      else afterSnoops true (stepRanges u.step s) (fun s =>
        let s := forEach u.step storeBlock s
        let s := modUnit unit (fun x => { x with step := [], ip := 0 }) s
        releaseAccesses true (dropTorn (finishSet b.set_ s))) s) s

/-! ### REAPPLY and START_STEP -/

/-- A write of REAPPLY: the set begins as though triggered, once a move of one of its tensors has ended (06 R222; 08 R295). -/
def writeReapply (_w : Writer) (v : Nat) (s : State) : Nat × State :=
  let n := v % 2048
  let e := setEntry n s
  let nsqOk := !e.clip || nth false s.upd.nsqValid e.clipGroup
  if begunNow n s ∨ s.upd.landed.contains n = false ∨ running 2 s = false ∨ nsqOk = false ∨ e.valid = false then
    (0x03000004, s)
  else
    let s := emit 0x2406 n n { s with upd := { s.upd with triggered := insertBy id n (s.upd.triggered.filter (· != n)) } }
    (0, startSet n s)

/-- REAPPLY: a set's update runs again from its retained landing, or the write is refused (08 R295). -/
def execReapply (w : Writer) (v : BitVec 32) (s : State) : Host.Outcome State Fault Refusal :=
  run (command w 0x7030 1 v.toNat (writeReapply w v.toNat)) s

/-- A write of START_STEP (09 R307; 13 R455). -/
def writeStartStep (_w : Writer) (v : Nat) (s : State) : Nat × State :=
  if runOf 2 s ≠ .stopped then (0x03000001, s) else (0, openNewStep (setStep v 0 s))

/-- START_STEP: COMMITTED is set, retained landings, clip accumulators and kept triggers are released (09 R307). -/
def execStartStep (w : Writer) (v : BitVec 64) (s : State) : Host.Outcome State Fault Refusal :=
  run (command w 0x7100 4 v.toNat (writeStartStep w v.toNat)) s

end Sys2Proof.Machine
end

