-- ==== Sys2Proof/Machine/Transfers.lean ====
section
/-! DEFINITION. Routed transfers and reports that reach this module: DESC, DATA and REPORT flits (10 R366 to R368;
09 R313 to R316, R326, R327, R334; 14 R496). -/

namespace Sys2Proof.Machine

open Sys2Proof

/-! ### Taking a delivered flit -/

/-- A flit delivered to this module is taken: it leaves the buffer and its credit is returned (10 R353, R363; log entry 17). -/
def takeLocal (k : Nat) (f : Flit) (p : Bool) (g : State → State) (s : State) : State :=
  if s.net.local_.contains (k, f) ∧ p then
    g (returnCredit k f { s with net := { s.net with local_ := dropFirst (fun x => x == (k, f)) s.net.local_ } })
  else s

/-- The sectors a flit carries, by NSECT; the receiver ignores any other (10 R347). -/
def carried (f : Flit) : List Sector := f.sectors.take (fld f.hdr.toNat 66 64 + 1)

/-- The data of a flit's sector `i`; zero for one that it does not carry. -/
def flitData (f : Flit) (i : Nat) : Nat :=
  match (carried f)[i]? with
  | none => 0
  | some x => match decodeSector x with
    | .ok d _ => d.toNat
    | .bad => x.data.toNat

/-- The answer to a DESC (10 R366 step 2, R368). -/
def answerDesc (f : Flit) (status reason tensor : Nat) (s : State) : State :=
  sendTo (mkFlit 1 3 f.src (nodeId s) f.xfer 0 [dataSector (reportBits status reason tensor 0 0 0 0 0)]) s

/-! ### The end of a transfer into this module -/

/-- The first set of a kind that a DESC's KEY and ELEM_BASE match (09 R312). -/
def matchSet (mirror : Bool) (key elem : Nat) (s : State) : Option Nat :=
  (validSets s).find? fun n => let e := setEntry n s; e.mirror == mirror && e.keyT == key && e.elemBase == elem

/-- A mirror landing wholly received is retained and triggers its set (08 R280; 09 R322). -/
def landingReceived (set t : Nat) (s : State) : State :=
  triggerSet set { s with
    trn := { s.trn with retained := (t :: s.trn.retained).dedup },
    upd := { s.upd with landed := (set :: s.upd.landed).dedup } }

/-- The record a transfer's DESC carried (10 R367). -/
def xferRecord (x : Xfer) : Nat :=
  (nth ⟨0, 0⟩ x.extra 0).data.toNat * 2 ^ 256 + (nth ⟨0, 0⟩ x.extra 1).data.toNat

/-- 512 bits written as the record of set `n` (09 R309). -/
def putRecord (n bits : Nat) (s : State) : State :=
  wrData (stepBase + 2048 + 2 * n) (bits % 2 ^ 256) (wrData (stepBase + 2048 + 2 * n + 1) (bits / 2 ^ 256) s)

/-- Working weights of a set derived from its stored masters, into a tensor that is then WRITTEN (06 R226; 08 R286; 09 R326
step 5). -/
def rederive (n first count : Nat) (s : State) : State :=
  let e := setEntry n s
  let s := forEach (List.range count) (fun i s =>
    match readData (stateSector e 1 (first + i) s) 4 s with
    | (none, s) => s
    | (some ds, s) => deriveWorking e (first + i) (wordsOf ds) s) s
  markWritten e.working (asmSetEnd e s)

/-- The sets a restore or seeding names on its receiving side: primary sets for a restore, mirror sets for a seeding. -/
def namedSets (mirror : Bool) (s : State) : List Nat :=
  let r := rd Obj.RESTORE_SET s
  (validSets s).filter fun n => (setEntry n s).mirror == mirror && (r == 0xFFFF || r == n)

/-- The histories that a restore does not bring are unknown (09 R328). -/
def forgetHistories (s : State) : State :=
  let landings := (validSets s).map fun n => (setEntry n s).landing
  forEach (tensorIds s) (fun t s => if landings.contains t then s else historyUnknown t s) s

/-- A seeding has ended: each seeded mirror set that is APPLIED reports it (09 R314, R327). -/
def seedingEnds (s : State) : State :=
  let s := emit 0x800A 0 (committedStep s) (setRestore 3 none s)
  forEach ((namedSets true s).filter fun n => (recOf n s).applied) (fun n s => sendApplied (setEntry n s) (recOf n s).step s) s

/-- A part of a set has arrived whole; with every part the set is restored or seeded (09 R326 step 5, R327). -/
def partReceived (x : Xfer) (s : State) : State :=
  match s.trn.restore with
  | none => s
  | some r =>
    let seed := r.kind == 4
    let got := ((4 * x.set_ + x.part) :: r.got).dedup
    let s := { s with trn := { s.trn with restore := some { r with got := got } } }
    let need := (if seed then [0, 1] else [0, 1, 2]).map (4 * x.set_ + ·)
    if need.all got.contains = false then s
    else
      let bits := setFld (xferRecord x) 445 445 (b2n (!seed))
      let s := putRecord x.set_ bits s
      if seed then
        let done := (namedSets true s).all fun n => [4 * n, 4 * n + 1].all got.contains
        if done then seedingEnds s else s
      else rederive x.set_ 0 (setBlocks (setEntry x.set_ s) s) s

/-- Every valid primary set has arrived with all its parts: the donor's RESTORE_SET named every set (09 R326; log entry 112). -/
def restoredAll (s : State) : Bool :=
  match s.trn.restore with
  | none => false
  | some r => (validSets s).all fun n =>
    (setEntry n s).mirror || [4 * n, 4 * n + 1, 4 * n + 2].all r.got.contains

/-- COMMITTED arrives last: when the donor's RESTORE_SET named every set it takes the donor's value; STEP_STATE is CONFIRMED when
every set is APPLIED for the open step and OPEN otherwise (09 R326 step 6, R328). -/
def restoreEnds (committed : Nat) (s : State) : State :=
  let c := if restoredAll s then committed else committedStep s
  let s := forgetHistories (setStep c 0 s)
  let s := emit 0x800A 0 c (setRestore 3 none s)
  if (validSets s).all fun n => (setEntry n s).mirror || appliedNow n s then confirmed s else s

/-- The bytes of digest block `b` of a tensor: its first sector and its sectors (09 R329). -/
def digestSpan (e : DirEntry) (b : Nat) : Nat × Nat := (e.home + 131072 * b, min 131072 (e.size - 131072 * b))

/-- The digest of one block as stored. -/
def blockDigest (t b : Nat) (s : State) : Option (BitVec 128) × State :=
  let (a, k) := digestSpan (tensorOf t s) b
  match readSectors a k s with
  | (none, s) => (none, s)
  | (some bs, s) => (some (shake128 bs), s)

/-- A DIGEST figure's run of a tensor changed by `f`. -/
def modDigest (t : Nat) (f : DigestRun → DigestRun) (s : State) : State :=
  { s with trn := { s.trn with digests := mapIf (fun d => d.tensor == t) f s.trn.digests } }

/-- A divergence left unrepaired stops the update function (09 R333). -/
def leaveUnrepaired (t : Nat) (s : State) : State := stopUpdates (emit 0x8005 0 t s)

/-- A block is repaired or re-derived (09 R334). -/
def blockRepaired (t b : Nat) (s : State) : State :=
  emit 0x8004 0 t (bump Obj.REPAIRS (modDigest t (fun d => { d with awaits := d.awaits.filter (· != b) }) s))

/-- The runs of the DIGEST figure named `entry`. -/
def digestRuns (entry : Nat) (s : State) : List DigestRun := s.trn.digests.filter fun d => d.entry == entry

/-- A transfer is a repair of a tensor of the DIGEST figure named `entry` (09 R334). -/
def repairOf (entry : Nat) (s : State) (x : Xfer) : Bool :=
  descOp x.desc.toNat == 4 && (digestRuns entry s).any fun d => d.tensor == x.tensor

/-- A DIGEST figure whose comparison is done ends when no block of it waits for a repair here and no repair of it is being sent
(09 R331, R334). -/
def digestsGo (s : State) : State :=
  forEach (s.col.slots.filter fun c => c.kind == 6 && c.phase == .ending) (fun c s =>
    if (s.net.txX.any (repairOf c.tag s)) ∨ ((digestRuns c.tag s).any fun d => !d.awaits.isEmpty) then s
    else freeSlot c 0 s) s

/-- BLOCK of a repair (10 R367). -/
def repairBlock (x : Xfer) : Nat := fld (nth ⟨0, 0⟩ x.extra 0).data.toNat 255 216

/-- DIGEST of a repair. -/
def repairDigest (x : Xfer) : Nat := fld (nth ⟨0, 0⟩ x.extra 0).data.toNat 215 88

/-- A transfer from a node as an answerable flit. -/
def xferFlit (x : Xfer) (s : State) : Flit := mkFlit 1 1 (nodeId s) x.peer x.no 0 [dataSector x.desc.toNat]

/-- Every sector of a transfer into this module has been accepted: it is answered and takes effect (10 R366 step 5, R367). -/
def completeRx (x : Xfer) (s : State) : State :=
  let f := xferFlit x s
  let s := { s with net := { s.net with rxX := s.net.rxX.filter fun y => !(y.peer == x.peer && y.no == x.no) } }
  let ok (s : State) : State := answerDesc f 2 0 x.tensor s
  match descOp x.desc.toNat with
  | 1 => landingReceived x.set_ x.tensor (ok s)
  | 2 => partReceived x (ok s)
  | 3 => partReceived x (ok s)
  | 4 =>
    match blockDigest x.tensor (repairBlock x) s with
    | (d, s) =>
      if d = some (BitVec.ofNat 128 (repairDigest x)) then
        digestsGo (blockRepaired x.tensor (repairBlock x) (ok s))
      else answerDesc f 3 5 x.tensor s
  | _ => ok s

/-! ### DESC flits (10 R366, R367; 14 R492) -/

/-- The target a DESC names here: tensor, set and PART, or the reason of its refusal (10 R368). -/
def descTarget (f : Flit) (s : State) : Except Nat (Nat × Nat × Nat) :=
  let d := flitData f 0
  let part := fld (flitData f 3) 255 254
  let fits (t : Nat) (states : List Nat) (r : Nat × Nat × Nat) : Except Nat (Nat × Nat × Nat) :=
    let e := tensorOf t s
    if states.contains e.state && decide (descStart d + descLen d ≤ e.size) then .ok r else .error 2
  let running (k : Nat) : Bool := match s.trn.restore with
    | some r => r.kind == k
    | none => false
  match descOp d with
  | 1 => (match matchSet true (descKey d) (descElem d) s with
    | none => .error 1
    | some n => let t := (setEntry n s).landing; fits t [1] (t, n, 0))
  | 2 =>
    if running 2 = false then .error 3
    else if part = 3 then .ok (0, 0, 3)
    else (match matchSet false (descKey d) (descElem d) s with
      | none => .error 1
      | some n =>
        let e := setEntry n s
        let t := if part = 0 then e.stateT else if part = 1 then e.masterT else e.landing
        fits t [1, 4] (t, n, part))
  | 3 =>
    if running 4 = false then .error 3
    else if 2 ≤ part then .error 1
    else (match matchSet true (descKey d) (descElem d) s with
      | none => .error 1
      | some n =>
        let e := setEntry n s
        let t := if part = 0 then e.stateT else e.masterT
        fits t [1, 4] (t, n, part))
  | 4 =>
    let t := descTensor d
    if s.trn.digests.any fun r => r.tensor == t then fits t [1, 4] (t, 0, 0) else .error 3
  | 5 => let t := descTensor d; fits t [1] (t, 0, 0)
  | 6 => let t := descTensor d; fits t [1] (t, 0, 0)
  | _ => .error 4

/-- A DESC whose OP is `op`, or reserved, opens a transfer into this module or is refused; in Sit-out it is refused with
reason 3 (10 R366, R377; 14 R492). -/
def takeDesc (op k : Nat) (f : Flit) (s : State) : State :=
  let d := flitData f 0
  let known := decide (1 ≤ descOp d ∧ descOp d ≤ 6)
  takeLocal k f (f.kind == 1 && (descOp d == op || !known)) (fun s =>
    if known ∧ inSitout s then answerDesc f 3 3 0 s
    else match descTarget f s with
      | .error r =>
        let s := onlyIf (descOp d == 1 && r == 1) (emit 0x8007 0 1) s
        answerDesc f 3 r 0 s
      | .ok (t, n, part) =>
        if part = 3 then restoreEnds (fld (flitData f 3) 191 128) (answerDesc f 2 0 0 s)
        else
          let x : Xfer := { Xfer.init with
            peer := f.src, no := f.xfer, desc := BitVec.ofNat 256 d,
            extra := (List.range 7).map fun i => dataSector (flitData f (i + 1)), tensor := t, opened := true, set_ := n,
            part := part }
          let rest := s.net.rxX.filter fun y => !(y.peer == f.src && y.no == f.xfer)
          let s := answerDesc f 1 0 t { s with net := { s.net with rxX := rest ++ [x] } }
          if descLen d = 0 then completeRx x s else s) s

/-- PARTNER_LANDING: a DESC of OP 0x01 opens a transfer into the LANDING tensor of the matching mirror set (09 R313). -/
def execPartnerLanding (link : Nat) (flit : Flit) (s : State) : Host.Outcome State Fault Refusal := run (takeDesc 1 link flit) s

/-- RESTORE: a DESC of OP 0x02 (09 R326; 10 R367). -/
def execRestore (link : Nat) (flit : Flit) (s : State) : Host.Outcome State Fault Refusal := run (takeDesc 2 link flit) s

/-- SEED: a DESC of OP 0x03 (09 R327). -/
def execSeed (link : Nat) (flit : Flit) (s : State) : Host.Outcome State Fault Refusal := run (takeDesc 3 link flit) s

/-- REPAIR: a DESC of OP 0x04 (09 R333, R334; 10 R367). -/
def execRepair (link : Nat) (flit : Flit) (s : State) : Host.Outcome State Fault Refusal := run (takeDesc 4 link flit) s

/-- EXTRACTION: a DESC of OP 0x05, into a resident tensor that covers it (14 R496). -/
def execExtraction (link : Nat) (flit : Flit) (s : State) : Host.Outcome State Fault Refusal := run (takeDesc 5 link flit) s

/-- POINT_TO_POINT_WRITE: a DESC of OP 0x06 (10 R366). -/
def execPointToPointWrite (link : Nat) (flit : Flit) (s : State) : Host.Outcome State Fault Refusal :=
  run (takeDesc 6 link flit) s

/-! ### DATA flits (10 R366) -/

/-- Every DATA flit of a transfer has been accepted once those of `got` are. -/
def xferWhole (x : Xfer) (got : List Nat) : Bool := (List.range (ceilDiv (descLen x.desc.toNat) 8)).all got.contains

/-- The sectors of a DATA flit are written unchanged from START + 8 × FOFF on, each held where an update step or a retrain holds
it, and the transfer completes with the last of them (08 R291; 10 R366 steps 4 and 5). -/
def acceptData (f : Flit) (x : Xfer) (s : State) : State :=
  let d := x.desc.toNat
  let e := tensorOf x.tensor s
  let xs := (carried f).take (descLen d - 8 * f.foff)
  let s := forEach (List.range xs.length) (fun i =>
    engineWrite (e.home + descStart d + 8 * f.foff + i) (nth ⟨0, 0⟩ xs i) (2 ^ 32 - 1) none) s
  let s := onlyIf (descOp d == 2 || descOp d == 3) (bumpBy xs.length Obj.RESTORE_SECTORS) s
  let got := (f.foff :: x.got).dedup
  let y := { x with got := got }
  let s := { s with net := { s.net with rxX := s.net.rxX.map fun z => if z = x then y else z } }
  if xferWhole x got then completeRx y s else s

/-- DATA_FLIT: a DATA flit of an open transfer; without one it is discarded with code 0x3015 (10 R366). A move keeps it waiting,
and the last flit waits until nothing holds a sector of the transfer, so that what its end reads has been written (07 R242;
08 R290, R291). -/
def execDataFlit (link : Nat) (flit : Flit) (s : State) : Host.Outcome State Fault Refusal :=
  run (fun s =>
    match s.net.rxX.find? fun x => x.peer == flit.src && x.no == flit.xfer with
    | none => takeLocal link flit (flit.kind == 2) (emit 0x3015 0 flit.src) s
    | some x =>
      let e := tensorOf x.tensor s
      let first := e.home + descStart x.desc.toNat + 8 * flit.foff
      let n := (carried flit).length
      let last := xferWhole x (flit.foff :: x.got)
      if e.state = 2 ∨ (List.range n).any (fun i => frozenAt 2 (first + i) s) ∨
          (last ∧ rangeHeld (e.home + descStart x.desc.toNat) (descLen x.desc.toNat) s) then s
      else if s.net.local_.contains (link, flit) = false ∨ flit.kind ≠ 2 then s
      else afterSnoops true [(first, n)] (takeLocal link flit true (acceptData flit x)) s) s

/-! ### REPORT flits (10 R366, R368) -/

/-- A REPORT of one status is taken. -/
def takeReport (status k : Nat) (f : Flit) (g : State → State) (s : State) : State :=
  takeLocal k f (f.kind == 3 && fld (flitData f 0) 255 248 == status) g s

/-- The transfer from here that a REPORT answers. -/
def answeredTx (f : Flit) (s : State) : Option Xfer := s.net.txX.find? fun x => x.no == f.xfer && x.peer == f.src

/-- A transfer from here has been opened at its far end: its DATA may be sent (10 R366 step 3). A landing leaves in its turn,
an extraction sector by sector (09 R313; 14 R496). -/
def transferOpened (x : Xfer) (s : State) : State :=
  let s := modTx x.no (fun x => { x with opened := true }) s
  match descOp x.desc.toNat with
  | 1 => promenadeGo s.trn.promenade.length s
  | 2 | 3 => sendAll x (bumpBy (descLen x.desc.toNat) Obj.RESTORE_SECTORS s)
  | 5 => s
  | _ => sendAll x s

/-- A REPORT waits, because what it sets going is held (08 R290; 07 R242). -/
def reportHeld (flit : Flit) (s : State) : Bool :=
  match answeredTx flit s with
  | some x => sendHeld x s
  | none => false

/-- What the transfers that a REPORT sets going read (12 R429). -/
def reportRanges (flit : Flit) (s : State) : List (Nat × Nat) :=
  match answeredTx flit s with
  | some x => sendRanges x s
  | none => []

/-- OPENED: DATA may be sent (10 R366 step 3). -/
def execOpened (link : Nat) (flit : Flit) (s : State) : Host.Outcome State Fault Refusal :=
  run (fun s => if reportHeld flit s then s else afterSnoops false (reportRanges flit s) (takeReport 1 link flit (fun s =>
    match answeredTx flit s with
    | none => s
    | some x => if x.opened then s else transferOpened x s)) s) s

/-- An extraction ends (14 R495, R496). -/
def endExtract (state : Nat) (s : State) : State :=
  emit 0x9412 0 state (wr Obj.EXTRACT_STATE state { s with flt := { s.flt with extract := none } })

/-- A transfer from here is complete: a restore or seeding, or the repairs of a figure, go on (10 R366 step 5). -/
def transferComplete (x : Xfer) (s : State) : State :=
  let s := dropTx x.no s
  match descOp x.desc.toNat with
  | 2 | 3 => restoreGo s
  | 4 => digestsGo s
  | _ => s

/-- COMPLETE: a transfer is complete at its sender (10 R366 step 5). -/
def execComplete (link : Nat) (flit : Flit) (s : State) : Host.Outcome State Fault Refusal :=
  run (takeReport 2 link flit fun s =>
    match answeredTx flit s with
    | none => s
    | some x => transferComplete x s) s

/-- A restore or seeding fails for a set (09 R326). -/
def failRestore (n : Nat) (s : State) : State := emit 0x800B 0 n (setRestore 4 none s)

/-- A transfer from here is refused for a reason: a landing leaves the Promenade, a restore or seeding fails, an unequal
repair is left unrepaired, an extraction ends (09 R326, R334; 10 R367; 14 R496). -/
def transferRefused (x : Xfer) (reason : Nat) (s : State) : State :=
  let s := dropTx x.no s
  match descOp x.desc.toNat with
  | 1 => promenadeGo s.trn.promenade.length s
  | 2 | 3 => if s.trn.restore.isSome then failRestore x.set_ s else s
  | 4 => if reason = 5 then digestsGo (leaveUnrepaired x.tensor s) else digestsGo s
  | 5 => endExtract 3 s
  | _ => s

/-- REFUSED: a transfer is refused (10 R366, R368). -/
def execRefused (link : Nat) (flit : Flit) (s : State) : Host.Outcome State Fault Refusal :=
  run (fun s => if reportHeld flit s then s else takeReport 3 link flit (fun s =>
    match answeredTx flit s with
    | none => s
    | some x => transferRefused x (fld (flitData flit 0) 247 240) s) s) s

/-- APPLIED_REPORT: PARTNER_APPLIED is set in the matching record when its STEP is the reported one, and the step may be
confirmed (09 R314, R317). -/
def execAppliedReport (link : Nat) (flit : Flit) (s : State) : Host.Outcome State Fault Refusal :=
  run (takeReport 0x10 link flit fun s =>
    let d := flitData flit 0
    match matchSet false (fld d 215 192) (fld d 191 152) s with
    | none => s
    | some n =>
      let r := recOf n s
      if r.step = fld d 151 88 then confirmStep (setRec n { r with partner := true } s) else s) s

/-! ### PROMENADE_SYNC (09 R316) -/

/-- Rows in ascending numeric order of KEY, ELEM_BASE, ELEMENTS. -/
def mapRow (e : SetEntry) (s : State) : Nat :=
  e.keyT * 2 ^ 80 + e.elemBase * 2 ^ 40 + (tensorOf e.landing s).elements

/-- The set-map digest of the primary or mirror sets (09 R316). -/
def mapDigest (mirror : Bool) (s : State) : Nat :=
  let rows := ((validSets s).filter fun n => (setEntry n s).mirror == mirror).map fun n => mapRow (setEntry n s) s
  (shake128 ((sortBy id rows).flatMap fun r =>
    leBytes 3 (fld r 103 80) ++ leBytes 5 (fld r 79 40) ++ leBytes 5 (fld r 39 0))).toNat

/-- A sync offer or answer with this module's values (10 R368). -/
def sendSync (status : Nat) (s : State) : State :=
  sendReport (partnerNode s) 0
    [reportBits status 0 0 0 0 (committedStep s) (rd Obj.STEP_STATE s) (rd Obj.PARTNER_ROLE s),
     mapDigest false s * 2 ^ 128 + mapDigest true s] s

/-- The two halves are compared and the figure completes; the partner's COMMITTED is kept (09 R316). -/
def compareSync (f : Flit) (s : State) : State :=
  let d := flitData f 0
  let m := flitData f 1
  let reason :=
    if fld d 151 88 ≠ committedStep s then 2
    else if fld d 85 85 = rd Obj.PARTNER_ROLE s then 3
    else if m / 2 ^ 128 ≠ mapDigest true s ∨ m % 2 ^ 128 ≠ mapDigest false s then 4 else 0
  let s := writeHeader (wr Obj.PARTNER_COMMITTED (fld d 151 88) s)
  match s.trn.syncEntry with
  | none => s
  | some e =>
    let s := { s with trn := { s.trn with syncEntry := none } }
    if reason = 0 then endFigure e 0 (wr Obj.PARTNER_STATE 1 s)
    else endFigure e 1 (emit 0x8007 0 reason (wr Obj.PARTNER_STATE 2 s))

/-- SYNC_OFFER: the follow answers the lead's offer with its own values and compares (09 R316). The offer waits until the
follow's own figure has fired. -/
def execSyncOffer (link : Nat) (flit : Flit) (s : State) : Host.Outcome State Fault Refusal :=
  run (fun s =>
    if s.trn.syncEntry.isNone ∧ inSitout s = false then s
    else takeReport 0x11 link flit (fun s => compareSync flit (sendSync 0x12 s)) s) s

/-- SYNC_ANSWER: the lead compares and its figure completes (09 R316). -/
def execSyncAnswer (link : Nat) (flit : Flit) (s : State) : Host.Outcome State Fault Refusal :=
  run (takeReport 0x12 link flit (compareSync flit)) s

end Sys2Proof.Machine
end

