-- ==== Sys2Proof/Machine/Collective.lean ====
section
/-! DEFINITION. Collectives: their figures, flits, rounds, ends and abort tokens; the Bow; digests and their repair; restores
(11 R387 to R417; 09 R317 to R334). -/

namespace Sys2Proof.Machine

open Sys2Proof

/-! ### Deadlines (02 R47, R53; 11 R391, R408) -/

/-- A figure that its deadline ended is counted (02 R52, R53). -/
def countDeadline (f : Fig) (s : State) : State := emit 0x4012 0 f.entry (bump Obj.CAL_ENDED_AT_DEADLINE s)

/-- A figure ends at firing or at its deadline without having started, and consumes one generation of READY_FLAG (11 R389, R391,
R412). -/
def refuseFigure (f : Fig) (s : State) : State := endFigure (figTag f) 1 (collCountUp f.entry s)

/-- A BOW figure that never held a slot ends aborted like one that did (09 R320). -/
def bowUnstarted (f : Fig) (s : State) : State :=
  onlyIf (figType f.desc == 1) (fun s => emit 0x8002 0 0xFFFFFFFF (bump Obj.BOWS_OPEN s)) s

/-- The repairs of a DIGEST figure that are not finished at its deadline are aborted on both sides: each of their blocks stays
divergent with code 0x8005, and their transfers are over (09 R334). -/
def abortRepairs (c : Coll) (s : State) : State :=
  let mine (x : Xfer) : Bool := repairOf c.tag s x
  let open_ := digestRuns c.tag s
  let s := forEach open_ (fun d => forEach d.awaits fun _ => leaveUnrepaired d.tensor) s
  { s with net := { s.net with
    txX := s.net.txX.filter fun x => !mine x
    rxX := s.net.rxX.filter fun x => !mine x } }

/-- The deadline of a figure of the collective engine passes: it ends aborted, started or not (02 R53; 11 R391, R408; 09 R320,
R334). -/
def deadlineColl (f : Fig) (s : State) : State :=
  match s.col.slots.find? fun c => c.entry == f.entry && c.tag == figTag f with
  | none => refuseFigure f (bowUnstarted f s)
  | some c =>
    let s := if c.kind = 6 then abortRepairs c s else s
    abortColl c (emit 0x3105 0 (c.stage * 32 + c.round) (bump Obj.COL_ENDED_AT_DEADLINE s))

/-- A figure of the collective engine: COLLECTIVE, BOW or DIGEST. -/
def isCollFigure (f : Fig) : Bool := [0, 1, 6].contains (figType f.desc)

/-- Every figure of the collective engine whose deadline has come ends, in ascending entry number (02 R53, R57). -/
def expireCollectives (s : State) : State :=
  let due := s.cal.figs.filter fun f => isCollFigure f && decide (f.deadline ≤ now s)
  forEach ((List.range 512).flatMap fun n => due.filter fun f => f.entry == n)
    (fun f s => deadlineColl f (countDeadline f s)) s

/-- What the engine does before it takes up anything: figures whose deadline has come end, and collectives whose contributions
have become ready contribute (11 R391, R408). -/
def engineTurn (s : State) : State := contributeReady (expireCollectives s)

/-! ### TAGs (11 R388, R635) -/

/-- The deadline of a DESC fired in measure `m` (02 R47). -/
def descDeadline (b : Nat) (d : BitVec 64) (m : Nat) : Nat :=
  beatStart b (m + fld d.toNat 43 40) (fld d.toNat 39 28)

/-- The deadline that a TAG not in flight is tied to, or none when it has passed (11 R635). -/
def tagDeadline (tag : Nat) (s : State) : Option Nat :=
  let b := beatB s
  let cur := measureAt b (now s)
  let d := BitVec.ofNat 64 (rd (Obj.ENTRY_DESC (tag / 16)) s)
  ((List.range 17).map fun i => cur + i - 15).findSome? fun m =>
    if m % 16 = tag % 16 ∧ cur ≤ m + 15 ∧ now s < descDeadline b d m then some (descDeadline b d m) else none

/-- The TAG's collective has ended on this member and its deadline has not passed (11 R408, R410). -/
def tagEnded (tag : Nat) (s : State) : Bool := s.col.ended.any fun p => p.1 == tag && decide (now s < p.2)

/-! ### VL0 flits of a collective in flight (11 R392 to R397) -/

/-- A gathered flit travels on: around the ring until every member has it, or down the tree (11 R384). -/
def forwardGather (c : Coll) (i : Nat) (f : Flit) (s : State) : State :=
  let x := stageBits c i
  let k := unitScale c (flitRound f)
  if stKind x = 2 ∧ (stPos x + 1) % max 1 (stN x) = shardOf x (flitBlock f / k) then s else stageSend c i f s

/-- Units that have not been accepted before from this neighbour at this stage and round (11 R396). -/
def freshUnits (c : Coll) (f : Flit) (who : Nat) (us : List Unit) : List Unit :=
  us.filter fun u => !c.seen.contains (flitStage f, flitRound f, f.kind, u.idx, who)

/-- The units a REDUCE flit carries; none for a reserved FORM. -/
def reduceUnits (f : Flit) (bs : List Byte) : List Unit :=
  let h := f.hdr.toNat
  let u (i e : Nat) (m : Bool) (vs : List Int) : Unit := { Unit.init with idx := i, exp := e, mix := m, vals := vs }
  let b := flitBlock f
  match flitForm f with
  | 0 =>
    let vs := bytesToInts 32 bs
    [u b (fld h 63 56) (bitOf h 44) (vs.take 32), u (b + 1) (fld h 55 48) (bitOf h 43) ((vs.drop 32).take 32)]
  | 1 => [u b (fld h 63 56) (bitOf h 44) ((bytesToInts 32 bs).take 32)]
  | 2 => [u b (fld h 63 56) (bitOf h 44) ((bytesToInts 64 bs).take 32)]
  | _ => []

/-- The units a COMBINE flit carries: the exact values or MAX bytes of its group (11 R393). -/
def combineUnits (c : Coll) (f : Flit) (bs : List Byte) : List Unit :=
  (groupOf c (stageBits c (flitStage f)) (flitBlock f)).mapIdx fun j i =>
    if collOp c = 5 then { Unit.init with idx := i, acc := accOfBits (ofLeBytes ((bs.drop (80 * j)).take 80)) }
    else { Unit.init with idx := i, bytes := (bs.drop (32 * j)).take 32 }

/-- The units a PLAIN flit carries. -/
def plainUnits (f : Flit) (bs : List Byte) : List Unit :=
  (List.range (fld f.hdr.toNat 47 45 + 1)).map fun j =>
    { Unit.init with idx := flitBlock f + j, round := flitRound f, bytes := (bs.drop (32 * j)).take 32 }

/-- The records a RECORD flit carries (11 R401). -/
def flitRecords (c : Coll) (f : Flit) (bs : List Byte) : List (Nat × BitVec 16) :=
  let n := fld f.hdr.toNat 47 45 + 1
  let x := stageBits c (flitStage f)
  if flitRound f = 0 then
    let last := if isRing x then shardFirst x (shardOf x (flitBlock f) + 1) else stFirst x + stCount x
    (List.range (min (16 * n) (last - flitBlock f))).map fun j =>
      (flitBlock f + j, BitVec.ofNat 16 (ofLeBytes ((bs.drop (2 * j)).take 2)))
  else
    (List.range (4 * n)).map fun j =>
      let e := ofLeBytes ((bs.drop (8 * j)).take 8)
      (fld e 63 32, BitVec.ofNat 16 e)

/-- Units reach their stage: a reduce stage folds them in, a gather stage holds them and passes the flit on. -/
def placeUnits (c : Coll) (f : Flit) (who : Nat) (us : List Unit) (s : State) : State :=
  let i := flitStage f
  let us := freshUnits c f who us
  let mark := us.map fun u => (i, flitRound f, f.kind, u.idx, who)
  let s := modColl c.tag (fun c => { c with seen := c.seen ++ mark }) s
  if i < reduceStages c then
    forEach us (fun u => foldUnit 16 c.tag { u with stage := i, round := flitRound f, from_ := [who] }) s
  else if us.isEmpty then s
  else
    let s := modColl c.tag (fun c => { c with stage := max c.stage i }) s
    forwardGather c i f (forEach us (holdFinal c.tag) s)

/-- A VL0 flit of a collective in flight that came from link `k` (11 R392 to R401). A flit that its stage does not receive on
that link is dropped, and one whose data arrive uncorrectable is a local fault. -/
def handleFlit (k : Nat) (f : Flit) (s : State) : State :=
  match slotOf (flitTag f) s with
  | none => s
  | some c =>
    let i := flitStage f
    match neighbour (stageBits c i) k, flitBytes f with
    | none, _ => s
    | some _, none => localFault c s
    | some who, some bs =>
      if runsStage c i = false ∨ collStages c ≤ i then s
      else
        let s := match f.kind with
          | 8 => if collOp c = 1 ∨ collOp c = 3 then placeUnits c f who (reduceUnits f bs) s else s
          | 9 =>
            let old (r : Nat × BitVec 16) : Bool := c.records.any fun q => q.1 == r.1
            let rs := ((flitRecords c f bs).filter fun r => unitActive c r.1 && !old r).dedup
            if flitRound f ≠ c.round ∨ i < reduceStages c ∨ rs.isEmpty then s
            else forwardGather c i f (modColl c.tag (fun c => { c with
              records := c.records ++ rs, stage := max c.stage i }) s)
          | 0xA => if reduceStages c = 0 then placeUnits c f who (plainUnits f bs) s else s
          | _ => if collOp c = 5 ∨ collOp c = 6 then placeUnits c f who (combineUnits c f bs) s else s
        pump c.tag s

/-- A flit of VL0 or a token that waits in the receive buffer of link `k` is taken (11 R392; log entry 17). -/
def takeRx (k : Nat) (f : Flit) (g : State → State) (s : State) : State :=
  if (linkOf k s).rx.contains f then
    g (returnCredit k f (modLink k (fun l => { l with rx := dropFirst (fun x => x == f) l.rx }) s))
  else s

/-- A VL0 flit of one KIND is taken: it goes to its collective, is staged for one that has not started while the landing buffer
has room, or is discarded (11 R397, R398, R408, R635). A later round of a DIGEST figure's gather waits for that round here. -/
def takeVl0 (kind k : Nat) (f : Flit) (s : State) : State :=
  let tag := flitTag f
  if f.vl ≠ 0 ∨ f.kind ≠ kind then s
  else
    let s := engineTurn s
    match slotOf tag s with
    | some c =>
      if c.kind = 6 ∧ c.round < flitRound f then s
      else
        let d := tensorOf (collDest c) s
        if c.kind = 0 then afterSnoops true [(d.home, d.size)] (takeRx k f (handleFlit k f)) s
        else takeRx k f (handleFlit k f) s
    | none =>
      if tagEnded tag s then takeRx k f id s
      else match tagDeadline tag s with
        | none => takeRx k f (emit 0x3109 0 tag) s
        | some d =>
          if 131072 ≤ s.col.staged.length then s
          else takeRx k f (fun s => { s with col := { s.col with staged := s.col.staged ++ [(k, f, d)] } }) s

/-- REDUCE: carry blocks combine, are forwarded or land (11 R394 to R396). -/
def execReduce (link : Nat) (flit : Flit) (s : State) : Host.Outcome State Fault Refusal := run (takeVl0 8 link flit) s

/-! ### The Bow (09 R317 to R323) -/

/-- The committed scalars of every set APPLIED in step N become its pending ones (09 R321 step 1). -/
def commitScalars (n : Nat) (s : State) : State :=
  forEach (List.range 2048) (fun k s =>
    let r := recOf k s
    if r.step = n ∧ r.applied then setRec k { r with scal := r.pend } s else s) s

/-- A commit of the open step (09 R321). -/
def commitStep (s : State) : State :=
  let n := openStep s
  openNewStep (bump Obj.BOWS_COMMITTED (setStep n 0 (commitScalars n s)))

/-- A sum the Bow has received, as an integer. -/
def bowSum (c : Coll) (i : Nat) : Int :=
  match finalAt c (stFirst (stageBits c 0) + i) with
  | none => -1
  | some u => match u.acc with
    | .finite v => v / (2 ^ 300 : Int)
    | _ => -1

/-- Every unit of a reducing collective's stage 0 has its final value here. -/
def finalsDone (c : Coll) : Bool :=
  (List.range (stCount (stageBits c 0))).all fun u => (finalAt c (stFirst (stageBits c 0) + u)).isSome

/-- BOW_RESULT: the exact-sum has completed: the module commits its open step, rolls it forward, or leaves it open
(09 R319, R321). -/
def execBowResult (tag : Nat) (s : State) : Host.Outcome State Fault Refusal :=
  run (fun s => let s := engineTurn s; match slotOf tag s with
    | none => s
    | some c =>
      if c.kind ≠ 1 ∨ finalsDone c = false then s
      else
        let p : Int := collP c
        let n : Int := openStep s
        let c0 := bowSum c 0
        let c1 := bowSum c 1
        let s := bump Obj.COMPLETED s
        if c0 = p ∧ c1 = p * n then freeSlot c 0 (commitStep s)
        else if p * n < c1 ∧ c.c0 = some true then
          freeSlot c 0 (emit 0x8006 0 (openStep s) (commitStep s))
        else freeSlot c 1 (emit 0x8002 0 (p - c0).toNat (bump Obj.BOWS_OPEN s))) s

/-- BOW_MARGIN_EXPIRE: with fewer than BOW_MARGIN beats left, an unconfirmed module contributes 0 (09 R318). -/
def execBowMarginExpire (tag : Nat) (s : State) : Host.Outcome State Fault Refusal :=
  run (fun s => let s := engineTurn s; match slotOf tag s with
    | none => s
    | some c =>
      if c.deadline < now s + rd Obj.BOW_MARGIN s * 2 ^ beatB s then contributeBow tag false s else s) s

/-! ### Digests (09 R329 to R334; log entry 35) -/

/-- The record of a tensor's digest: digest, tensor, node, whether it is valid, its blocks. -/
def digestRecord (d : DigestRun) (s : State) : List Byte :=
  leBytes 32 (d.digest.toNat * 2 ^ 128 + d.tensor * 2 ^ 104 + nodeId s * 2 ^ 80 + b2n (!d.invalid) * 2 ^ 79 +
    d.blocks.length % 2 ^ 32 * 2 ^ 47)

/-- The record of one block digest, valid where the tensor's digest is and the tensor has the block (09 R332). -/
def blockRecord (d : DigestRun) (b : Nat) (s : State) : List Byte :=
  leBytes 32 ((nth 0#128 d.blocks b).toNat * 2 ^ 128 + d.tensor * 2 ^ 104 + nodeId s * 2 ^ 80 +
    b2n (!d.invalid && decide (b < d.blocks.length)) * 2 ^ 79)

/-- This member's own records of the round are held and gathered: unit `j` of its shard stands for the `j`-th tensor of the
figure, in round 1 with one unit for each digest block. -/
def contributeDigests (tag : Nat) (s : State) : State :=
  match slotOf tag s with
  | none => s
  | some c =>
    let runs := digestRuns c.tag s
    let k := unitScale c c.round
    let first := (ownRange (stageBits c 0)).1
    let bytesOf (u : Nat) : List Byte := match runs[u / k - first]? with
      | some d => if c.round = 0 then digestRecord d s else blockRecord d (u % k) s
      | none => List.replicate 32 0
    let us := (ownUnits c 0).map fun u => { Unit.init with idx := u, round := c.round, bytes := bytesOf u }
    pump tag (modColl tag (fun c => { c with phase := .running, finals := c.finals ++ us }) s)

/-- The gathered records of a round as numbers, those of valid digests only. -/
def gatheredRecords (c : Coll) (round : Nat) : List (Nat × Nat) :=
  (c.finals.filter fun u => u.round == round && bitOf (ofLeBytes u.bytes) 79).map fun u => (u.idx, ofLeBytes u.bytes)

/-- The value that more than half of a list holds, of three or more (09 R333). -/
def majorityOf (vs : List Nat) : Option Nat :=
  if vs.length < 3 then none else vs.find? fun v => decide (vs.length < 2 * vs.count v)

/-- The tensors whose digests differ among their replicas, with their digest blocks, in ascending order (09 R331 step 3). -/
def differingTensors (c : Coll) : List (Nat × Nat) :=
  let rs := (gatheredRecords c 0).map (·.2)
  let ts := sortBy id (rs.map fun r => fld r 127 104).dedup
  ts.filterMap fun t =>
    let mine := rs.filter fun r => fld r 127 104 == t
    if ((mine.map fun r => fld r 255 128).dedup).length < 2 then none
    else some (t, max 1 ((mine.map fun r => fld r 78 47).foldl max 0))

/-- A block digest diverges: counted and recorded (09 R331 step 4). -/
def noteDivergence (t b : Nat) (s : State) : State :=
  wr Obj.LAST_DIVERGENCE (t * 2 ^ 40 + b % 2 ^ 40) (emit 0x8001 0 t (bump Obj.DIVERGENT_BLOCKS s))

/-- A repair is sent to a node (09 R334; 10 R367). -/
def sendRepair (dest destTensor t b : Nat) (d : BitVec 128) (s : State) : State :=
  let n := (digestSpan (tensorOf t s) b).2
  openTransfer dest (descBits 4 destTensor 0 0 (131072 * b) n (openStep s)) [b * 2 ^ 216 + d.toNat * 2 ^ 88] t 0 0 s

/-- The valid primary set whose WORKING tensor is `t`. -/
def workingSet (t : Nat) (s : State) : Option Nat :=
  (validSets s).find? fun n => let e := setEntry n s; e.working == t && !e.mirror

/-- The weight blocks of a digest block are derived again from the master (09 R333). -/
def rederiveBlock (n t b : Nat) (s : State) : State :=
  let e := tensorOf t s
  let per := 4 * 1024 * 1024 / (4 * fmtWidth e.fmt)
  let first := per * b
  let count := min per (blocksOf e.elements - first)
  blockRepaired t b (rederive n first count s)

/-- The members' nodes and digests of block `b` of a tensor that differs among its replicas (09 R331 step 3). -/
def blockValues (c : Coll) (t b : Nat) : List (Nat × Nat) :=
  ((gatheredRecords c 1).filter fun r => fld r.2 127 104 == t && r.1 % unitScale c 1 == b).map fun r =>
    (fld r.2 103 80, fld r.2 255 128)

/-- The digests of tensor `t` have been gathered from its replicas and agree (09 R333). -/
def replicasAgree (c : Coll) (t : Nat) : Bool :=
  ((gatheredRecords c 0).any fun r => fld r.2 127 104 == t) && !(c.redo.any fun p => p.1 == t)

/-- Three or more replicas of a tensor have a value of block `b` that more than half of them hold: all of them where no digest of
the tensor differs (09 R333). -/
def hasMajority (c : Coll) (t b : Nat) : Bool :=
  if replicasAgree c t then decide (3 ≤ ((gatheredRecords c 0).filter fun r => fld r.2 127 104 == t).length)
  else (majorityOf ((blockValues c t b).map (·.2))).isSome

/-- The repair policy on a block that differs among replicas (09 R333); a digest that is invalid takes no part (R332). `vs` are
the members' nodes and digests. -/
def repairReplica (c : Coll) (t b : Nat) (vs : List (Nat × Nat)) (s : State) : State :=
  match (digestRuns c.tag s).find? fun d => d.tensor == t && !d.invalid with
  | none => s
  | some run =>
    let s := noteDivergence t b s
    let pol := rd Obj.REPAIR_POLICY s
    let derived := (workingSet t s).filter fun n => decide (1 ≤ pol) && replicasAgree c (setEntry n s).masterT
    match derived with
    | some n => rederiveBlock n t b s
    | none =>
      match (if pol = 1 ∨ pol = 3 then majorityOf (vs.map (·.2)) else none) with
      | none => leaveUnrepaired t s
      | some v =>
        if (nth 0#128 run.blocks b).toNat ≠ v then
          modDigest t (fun d => { d with awaits := d.awaits ++ [b], disagrees := d.disagrees ++ [b] }) s
        else if (vs.find? fun p => p.2 == v).map (·.1) = some (nodeId s) then
          forEach (vs.filter fun p => p.2 != v) (fun p => sendRepair p.1 t t b (BitVec.ofNat 128 v)) s
        else s

/-- Every block of the tensors that differ among replicas is compared (09 R331 steps 3 and 4). -/
def compareReplicas (c : Coll) (s : State) : State :=
  forEach c.redo (fun p => forEach (List.range p.2) fun b s =>
    let vs := blockValues c p.1 b
    if ((vs.map (·.2)).dedup).length < 2 then s else repairReplica c p.1 b vs s) s

/-- The tensor is the STATE or MASTER tensor of a valid set: only these are compared with the partner (09 R331 step 2). -/
def partnerCompared (t : Nat) (s : State) : Bool :=
  (validSets s).any fun n => let e := setEntry n s; e.stateT == t || e.masterT == t

/-- The comparison with the partner and its repairs (09 R331, R333). -/
def comparePartner (c : Coll) (s : State) : State :=
  forEach (digestRuns c.tag s) (fun d s =>
    match d.partner with
    | none => s
    | some (pt, theirs) =>
      if d.invalid ∨ partnerCompared d.tensor s = false then s
      else
        let mirror := (validSets s).any fun n =>
          let e := setEntry n s; e.mirror && (e.stateT == d.tensor || e.masterT == d.tensor)
        let pol := rd Obj.REPAIR_POLICY s
        let bad := (List.range d.blocks.length).filter fun b => d.blocks[b]? != theirs[b]?
        forEach bad (fun b s =>
          let s := noteDivergence d.tensor b s
          let copied := if pol = 3 ∧ hasMajority c d.tensor b = true then d.disagrees.contains b else !mirror
          if pol ≠ 2 ∧ pol ≠ 3 then leaveUnrepaired d.tensor s
          else if copied then modDigest d.tensor (fun d => { d with awaits := (b :: d.awaits).dedup }) s
          else sendRepair (partnerNode s) pt d.tensor b (nth 0 d.blocks b) s) s) s

/-- The comparison of a DIGEST figure is done: it ends once its repairs have ended. -/
def endCompare (tag : Nat) (s : State) : State :=
  match slotOf tag s with
  | none => s
  | some c => digestsGo (modColl tag (fun c => { c with phase := .ending }) (comparePartner c s))

/-- A round of a DIGEST figure's gather is whole: after round 0 the block digests of every tensor that differs are gathered in
round 1; then the comparison ends (09 R331 steps 2 and 3). `n` bounds the rounds that need no flit. -/
def digestRound : Nat → Nat → State → State
  | 0, _, s => s
  | n + 1, tag, s =>
    match slotOf tag s with
    | none => s
    | some c =>
      let whole := if c.round = 0 then (gatherUnits c).all fun u => (finalAt c u).isSome
        else (roundUnits c).all fun u => (finalAt c u).isSome
      if c.kind ≠ 6 ∨ c.phase ≠ .running ∨ whole = false then s
      else
        let differ := differingTensors c
        if c.round = 0 ∧ differ.isEmpty = false then
          digestRound n tag (contributeDigests tag
            (modColl tag (fun c => { c with redo := differ, round := 1, sentOwn := [] }) s))
        else endCompare tag (compareReplicas c s)

/-- The digest of one tensor of a figure is taken: a run over an uncorrectable sector or a tensor written meanwhile is invalid,
another is stored and kept with what the partner sent (09 R329 to R332). -/
def takeDigest (d : DigestRun) (set : Nat) (partner : Option (Nat × List (BitVec 128))) (s : State) : State :=
  let t := d.tensor
  let e := tensorOf t s
  match readSectors e.home e.size s with
  | (none, s) => modDigest t (fun d => { d with done := true, invalid := true }) s
  | (some bs, s) =>
    if d.invalid then emit 0x8003 0 t (modDigest t (fun d => { d with done := true }) s)
    else storeDigest t (digestOf bs) (modDigest t (fun d => { d with
      done := true, digest := digestOf bs, blocks := blockDigests bs,
      partner := if bitOf set 1 && partnerCompared t s then partner else none }) s)

/-- What a DIGEST figure compares: bit 0 its replicas, bit 1 the partner (09 R331). -/
def digestCompares (entry : Nat) (s : State) : Nat :=
  match s.cal.figs.find? fun f => figTag f == entry with
  | some f => fld f.param.toNat 31 30
  | none => 0

/-- DIGEST_COMPUTED: the digest of one tensor of a figure is done; `partner` is what its partner's comparison brought: the
partner's tensor and block digests (09 R329 to R332; log entry 35). It waits for what holds a sector of the tensor (08 R290). -/
def execDigestComputed (entry tensor : Nat) (partner : Option (Nat × List (BitVec 128))) (s : State) :
    Host.Outcome State Fault Refusal :=
  run (fun s =>
    let s := engineTurn s
    match (digestRuns entry s).find? fun d => d.tensor == tensor && !d.done, s.col.slots.find? fun c => c.tag == entry && c.kind == 6 with
    | some d, some c =>
      let e := tensorOf tensor s
      if rangeHeld e.home e.size s ∨ digestEntryHeld tensor s then s
      else afterSnoops false [(e.home, e.size)] (fun s =>
        let set := digestCompares entry s
        let s := takeDigest d set partner s
        if (digestRuns entry s).all (·.done) = false then s
        else if bitOf set 0 then digestRound 3 c.tag (contributeDigests c.tag s)
        else endCompare c.tag s) s
    | _, _ => s) s

/-! ### The other VL0 flits -/

/-- RECORD: block status records are held and passed on (11 R401). -/
def execRecord (link : Nat) (flit : Flit) (s : State) : Host.Outcome State Fault Refusal := run (takeVl0 9 link flit) s

/-- PLAIN: sectors move unchanged; a DIGEST figure's gather may become whole (11 R392, R407; 09 R331). -/
def execPlain (link : Nat) (flit : Flit) (s : State) : Host.Outcome State Fault Refusal :=
  run (fun s => digestRound 3 (flitTag flit) (takeVl0 0xA link flit s)) s

/-- COMBINE: exact values or MAX bytes combine (11 R405, R407). -/
def execCombine (link : Nat) (flit : Flit) (s : State) : Host.Outcome State Fault Refusal := run (takeVl0 0xB link flit) s

/-! ### Rounds and completion (11 R402, R403) -/

/-- The VALUEs of a round's done and NaN blocks. -/
def roundValues (c : Coll) : List (Nat × BitVec 8) :=
  (c.records.filter fun r => recStatus r.2.toNat != 1).map fun r => (r.1, BitVec.ofNat 8 (recValue r.2.toNat))

/-- The next round of a collective begins on the blocks whose records say redo, with their exponents (11 R402). -/
def nextRound (tag : Nat) (c : Coll) (s : State) : State :=
  let redo := (c.records.filter fun r => recStatus r.2.toNat == 1).map fun r => (r.1, recValue r.2.toNat)
  let s := modColl tag (fun c => { c with
    round := c.round + 1, stage := 0, redo := redo, records := [], values := c.values ++ roundValues c,
    sentOwn := [] }) (bump Obj.LATER_ROUNDS s)
  pump tag (contributeUnits tag (redo.map (·.1)) s)

/-- The ranges a collective reads its sources from. -/
def sourceRanges (c : Coll) (s : State) : List (Nat × Nat) :=
  (collSources c).map fun t => let e := tensorOf t s; (e.home, e.size)

/-- ROUND_START: with every record of a round held and some saying redo, the next round begins on those blocks; a collective has
at most 31 later rounds (11 R402; 19 R603). It waits for what holds a source (08 R290). -/
def execRoundStart (tag : Nat) (s : State) : Host.Outcome State Fault Refusal :=
  run (fun s => let s := engineTurn s; match slotOf tag s with
    | none => s
    | some c =>
      if c.kind ≠ 0 ∨ c.phase ≠ .running ∨ recordsDone c = false ∨ redoAny c = false ∨ 31 ≤ c.round ∨
          ((sourceRanges c s).any fun r => rangeHeld r.1 r.2 s) = true then s
      else afterSnoops false (sourceRanges c s) (nextRound tag c) s) s

/-- A reduce-scatter into the LANDING tensor of a valid primary set has completed: the shard is retained, the set is triggered
and its landing is sent to the partner (08 R279, R281, R300; 09 R313, R322). -/
def landingDone (t : Nat) (s : State) : State :=
  match (validSets s).find? fun n => let e := setEntry n s; e.landing == t && !e.mirror with
  | none => s
  | some n =>
    let e := setEntry n s
    let s := { s with
      trn := { s.trn with retained := (t :: s.trn.retained).dedup },
      upd := { s.upd with landed := (n :: s.upd.landed).dedup } }
    let s := triggerSet n s
    let s := if e.clip then contributeReady (clipWrite e.clipGroup s) else s
    if partnerNode s = 0 then s else promenadeAdd n s

/-- The exact-sum on a clip tensor has completed: its value, rounded to FP32, is the group's NSQ; an unreadable clip tensor stops
the update function (08 R301; 03 R91). -/
def clipDone (g t : Nat) (s : State) : State :=
  let e := tensorOf t s
  match readBytesAt (dataAddr e) 80 s with
  | (none, s) => updateFault (0x800 + g) s
  | (some bs, s) =>
    let s := wr (Obj.NSQ (5 + g)) (toFp32 (accVal (accOfBits (ofLeBytes bs)))) s
    { s with upd := { s.upd with nsqValid := s.upd.nsqValid.set g true } }

/-- The history bytes a reducing collective leaves: every VALUE in source T, each own block's VALUE in the destination; a tensor
they are written into is WRITTEN (11 R403; 06 R226). -/
def writeValues (c : Coll) (values : List (Nat × BitVec 8)) (s : State) : State :=
  let t := tensorOf c.tensor s
  let d := tensorOf (collDest c) s
  let last := stageBits c (reduceStages c - 1)
  let (a, b) := ownRange last
  let owner := runsStage c (reduceStages c - 1) && (isRing last || (stSend last).isNone)
  forEach values (fun (u, v) s =>
    let s := if t.hist then markWritten c.tensor (engineBytes (histAddr t u) [v] s) else s
    if d.hist && owner && decide (a ≤ u ∧ u < b) then
      markWritten (collDest c) (engineBytes (histAddr d (u - destBase c)) [v] s) else s) s

/-- A COLLECTIVE has nothing left to do. -/
def collDone (c : Coll) : Bool :=
  c.kind == 0 && c.phase == .running &&
  (match collOp c with
   | 1 => recordsDone c && !redoAny c
   | 3 => recordsDone c && !redoAny c && finalsDone c
   | 5 | 6 => finalsDone c
   | _ => (gatherUnits c).all fun u => (finalAt c u).isSome)

/-- A COLLECTIVE ends with outcome 0: histories are written, its later rounds and realigned blocks are recorded and the slot is
freed; its destination is undefined where software wrote a source meanwhile (11 R402, R403). -/
def endColl (c : Coll) (s : State) : State :=
  let s := if collOp c = 1 ∨ collOp c = 3 then writeValues c (c.values ++ roundValues c) s else s
  let d := tensorOf (collDest c) s
  let s := onlyIf c.above (makeUndef (32 * d.home) (32 * d.size)) s
  let s := onlyIf (decide (0 < c.round)) (emit 0x3101 0 c.round) (bump Obj.COMPLETED s)
  freeSlot c 0 (onlyIf c.realigned (emit 0x3102 0 c.tensor) s)

/-- COLLECTIVE_COMPLETE: the last round has ended and nothing holds a write of its results, and a completed landing or clip sum
has its effect (11 R403; 08 R279, R291, R301; 09 R313). -/
def execCollectiveComplete (tag : Nat) (s : State) : Host.Outcome State Fault Refusal :=
  run (fun s => let s := engineTurn s; match slotOf tag s with
    | none => s
    | some c =>
      let d := tensorOf (collDest c) s
      if collDone c = false ∨ rangeHeld d.home d.size s then s
      else
        let s := endColl c s
        if collOp c = 1 then landingDone (collDest c) s
        else if collOp c = 5 then match clipGroupOf c.tensor s with
          | some g => clipDone g (collDest c) s
          | none => s
        else s) s

/-! ### Aborts (11 R408 to R413, R494) -/

/-- A collective in flight is aborted by a token and relays it (11 R410). -/
def tokenAbort (c : Coll) (origin : Nat) (s : State) : State :=
  abortColl c (sendTokens c 2 origin (emit 0x3106 0 origin (bump Obj.ABORTED_EARLY s)))

/-- ABORT_TOKEN: a received token aborts its collective, or every collective whose plan names the link; one for a TAG not in
flight is kept until its deadline, and one for a collective that has ended is discarded (11 R410 to R412; 14 R494). -/
def execAbortToken (link : Nat) (flit : Flit) (s : State) : Host.Outcome State Fault Refusal :=
  run (fun s =>
    if flit.vl ≠ 2 ∨ flit.kind ≠ 7 then s
    else let s := engineTurn s; takeRx link flit (fun s =>
      let h := flit.hdr.toNat
      let tag := flitTag flit
      let reason := fld h 105 98
      let origin := fld h 97 74
      let s := if (reason = 1 ∨ reason = 2) ∧ origin = partnerNode s ∧ origin ≠ 0 then
          emit 0x8901 0 0 (wr Obj.PARTNER_STATE 3 s)
        else s
      if bitOf h 106 then
        forEach (s.col.slots.filter fun c => (collLinks c).contains link) (fun c => tokenAbort c origin) s
      else match slotOf tag s with
        | some c => tokenAbort c origin s
        | none =>
          if tagEnded tag s then s
          else match tagDeadline tag s with
            | none => s
            | some d =>
              let rest := s.col.tokens.filter fun t => t.tag != tag
              { s with col := { s.col with tokens := rest ++ [⟨tag, origin, reason, d⟩] } }) s) s

/-- COLLECTIVE_LOCAL_FAULT: an internal fault of the engine, counted toward REPEAT_LIMIT (11 R410; 14 R502). -/
def execCollectiveLocalFault (tag : Nat) (s : State) : Host.Outcome State Fault Refusal :=
  run (fun s => let s := engineTurn s; match slotOf tag s with
    | none => s
    | some c => countRepeat 192 (localFault c s)) s

/-- STAGED_FLIT_EXPIRE: at its TAG's deadline what was staged for a collective that never started is discarded (11 R398). -/
def execStagedFlitExpire (tag : Nat) (s : State) : Host.Outcome State Fault Refusal :=
  run (fun s =>
    if s.col.staged.any fun p => flitTag p.2.1 == tag && decide (p.2.2 ≤ now s) then emit 0x3109 0 tag (dropStaged tag s) else s) s

/-- KEPT_TOKEN_EXPIRE: a kept token is dropped at its TAG's deadline (11 R412). -/
def execKeptTokenExpire (tag : Nat) (s : State) : Host.Outcome State Fault Refusal :=
  run (fun s => { s with col := { s.col with
    tokens := s.col.tokens.filter fun t => !(t.tag == tag && decide (t.deadline ≤ now s)) } }) s

/-! ### Firing (11 R387 to R391, R416; 09 R323) -/

/-- A figure in flight changed by `g`. -/
def modFig (e : Nat) (g : Fig → Fig) (s : State) : State :=
  { s with cal := { s.cal with figs := mapIf (fun f => figTag f == e) g s.cal.figs } }

/-- A figure starts: it is counted, and one past its 128-tick window is late (02 R52). -/
def markStarted (e : Nat) (s : State) : State :=
  match s.cal.figs.find? fun f => figTag f == e with
  | none => s
  | some f =>
    let s := bump Obj.FIRED (modFig e (fun f => { f with started := true, heldMove := false }) s)
    onlyIf (decide (f.fired + 128 ≤ now s)) (fun s => emit 0x4010 0 f.entry (bump Obj.LATE s)) s

/-- The links of a stage with the spare of each: SEND, RECV and the children (11 R383). -/
def stagePairs (x : Nat) : List (Nat × Option Nat) :=
  [(stSend x, stSendSpare x), (stRecv x, stRecvSpare x)].filterMap (fun (p, q) => p.map fun k => (k, q)) ++
  (stChildren x).filterMap fun p => p.map fun k => (k, none)

/-- A plan's stage entries. -/
def planStages (plan : List (BitVec 256)) : List Nat :=
  (List.range (fld (plan.headD 0).toNat 249 246)).map fun i => (nth 0#256 plan (i + 1)).toNat

/-- A link or its spare is usable. -/
def pairUsable (s : State) (p : Nat × Option Nat) : Bool :=
  linkReady p.1 s || (match p.2 with | some j => linkReady j s | none => false)

/-- The plan a figure runs: the spare plan when the primary has a link without a usable spare and the spare plan's own links are
usable; the second component says that the spare runs (11 R416). -/
def choosePlan (slot spare : Nat) (s : State) : List (BitVec 256) × Bool :=
  let p := planOf slot s
  let q := planOf spare s
  let bad := (planStages p).any fun x => (stagePairs x).any fun l => !pairUsable s l
  let fine := (planStages q).all fun x => (stagePairs x).all fun l => linkReady l.1 s
  if spare ≠ 255 ∧ bad ∧ fine then (q, true) else (p, false)

/-- A collective as it enters its slot: lost links move to their spares, and stages without one stop (11 R414 to R416). -/
def newColl (f : Fig) (kind : Nat) (plan : List (BitVec 256)) (tensor : Nat) (s : State) : Coll :=
  let st := planStages plan
  { Coll.init with
    entry := f.entry, tag := figTag f, kind := kind, plan := plan, tensor := tensor, deadline := f.deadline,
    target := (spGet 0 s.cal.counts f.entry + 1) % 2 ^ 31,
    spareUsed := (st.flatMap fun x => (stagePairs x).filterMap fun l =>
      if linkReady l.1 s then none else match l.2 with
        | some j => if linkReady j s then some l.1 else none
        | none => none).dedup,
    stuck := (List.range st.length).filter fun i => (stagePairs (nth 0 st i)).any fun l => !pairUsable s l }

/-- Why a COLLECTIVE does not start at firing: 0 when nothing forbids it, else the code (11 R389; 09 R322). -/
def collRefusal (c : Coll) (s : State) : Nat :=
  let op := collOp c
  let src := (collSources c).map fun t => tensorOf t s
  let d := tensorOf (collDest c) s
  let all := src ++ [d]
  let (a, b) := if (belowAt c).isSome then (0, 0) else ownRange (stageBits c (reduceStages c - 1))
  let top := ((List.range (collStages c)).map fun i => let x := stageBits c i; stFirst x + stCount x).foldl max 0
  let covers := match op with
    | 1 => decide (b - a ≤ blocksOf d.elements)
    | 3 => decide (top ≤ blocksOf d.elements)
    | 5 => decide (top ≤ d.elements)
    | _ => decide (top ≤ d.size)
  if all.any fun e => e.state != 1 then 0x3103
  else if all.any fun e => e.tier != 0 && e.tier != 2 then 0x3103
  else if (op = 1 ∨ op = 3) ∧ src.any fun e => e.fmt != 8 && e.fmt != 10 then 0x3103
  else if op = 5 ∧ all.any fun e => e.fmt != 9 then 0x3103
  else if covers = false then 0x3103
  else if op = 1 ∧ s.trn.retained.contains (collDest c) then 0x8008
  else 0

/-- The tensors a DIGEST figure names: one, or every marked one and those of every valid set, of those that are resident or will
be when a move ends (09 R305). -/
def digestTensors (t : Nat) (s : State) : List Nat :=
  if t ≠ 0xFFFFFF then [t]
  else
    let marked := (tensorIds s).filter fun t => (tensorOf t s).digestMark
    let sets := (validSets s).flatMap fun n =>
      let e := setEntry n s
      [e.stateT, e.masterT] ++ (if e.mirror then [] else [e.working])
    (sortBy id (marked ++ sets).dedup).filter fun t => (tensorOf t s).state == 1 || (tensorOf t s).state == 2

/-- A figure of the collective engine enters its slot: references are taken and flits staged for it are used (11 R387, R390,
R398). -/
def enterSlot (c : Coll) (s : State) : State :=
  let s := forEach (collRefs c) takeRef s
  let mine := s.col.staged.filter fun p => flitTag p.2.1 == c.tag
  let s := markStarted c.tag { s with col := { s.col with
    slots := s.col.slots ++ [c], staged := s.col.staged.filter fun p => flitTag p.2.1 != c.tag } }
  forEach mine (fun p => handleFlit p.1 p.2.1) s

/-- A COLLECTIVE, BOW or DIGEST figure tries to start: it ends at once on a kept token, waits for its function, a slot or a move,
is refused, or starts (11 R387 to R391, R412, R416; 09 R318, R323, R331). -/
def startColl (f : Fig) (s : State) : State :=
  let p := f.param.toNat
  let tag := figTag f
  match s.col.tokens.find? fun t => t.tag == tag with
  | some t =>
    let s := { s with col := { s.col with tokens := s.col.tokens.filter fun t => t.tag != tag } }
    let s := emit 0x3106 0 t.origin (bump Obj.ABORTED_EARLY s)
    refuseFigure f (bowUnstarted f s)
  | none =>
    if running 3 s = false ∨ 16 ≤ s.col.slots.length then s
    else match figType f.desc with
      | 0 =>
        let (plan, spare) := choosePlan (fld p 63 56) (fld p 31 24) s
        let c := newColl f 0 plan (fld p 55 32) s
        if (collRefs c).any fun t => (tensorOf t s).state == 2 then modFig (figTag f) (fun f => { f with heldMove := true }) s
        else match collRefusal c s with
          | 0 =>
            let s := onlyIf spare (fun s => emit 0x3108 0 (fld p 31 24) (bump Obj.SPARE_PLANS s)) s
            tryContribute tag (enterSlot c s)
          | code => refuseFigure f (emit code 0 (if code = 0x8008 then collDest c else c.tensor) s)
      | 1 =>
        let c := newColl f 1 (planOf (fld p 63 56) s) 0 s
        let s := enterSlot c s
        if rd Obj.PHASE s = 0 ∨ rd Obj.STEP_STATE s = 2 then contributeBow tag false (emit 0x800D 0 0 s)
        else
          let s := confirmStep s
          if rd Obj.STEP_STATE s = 1 then contributeBow tag true s else s
      | _ =>
        let c := newColl f 6 (planOf (fld p 63 56) s) (fld p 55 32) s
        let ts := digestTensors c.tensor s
        if ts.any fun t => (tensorOf t s).state == 2 then modFig (figTag f) (fun f => { f with heldMove := true }) s
        else if ts.any fun t => (tensorOf t s).state != 1 then refuseFigure f (emit 0x3103 0 c.tensor s)
        else
          let runs := ts.map fun t => { DigestRun.init with entry := tag, tensor := t }
          let s := forEach ts takeRef { s with trn := { s.trn with digests := s.trn.digests ++ runs } }
          let s := enterSlot c s
          if ts.isEmpty then endCompare tag s else s

/-! ### RESTORE_CONTROL (09 R326, R327; 14 R492) -/

/-- A restore or seeding begins: RESTORE_STATE and code 0x8009 (09 R326). -/
def beginRestore (state : Nat) (r : RestoreRun) (s : State) : State :=
  emit 0x8009 0 (rd Obj.RESTORE_SET s) (wr Obj.RESTORE_SECTORS 0 (setRestore state (some r) s))

/-- A write of RESTORE_CONTROL (09 R326, R327; 14 R492). -/
def writeRestoreControl (v : Nat) (s : State) : Nat × State :=
  let r : RestoreRun := { RestoreRun.init with kind := v }
  if inSitout s then (0x03000003, s)
  else if v = 5 then
    (0, let s := setRestore 0 none s
        if rd Obj.STEP_STATE s = 2 then setStep (committedStep s) 0 s else s)
  else if s.trn.restore.isSome then (0x03000004, s)
  else match v with
    | 1 =>
      let sets := namedSets true s
      (match sets.find? fun n => begunNow n s && !appliedNow n s with
      | some n => (0, failRestore n (beginRestore 1 r s))
      | none =>
        let again := sets.filter fun n => !begunNow n s && s.trn.retained.contains (setEntry n s).landing
        let s := beginRestore 1 { r with sets := sets.filter fun n => !again.contains n, waitApply := again } s
        (0, restoreGo (forEach again startSet s)))
    | 2 => (0, setStep (committedStep s) 2 (beginRestore 2 r s))
    | 3 => (0, restoreGo (beginRestore 1 { r with sets := namedSets false s } s))
    | 4 => (0, beginRestore 2 r s)
    | _ => (0x02000002, s)

/-- RESTORE_DONATE: RESTORE_CONTROL = 1 (09 R326 steps 2 to 4). -/
def execRestoreDonate (w : Writer) (s : State) : Host.Outcome State Fault Refusal :=
  run (command w 0x7120 1 1 (writeRestoreControl 1)) s

/-- RESTORE_RECEIVE: RESTORE_CONTROL = 2 (09 R326 step 1). -/
def execRestoreReceive (w : Writer) (s : State) : Host.Outcome State Fault Refusal :=
  run (command w 0x7120 1 2 (writeRestoreControl 2)) s

/-- SEED_MIRROR: RESTORE_CONTROL = 3 (09 R327). -/
def execSeedMirror (w : Writer) (s : State) : Host.Outcome State Fault Refusal :=
  run (command w 0x7120 1 3 (writeRestoreControl 3)) s

/-- RECEIVE_MIRROR: RESTORE_CONTROL = 4 (09 R327). -/
def execReceiveMirror (w : Writer) (s : State) : Host.Outcome State Fault Refusal :=
  run (command w 0x7120 1 4 (writeRestoreControl 4)) s

/-- RESTORE_CANCEL: RESTORE_CONTROL = 5 (09 R326). -/
def execRestoreCancel (w : Writer) (s : State) : Host.Outcome State Fault Refusal :=
  run (command w 0x7120 1 5 (writeRestoreControl 5)) s

/-! ### HISTORY_RESET (03 R100) -/

/-- A write of HISTORY_RESET: every history entry of the tensor is unknown (03 R100). -/
def writeHistoryReset (v : Nat) (s : State) : Nat × State := (0, historyUnknown (v % 2 ^ 24) s)

/-- HISTORY_RESET (03 R100). -/
def execHistoryReset (w : Writer) (v : BitVec 32) (s : State) : Host.Outcome State Fault Refusal :=
  run (command w 0x4103 1 v.toNat (writeHistoryReset v.toNat)) s

end Sys2Proof.Machine
end

