-- ==== Sys2Proof/Machine/StreamBase.lean ====
section
/-! DEFINITION. Streams: descriptors and their checks, ring positions, what consumers read and producers write, the end of a
stream, and a stream's faults (05 Stream engines, prefetch and weight lookahead). -/

namespace Sys2Proof.Machine

open Sys2Proof

/-! ### The descriptor (05 R164 to R171) -/

/-- KIND. -/
def Stream.kind (x : Stream) : Nat := fld x.hdr.toNat 255 254
/-- DIR: write. -/
def Stream.write (x : Stream) : Bool := bitOf x.hdr.toNat 253
/-- FAR. -/
def Stream.far (x : Stream) : Nat := fld x.hdr.toNat 252 251
/-- NEAR: the Floor. -/
def Stream.nearFloor (x : Stream) : Bool := bitOf x.hdr.toNat 250
/-- FILL. -/
def Stream.fill (x : Stream) : Bool := bitOf x.hdr.toNat 249
/-- PEER. -/
def Stream.peer (x : Stream) : Nat := fld x.hdr.toNat 248 246
/-- RING_BASE. -/
def Stream.base (x : Stream) : Nat := fld x.hdr.toNat 243 222
/-- RING_SIZE. -/
def Stream.size (x : Stream) : Nat := fld x.hdr.toNat 221 200
/-- FAR_BASE. -/
def Stream.farBase (x : Stream) : Nat := fld x.hdr.toNat 175 140
/-- WRAP_LEN. -/
def Stream.wrap (x : Stream) : Nat := fld x.hdr.toNat 139 104
/-- FAR_CORE. -/
def Stream.farCore (x : Stream) : Nat := fld x.hdr.toNat 103 100
/-- PROG_LEN: instructions - 1. -/
def Stream.progLen (x : Stream) : Nat := fld x.hdr.toNat 99 96
/-- CORE_FLAG. -/
def Stream.flag (x : Stream) : Nat := fld x.hdr.toNat 95 90
/-- FLAG_EN. -/
def Stream.flagEn (x : Stream) : Bool := bitOf x.hdr.toNat 89

/-- Sectors of a store: a core store or the Floor (06 R193). -/
def nearSectors (floor : Bool) : Nat := if floor then 2 ^ 21 else 2 ^ 18

/-- The header is legal for a stream of core `c` (05 R157, R164). A fill region of the Floor that reaches past it faults when a
sector beyond is addressed (06 R196). -/
def headerOk (c : Nat) (x : Stream) : Bool :=
  decide (x.kind ≤ 1) && x.far != 3 && fld x.hdr.toNat 245 244 == 0 && fld x.hdr.toNat 88 0 == 0 &&
  x.peer != 6 && (x.peer != 7 || x.fill) && !(x.peer == 5 && x.write) &&
  (!x.nearFloor || (x.fill && x.far == 0 && x.peer == 7)) &&
  !(x.far == 2 && x.farCore == c) &&
  decide (1 ≤ x.size) && (x.nearFloor || decide (x.base + x.size ≤ 2 ^ 18))

/-- OP of an address-program instruction (05 R166). -/
def apOp (i : BitVec 64) : Nat := fld i.toNat 63 60
/-- K. -/
def apK (i : BitVec 64) : Nat := fld i.toNat 59 57
/-- COUNT. -/
def apCount (i : BitVec 64) : Nat := fld i.toNat 23 0
/-- STRIDE of NEXT, S of ADD: signed sectors. -/
def apStride (i : BitVec 64) : Int := toSigned 40 i.toNat
/-- N of EMIT. -/
def apN (i : BitVec 64) : Nat := fld i.toNat 11 0 + 1

/-- Reserved bits of an instruction are 0 and its fields are in range. -/
def apFieldsOk (i : BitVec 64) : Bool :=
  match apOp i with
  | 0 => fld i.toNat 59 0 == 0
  | 1 => decide (apK i ≤ 5) && fld i.toNat 56 24 == 0 && apCount i != 0
  | 2 => decide (apK i ≤ 5) && fld i.toNat 56 40 == 0
  | 3 => fld i.toNat 59 12 == 0
  | 4 => fld i.toNat 59 40 == 0
  | _ => false

/-- The check of 05 R168 on all the instructions PROG_LEN allows, with the open loops innermost first; `done` once an END at loop
depth 0 has been seen. -/
def progOk : Bool → List Nat → List (BitVec 64) → Bool
  | done, _, [] => done
  | done, open_, i :: rest =>
    apFieldsOk i && (match apOp i with
      | 0 => progOk (done || open_.isEmpty) open_ rest
      | 1 => !open_.contains (apK i) && progOk done (apK i :: open_) rest
      | 2 => (match open_ with
        | k :: ks => k == apK i && progOk done ks rest
        | [] => false)
      | _ => progOk done open_ rest)

/-- The sectors a legal program moves up to its first END: every EMIT times the counts of the loops closed around it. The stack
holds the COUNT of each open loop with the sectors before it; an END inside a loop is met in the loop's first turn. -/
def progSectors : List (Nat × Nat) → Nat → List (BitVec 64) → Nat
  | _, n, [] => n
  | loops, n, i :: rest => match apOp i with
    | 0 => n + sumNat (loops.map (·.2))
    | 1 => progSectors ((apCount i, n) :: loops) 0 rest
    | 2 => (match loops with
      | (count, before) :: ls => progSectors ls (before + count * n) rest
      | [] => n)
    | 3 => progSectors loops (n + apN i) rest
    | _ => progSectors loops n rest

/-- INDEX_SRC: the running core's store. -/
def Stream.idxLocal (x : Stream) : Bool := bitOf x.index.toNat 231
/-- INDEX_TENSOR. -/
def Stream.idxTensor (x : Stream) : Nat := fld x.index.toNat 255 232
/-- INDEX_OFF. -/
def Stream.idxOff (x : Stream) : Nat := fld x.index.toNat 230 195
/-- Bytes of one index. -/
def Stream.idxBytes (x : Stream) : Nat := if fld x.index.toNat 194 193 = 0 then 2 else 4
/-- COUNT. -/
def Stream.idxCount (x : Stream) : Nat := fld x.index.toNat 192 169 + 1
/-- ROW_SECTORS. -/
def Stream.rowSectors (x : Stream) : Nat := fld x.index.toNat 168 153
/-- ROW_STRIDE. -/
def Stream.rowStride (x : Stream) : Nat := fld x.index.toNat 152 117

/-- The index descriptor is legal (05 R169). -/
def indexOk (x : Stream) : Bool :=
  decide (fld x.index.toNat 194 193 ≤ 1) && fld x.index.toNat 116 0 == 0 && x.rowSectors != 0 &&
  (!x.idxLocal || decide (x.idxOff < 2 ^ 18))

/-- The sectors a stream moves in all. -/
def Stream.total (x : Stream) : Nat :=
  if x.kind = 1 then x.idxCount * x.rowSectors else progSectors [] 0 x.prog

/-- Two near ends share a sector (05 R160). -/
def overlaps (x y : Stream) : Bool :=
  x.nearFloor == y.nearFloor && decide (x.base < y.base + y.size ∧ y.base < x.base + x.size)

/-! ### Engines -/

/-- Engine `e` of core `c`. -/
def streamEng (c e : Nat) (s : State) : Engine := nth Engine.init (coreOf c s).engines e

/-- Engine `e` of core `c` changed. -/
def modStreamEng (c e : Nat) (f : Engine → Engine) (s : State) : State :=
  modCore c (fun k => { k with engines := upd f k.engines e }) s

/-- The running stream of an engine changed. -/
def modRun (c e : Nat) (f : Stream → Stream) (s : State) : State :=
  modStreamEng c e (fun g => { g with run := g.run.map f }) s

/-- A stream fault: the task aborts at S1, the fault's tensor and offset are kept, the engine shows as faulted
(05 R191, R192). -/
def faultStream (c e code value tensor off : Nat) (s : State) : State :=
  let s := bump Obj.STREAM_FAULTS (wr Obj.LAST_FAULT_OFFSET off (wr Obj.LAST_FAULT_TENSOR tensor s))
  modStreamEng c e (fun g => { g with faulted := true }) (faultTask c code value s)

/-- A stream fault that no far offset belongs to, or none the engine knows yet: LAST_FAULT_OFFSET is left open (05 R192; log
entry 119). -/
def faultNowhere (c e code value tensor : Nat) (s : State) : State :=
  let (k, s) := drawFree s
  faultStream c e code value tensor (Config.freeWord k).toNat s

/-- The tensor a stream's fault names. -/
def Stream.faultTensor (x : Stream) : Nat := if x.far = 0 then x.tensor else 0

/-- The far sector number of an offset, or none outside the tensor or store (05 R165): the offset after the base and the
wrap, and the device sector. -/
def farSector (x : Stream) (off : Int) (s : State) : Option Nat :=
  let o : Int := if x.wrap = 0 then off else off % (x.wrap : Int)
  let a : Int := (x.farBase : Int) + o
  if a < 0 then none
  else
    let a := a.toNat
    match x.far with
    | 0 => let t := tensorOf x.tensor s; if a < t.size then some (t.home + a) else none
    | 1 => if a < 2 ^ 21 then some (0x20000000000 / 32 + a) else none
    | _ => if a < 2 ^ 18 then some (coreSector x.farCore a) else none

/-- The far offset as the fault registers and codes hold it. -/
def offValue (off : Int) : Nat := ofSigned 64 off

/-- The near sector of a stream-order position (05 R156). -/
def nearPos (x : Stream) (p : Nat) : Nat := x.base + (if x.fill then p else p % x.size)

/-- The device sector number of a near sector of core `c`. -/
def nearDevice (c : Nat) (floor : Bool) (k : Nat) : Nat :=
  if floor then 0x20000000000 / 32 + k else coreSector c k

/-- The position from `lo` on that lies at near sector `k`, when the ring or region holds it. -/
def posFrom (x : Stream) (lo k : Nat) : Option Nat :=
  if k < x.base ∨ x.base + x.size ≤ k then none
  else if x.fill then some (k - x.base)
  else
    let o := k - x.base
    some (lo + (o + x.size - lo % x.size) % x.size)

/-- One instruction of an address program (05 R167): the far offsets an EMIT names join those to be moved. -/
def apStep (x : Stream) : Stream :=
  let i := nth 0#64 x.prog x.pc
  let k := apK i
  match apOp i with
  | 1 => { x with
      loopC := x.loopC.set k (apCount i), loopO := x.loopO.set k x.off, loopTop := x.loopTop.set k (x.pc + 1),
      pc := x.pc + 1 }
  | 2 =>
    let n := nth 0 x.loopC k - 1
    let o := toSigned 40 (ofSigned 40 (nth 0 x.loopO k + apStride i))
    { x with
      loopC := x.loopC.set k n, loopO := x.loopO.set k o, off := o,
      pc := if 0 < n then nth 0 x.loopTop k else x.pc + 1 }
  | 3 => { x with
      todo := x.todo ++ (List.range (apN i)).map fun j => some (x.off + (j : Int)), emitted := x.emitted + apN i,
      off := toSigned 40 (ofSigned 40 (x.off + (apN i : Int))), pc := x.pc + 1 }
  | 4 => { x with off := toSigned 40 (ofSigned 40 (x.off + apStride i)), pc := x.pc + 1 }
  | _ => { x with ended := true }

/-- An address program run on until it has named `n` sectors beyond those moved; `fuel` bounds the instructions. -/
def apAhead (n : Nat) : Nat → Stream → Stream
  | 0, x => x
  | fuel + 1, x => if x.ended ∨ x.kind = 1 ∨ n ≤ x.todo.length then x else apAhead n fuel (apStep x)

/-- The far offset of a position of a read stream, as far as its engine has named it. -/
def posOffset (x : Stream) (p : Nat) : Option Int :=
  match x.inFlight.find? fun r => r.pos == p with
  | some r => some r.off
  | none => match x.arrived.find? fun r => r.1 == p with
    | some r => r.2
    | none =>
      if p < x.requested then none else nth none (apAhead (p - x.requested + 1) 65536 x).todo (p - x.requested)

/-- Code 0x2305 of engine `e`'s stream, at a position or for a ring or region that is too small (05 R156, R176, R178; 04 R152). -/
def underrun (c e : Nat) (o : Option Stream) (pos : Option Nat) (s : State) : State :=
  match o with
  | none => faultTask c 0x2305 0 s
  | some x => match pos.bind (posOffset x) with
    | some off => faultStream c e 0x2305 0 x.faultTensor (offValue off) s
    | none => faultNowhere c e 0x2305 0 x.faultTensor s

/-! ### Consumers (05 R174 to R176) -/

/-- A read ring's position is read by its consumer: it is freed once every earlier one has been (05 R175). -/
def takePos (p : Nat) (x : Stream) : Stream :=
  if p < x.freed then x
  else
    let t := if x.taken.contains p then x.taken else p :: x.taken
    let n := ((List.range t.length).takeWhile fun i => t.contains (x.freed + i)).length
    { x with freed := x.freed + n, taken := t.filter fun q => !decide (q < x.freed + n) }

/-- The position of a read stream that near sector `k` holds. -/
def heldPos (floor : Bool) (k : Nat) (x : Stream) : Option Nat :=
  if !x.write && x.nearFloor == floor then posFrom x x.freed k else none

/-- The sector of a ring that its consumer `peer` has taken, once it is filled. -/
def takeOne (peer : Nat) (floor : Bool) (k : Nat) (x : Stream) : Stream :=
  match heldPos floor k x with
  | some p => if !x.fill && x.peer == peer && decide (p < x.filled) then takePos p x else x
  | none => x

/-- The engines of core `c` free near sector `k`, which consumer `peer` has taken (05 R175). -/
def freeNear (c peer : Nat) (floor : Bool) (k : Nat) (s : State) : State :=
  modCore c (fun q => { q with engines := q.engines.map fun g =>
    { g with run := g.run.map (takeOne peer floor k), last := g.last.map (takeOne peer floor k) } }) s

/-- A consumer (an array 0-3, the vector unit 4, the weight port 5) reads near sector `k`. An error names the engine of a
running stream in whose ring the sector is not filled, and its position (05 R176). -/
def takeNear (c peer : Nat) (floor : Bool) (k : Nat) (s : State) : Except (Nat × Nat) State :=
  let bad (e : Nat) : Option (Nat × Nat) := match (streamEng c e s).run with
    | some x => if x.held then none else (heldPos floor k x).bind fun p => if x.filled ≤ p then some (e, p) else none
    | none => none
  match (List.range 4).findSome? bad with
  | some p => .error p
  | none => .ok (freeNear c peer floor k s)

/-! ### Producers (05 R179, R187) -/

/-- Bytes of core-store writes gathered into sectors: sector, data, byte mask. -/
def bySector : List (Nat × BitVec 8) → List (Nat × Nat × Nat)
  | [] => []
  | (a, b) :: rest =>
    let d := b.toNat * 2 ^ (8 * (a % 32))
    let m := 2 ^ (a % 32)
    match bySector rest with
    | (k, e, n) :: more =>
      if k = a / 32 then (k, (if n / m % 2 = 1 then e else e + d), n ||| m) :: more else (a / 32, d, m) :: (k, e, n) :: more
    | [] => [(a / 32, d, m)]

/-- The mask already at a ring position. -/
def maskAt (x : Stream) (p : Nat) : Nat := (spGet 0#32 x.masks p).toNat

/-- The running write ring of core `c` that `peer` produces for and that holds near sector `k`. -/
def ringFor (c peer k : Nat) (s : State) : Option (Nat × Stream) :=
  (List.range 4).findSome? fun e => match (streamEng c e s).run with
    | some x => if x.write && !x.stopped && !x.fill && !x.nearFloor && x.peer == peer && (posFrom x x.produced k).isSome then some (e, x) else none
    | none => none

/-- The position a producer's write of near sector `k` goes to: the next one not yet wholly written. -/
def writePos (x : Stream) (k : Nat) : Nat :=
  let p := (posFrom x x.produced k).getD 0
  if maskAt x p = 2 ^ 32 - 1 then p + x.size else p

/-- Every ring sector a producer would write is free (05 R179). -/
def ringFree (c peer : Nat) (gs : List (Nat × Nat × Nat)) (s : State) : Bool :=
  gs.all fun (k, _, _) => match ringFor c peer k s with
    | some (_, x) => decide (writePos x k < x.freed + x.size)
    | none => true

/-- Whole sectors in ring order become produced. -/
def advanceProduced : Nat → Stream → Stream
  | 0, x => x
  | n + 1, x =>
    if maskAt x x.produced = 2 ^ 32 - 1 then
      advanceProduced n { x with masks := spErase x.produced x.masks, produced := x.produced + 1 }
    else x

/-- A sector of core store `c`, or the bytes of `m` in it, is written with new check bytes, as an output of the core's task
(03 R104; 06 R213). -/
def storeSectors (c : Nat) (gs : List (Nat × Nat × Nat)) (s : State) : State :=
  let task := (coreOf c s).task
  forEach gs (fun (k, d, m) s =>
    let n := coreSector c k
    let s := noteOutput c (fun t => { t with stored := if t.stored.contains n then t.stored else n :: t.stored }) s
    if m = 2 ^ 32 - 1 then wrData n d s else sramPartial n d m task s) s

/-- Bytes that `peer` has written become valid in the write rings they lie in, and whole sectors produced (05 R179, R187). -/
def markRings (c peer : Nat) (gs : List (Nat × Nat × Nat)) (s : State) : State :=
  forEach gs (fun (k, _, m) s =>
    match ringFor c peer k s with
    | some (e, x) =>
      let p := writePos x k
      modRun c e (fun x =>
        let x := { x with masks := spInsert p (BitVec.ofNat 32 (maskAt x p ||| m)) x.masks }
        advanceProduced x.masks.length x) s
    | none => s) s

/-- Bytes of core store `c` that `peer` wrote are published: `rest`, those not yet in the store, are written, and every ring
sector of them becomes produced (04 R121, R150; 05 R179). -/
def produceRest (c peer : Nat) (bytes rest : List (Nat × BitVec 8)) (s : State) : State :=
  storeSectors c (bySector rest) (markRings c peer (bySector bytes) s)

/-- Bytes are written into core store `c` by `peer`, each sector with new check bytes, and its ring sectors become produced
(04 R121; 05 R179, R187; 06 R213). -/
def produce (c peer : Nat) (bytes : List (Nat × BitVec 8)) (s : State) : State := produceRest c peer bytes bytes s

/-! ### The end of a stream (05 R159, R181 to R183) -/

/-- The whole region of a fill write stream is produced when it starts (05 R180). -/
def startStream (x : Stream) : Stream := if x.write && x.fill then { x with produced := x.size } else x

/-- The queued stream of an engine starts (05 R159). -/
def promote (c e : Nat) (last : Option Stream) (s : State) : State :=
  modStreamEng c e (fun g => { g with run := g.queued.map startStream, queued := none, last := last }) s

/-- The running stream of an engine ends: its reference is released and the queued stream starts; a completed read stream's
sectors stay for its consumer. -/
def endStream (c e : Nat) (completed : Bool) (s : State) : State :=
  match (streamEng c e s).run with
  | none => s
  | some x =>
    let s := dropStreamRefs x s
    promote c e (if completed && !x.write then some { x with hasRef := false } else none) s

/-- A stream completes once its last sector is filled or accepted; completion raises its flag (05 R181). -/
def checkComplete (c e : Nat) (s : State) : State :=
  match (streamEng c e s).run with
  | none => s
  | some x =>
    let n := if x.write then x.accepted else x.filled
    if n = x.total ∧ (0 < x.total ∨ x.ended) then
      let s := endStream c e true s
      if x.flagEn then contributeReady (coreFlagUp x.flag s) else s
    else s

/-- A write stream that can produce no more has sent everything produced (05 R182, R183). -/
def writeSettled (x : Stream) : Bool := decide (x.accepted = x.produced) || decide (x.accepted = x.total)

/-- The engine's next access to sector `n` has to wait; one that an update step holds counts as held from now on
(05 R163; 08 R290, R291). -/
def streamWaits (c e n : Nat) (s : State) : State :=
  match (streamEng c e s).run with
  | some x =>
    if heldByUpdate n s && x.heldAt.isNone then
      bump Obj.HELD_ACCESSES (modRun c e (fun x => { x with heldAt := some s.clk.ticks }) s)
    else s
  | none => s

/-- The engine's next access goes; the length of its hold is kept (08, object 0x7020 sub 6). -/
def streamGoes (c e : Nat) (s : State) : State :=
  match (streamEng c e s).run.bind (·.heldAt) with
  | some t => noteHold t (modRun c e (fun x => { x with heldAt := none }) s)
  | none => s

/-- The far write of a stream is noted: of its tensor, or of a sector of the Floor or of another core (03 R104; 06 R226). -/
def noteFar (c n : Nat) (x : Stream) (s : State) : State :=
  if x.far = 0 then
    noteOutput c (fun t => { t with tensors := if t.tensors.contains x.tensor then t.tensors else x.tensor :: t.tensors })
      (markWritten x.tensor s)
  else noteOutput c (fun t => { t with stored := if t.stored.contains n then t.stored else n :: t.stored }) s

/-- The next index of an index stream is read and its row's sectors join those to be moved; a null index names a row of none. The
read waits like any other read of its sector (05 R163, R170, R171, R191). -/
def nextRow (c e : Nat) (x : Stream) (s : State) : State :=
  if x.kind ≠ 1 ∨ x.ended then s
  else
    let b := x.idxPos * x.idxBytes
    let k := x.idxOff + b / 32
    let t := tensorOf x.idxTensor s
    let n := if x.idxLocal then coreSector c k else t.home + k
    let id_ := if x.idxLocal then 0 else x.idxTensor
    if (if x.idxLocal then 2 ^ 18 else t.size) ≤ k then faultStream c e 0x2304 k id_ k s
    else if accessHeld n s || frozenAt 3 n s then streamWaits c e n s
    else if needsSnoop false n s then sendSnoop ((hostLine n).getD 0) none s
    else if (unitOf n).isSome && unitGone ((unitOf n).getD 0) s then faultStream c e 0x2302 k id_ k s
    else match consumeClean n (streamGoes c e s) with
      | (none, s) => faultStream c e 0x2302 k id_ k s
      | (some d, s) =>
        let w := 8 * x.idxBytes
        let v := d.toNat / 2 ^ (8 * (b % 32)) % 2 ^ w
        modRun c e (fun x => { x with
          idxPos := x.idxPos + 1, ended := decide (x.idxPos + 1 = x.idxCount), emitted := x.emitted + x.rowSectors,
          todo := x.todo ++ (List.range x.rowSectors).map fun j =>
            if v = 2 ^ w - 1 then none else some ((v * x.rowStride + j : Nat) : Int) }) s

/-- The far offsets of the `n` sectors after those sent are named, as far as the program or list goes; `fuel` bounds the
instructions and rows. -/
def nameAhead (c e n : Nat) : Nat → State → State
  | 0, s => s
  | fuel + 1, s => match (streamEng c e s).run with
    | some x =>
      if x.ended ∨ n ≤ x.todo.length then s
      else nameAhead c e n fuel (if x.kind = 1 then nextRow c e x s else modRun c e apStep s)
    | none => s

/-- The sectors of a write stream that its producer has written in part (05 R187). -/
def Stream.partials (x : Stream) : List (Nat × BitVec 32) := x.masks.filter fun p => p.2 != BitVec.allOnes 32

/-- A partial sector is sent with its mask, under new check bytes (05 R188; 06 R207). -/
def sendPartial (c e p m : Nat) (s : State) : State :=
  match (streamEng c e s).run with
  | none => s
  | some x => match nth none x.todo (p - x.sent) with
    | none => s
    | some o => match farSector x o s with
      | none => faultStream c e 0x2304 (offValue o) x.faultTensor (offValue o) s
      | some n => match consumeClean (coreSector c (nearPos x p)) s with
        | (none, s) => faultStream c e 0x2302 (offValue o) x.faultTensor (offValue o) s
        | (some d, s) =>
          let s := emit 0x2306 c (popCount 32 m) (bump Obj.PARTIAL_SECTORS s)
          engineWrite n (dataSector (overlay 0 d.toNat m)) m (coreOf c s).task (noteFar c n x s)

/-- A partial sector still waits: its row has not been read, or the host has to be snooped first (12 R429). -/
def partialWaits (x : Stream) (p : Nat) (s : State) : Bool :=
  match nth none x.todo (p - x.sent) with
  | some o => (farSector x o s).any fun n => needsSnoop true n s
  | none => !x.ended && decide (x.todo.length ≤ p - x.sent)

/-- A write stream that has sent everything produced ends: its partial sectors are sent, and sectors its program named but its
producer never produced are recorded; at END a stream that has not completed counts as stopped there (05 R182, R183, R188). -/
def endWrite (c e : Nat) (atEnd : Bool) (s : State) : State :=
  match (streamEng c e s).run with
  | none => s
  | some x =>
    let ahead := ((x.partials.map (·.1)).map fun p => p + 1 - x.sent).foldl max 0
    let s := modRun c e (fun x => { x with stopped := true }) (nameAhead c e ahead (2 ^ 24) s)
    match (streamEng c e s).run with
    | none => s
    | some x =>
      if x.partials.any fun p => partialWaits x p.1 s then
        forEach x.partials (fun p s => match (nth none x.todo (p.1 - x.sent)).bind fun o => farSector x o s with
          | some n => if needsSnoop true n s then sendSnoop ((hostLine n).getD 0) none s else s
          | none => s) s
      else
        let s := forEach x.partials (fun p => sendPartial c e p.1 p.2.toNat) s
        if (streamEng c e s).run.isNone then s
        else
          let left := x.total - x.produced
          let s := onlyIf (decide (0 < left)) (emit 0x2308 c left) s
          endStream c e false (onlyIf (atEnd && decide (x.accepted ≠ x.total)) (bump Obj.STOPPED_AT_END) s)

end Sys2Proof.Machine
end

