-- ==== Sys2Proof/Machine/Sequencer.lean ====
section
/-! DEFINITION. The core sequencer: how a command issues, which commands are legal, waits, flags, loops, the end of a task,
and the stream engines' own steps (04 The sequencer; 05 Stream engines, prefetch and weight lookahead). -/

namespace Sys2Proof.Machine

open Sys2Proof

/-! ### Legal commands (04 R147) -/

/-- OPCODE. -/
def cmdOp (w : Nat) : Nat := fld w 255 248

/-- An MX element format code. -/
def isMx (f : Nat) : Bool := decide (3 ≤ f ∧ f ≤ 7)

/-- The depth d of a pair of operand formats, none where R63 allows no such pair (03 R63, 04 R109). -/
def passDepth (fw fa : Nat) : Option Nat :=
  if fw = 1 ∧ fa = 1 then some 1
  else if fw = 2 ∧ fa = 2 then some 4
  else if isMx fw && isMx fa then (if fw = 7 ∧ fa = 7 then some 8 else some 4)
  else none

/-- A format the vector unit reads or writes element by element (03 R62, 04 R137). -/
def vecFormat (f : Nat) : Bool := f == 0 || f == 1 || isMx f

/-- The formats of a VOP are ones its operation takes, and FMT_B of a one-operand VOP is no reserved code
(04 R136 to R140, R147). -/
def vopFormatsOk (w : Nat) : Bool :=
  let op := fld w 247 240
  let a := fld w 239 236
  let b := fld w 235 232
  let d := fld w 231 228
  if 1 ≤ op ∧ op ≤ 6 then vecFormat a && vecFormat b && vecFormat d
  else if 7 ≤ op ∧ op ≤ 11 then vecFormat a && decide (b ≤ 10) && vecFormat d
  else if op = 0x10 then (vecFormat a || a == 9) && decide (b ≤ 10) && (d == 0 || d == 1 || d == 9)
  else if op = 0x11 then vecFormat a && vecFormat b && (d == 0 || d == 1 || d == 9)
  else if op = 0x12 then vecFormat a && decide (b ≤ 10) && (d == 0 || d == 1 || d == 9)
  else op == 0x20 && (a == 8 || a == 10) && (b == 8 || b == 10) && d == 10

/-- A command with a defined opcode, defined field values and zero reserved bits (04 R147). -/
def cmdOk (w : Nat) : Bool :=
  match cmdOp w with
  | 0x01 => fld w 162 0 == 0 && (List.range 4).all fun a => fld w (240 + 2 * a) (239 + 2 * a) != 3
  | 0x02 => fld w 174 0 == 0 && (passDepth (fld w 243 240) (fld w 239 236)).isSome &&
      (bitOf w 235 || decide (fld w 234 213 < 2 ^ 18 ∧ fld w 196 175 < 2 ^ 18))
  | 0x03 => fld w 243 0 == 0
  | 0x04 => fld w 146 0 == 0 && (fld w 243 240 == 1 || fld w 243 240 == 2 || isMx (fld w 243 240))
  | 0x05 => fld w 6 0 == 0 && (vecFormat (fld w 243 240) || fld w 243 240 == 8 || fld w 243 240 == 9) && fld w 238 237 != 3
  | 0x10 => fld w 28 0 == 0 && vopFormatsOk w
  | 0x20 => fld w 226 0 == 0
  | 0x21 => fld w 211 0 == 0
  | 0x30 => fld w 190 0 == 0 && (if bitOf w 247 then decide (fld w 246 239 < 64) else fld w 246 239 != 0)
  | 0x31 => fld w 241 0 == 0
  | 0x32 => fld w 238 0 == 0
  | 0x40 => fld w 221 0 == 0 && fld w 245 222 != 0
  | 0x41 => fld w 229 0 == 0
  | 0x7F => fld w 247 0 == 0
  | _ => false

/-! ### Issue (04 R141, R148) -/

/-- The next command of core `c` issues when `p` selects it: the sequencer runs, no pre-emption has stopped it, and the
command is legal. An unreadable command aborts with code 0x2202 (log entry 8), an illegal one with 0x2201. -/
def issue (c : Nat) (p : Nat → Bool) (f : Nat → State → State) (s : State) : State :=
  let k := coreOf c s
  if (k.status ≠ 1 ∧ k.status ≠ 2) ∨ k.preempting then s
  else if 2 ^ 18 ≤ k.base + k.pc then faultTask c 0x2201 k.pc s
  else match consumeClean (coreSector c (k.base + k.pc)) s with
    | (none, t) => faultTask c 0x2202 (k.base + k.pc) t
    | (some w, t) =>
      if cmdOk w.toNat = false then faultTask c 0x2201 k.pc t
      else if p w.toNat then f w.toNat t else s

/-- The command has issued: the sequencer goes on at command `pc`. -/
def goTo (c pc : Nat) (s : State) : State :=
  modCore c (fun k => { k with status := 1, pc := pc % 2 ^ 24, waitAt := none, waitTmo := 0 }) s

/-- The command has issued: the sequencer goes on at the next one. -/
def advance (c : Nat) (s : State) : State := goTo c ((coreOf c s).pc + 1) s

/-- The command waits: its tick of issue and its TIMEOUT are kept (04 R144). -/
def holdCmd (c tmo : Nat) (s : State) : State :=
  modCore c (fun k => { k with
    status := 2, waitAt := some (k.waitAt.getD s.clk.ticks), waitTmo := tmo }) s

/-- A fault of the command that is issuing. -/
def seqFault (c code : Nat) (s : State) : State := faultTask c code 0 s

/-! ### Operands from the core store (04 R152, 05 R176) -/

/-- A computation that reads operands: it ends with a value or with a fault's code and value. -/
abbrev Feed (α : Type) := ExceptT (Nat × Nat) (StateM State) α

/-- The units that read operands: core, consumer number of 05 R164 (7 frees no ring sector), read disturbances by near sector,
and the bytes that earlier passes of the same array are still to publish, newest first: commands on one array take effect in
issue order (04 R142). -/
structure Reader where
  core : Nat
  peer : Nat
  errs : List (Nat × BitVec 288)
  ahead : List (Nat × BitVec 8)

/-- A sector as a reader sees it, with the bytes of its array's earlier passes. -/
def Reader.overlaid (r : Reader) (k d : Nat) : Nat :=
  if r.ahead.isEmpty then d
  else (List.range 32).foldl (fun d i => match r.ahead.find? fun p => p.1 == 32 * k + i with
    | some p => setFld d (8 * i + 7) (8 * i) p.2.toNat
    | none => d) d

/-- One near sector read by a consumer: not filled, code 0x2305 with the engine and four times the stream-order position;
uncorrectable, code 0x2202; outside the Floor, code 0x2304 (06 R194, R196). -/
def Reader.sector (r : Reader) (floor : Bool) (k : Nat) : Feed Nat := fun s =>
  if floor ∧ nearSectors true ≤ k then (.error (0x2304, k), s)
  else
    let k := k % nearSectors floor
    match takeNear r.core r.peer floor k s with
    | .error (e, p) => (.error (0x2305, e + 4 * p), s)
    | .ok s =>
      let e := ((r.errs.find? fun p => p.1 == k).map (·.2)).getD 0
      match consume (nearDevice r.core floor k) e 0 s with
      | (some d, s) => (.ok (if floor then d.toNat else r.overlaid k d.toNat), s)
      | (none, s) => (.error (0x2202, k), s)

/-- `n` consecutive near sectors as one little-endian number. -/
def Reader.sectors (r : Reader) (floor : Bool) (k n : Nat) : Feed Nat := do
  let ds ← (List.range n).mapM fun i => r.sector floor (k + i)
  return ds.foldr (fun d acc => d + 2 ^ 256 * acc) 0

/-- The byte `b` bytes after the start of near sector `k`. -/
def Reader.byte (r : Reader) (k b : Nat) : Feed Nat := do
  let d ← r.sector false (k + b / 32)
  return fld d (8 * (b % 32) + 7) (8 * (b % 32))

/-- A fault met while reading operands: code 0x2305 is the fault of an engine's stream, every other the task's
(04 R152; 05 R176, R191). -/
def feedFault (c : Nat) (f : Nat × Nat) (s : State) : State :=
  if f.1 = 0x2305 then underrun c (f.2 % 4) (streamEng c (f.2 % 4) s).run (some (f.2 / 4)) s else faultTask c f.1 f.2 s

/-! ### Flow commands -/

/-- LOOP: counter CTR takes COUNT (04 R147). -/
def execLoop (core : Nat) (s : State) : Host.Outcome State Fault Refusal :=
  run (issue core (fun w => cmdOp w == 0x40) fun w s =>
    advance core (modCore core (fun k => { k with ctrs := k.ctrs.set (fld w 247 246) (fld w 245 222) }) s)) s

/-- BRANCH: 1 is subtracted from CTR; a result that is not zero jumps by OFFSET commands (04 R147). -/
def execBranch (core : Nat) (s : State) : Host.Outcome State Fault Refusal :=
  run (issue core (fun w => cmdOp w == 0x41) fun w s =>
    let n := (nth 0 (coreOf core s).ctrs (fld w 247 246) + (2 ^ 24 - 1)) % 2 ^ 24
    let s := modCore core (fun k => { k with ctrs := k.ctrs.set (fld w 247 246) n }) s
    if n ≠ 0 then goTo core (ofSigned 24 (((coreOf core s).pc : Int) + toSigned 16 (fld w 245 230))) s
    else advance core s) s

/-- FLAG: 1 is added to a core flag (04 R146). -/
def execFlag (core : Nat) (s : State) : Host.Outcome State Fault Refusal :=
  run (issue core (fun w => cmdOp w == 0x31) fun w s =>
    contributeReady (coreFlagUp (fld w 247 242) (advance core s))) s

/-- The arrays of a mask. -/
def arraysOf (mask : Nat) : List Nat := bitList 4 mask

/-- SYNC's condition: the named arrays have published, the named units are idle (04 R147). -/
def syncMet (c w : Nat) (s : State) : Bool :=
  let k := coreOf c s
  (arraysOf (fld w 247 244)).all (fun a => (nth Array.init k.arrays a).flight.isEmpty) &&
  (!bitOf w 243 || k.vops.isEmpty) &&
  (bitList 4 (fld w 242 239)).all fun e => match (nth Engine.init k.engines e).run with
    | some x => !x.write || (writeSettled x && x.inFlight.isEmpty)
    | none => true

/-- SYNC waits until the named arrays have published and the named units are idle (04 R142, R147). -/
def execSync (core : Nat) (s : State) : Host.Outcome State Fault Refusal :=
  run (issue core (fun w => cmdOp w == 0x32) fun w s =>
    if syncMet core w s then advance core s else holdCmd core 0 s) s

/-- The stream a CWAIT looks at: the completed one while its consumer has sectors to take, else the running one, else the
completed one. -/
def heldStream (g : Engine) : Option Stream :=
  match g.last, g.run with
  | some x, some y => if !x.fill && decide (x.freed < x.filled) then some x else some y
  | some x, none => some x
  | none, r => r

/-- Sectors of data an engine's stream holds, or of free space for a write stream, of which a fill region has none
(04 R147; 05 R180). -/
def heldSectors (x : Stream) : Nat :=
  if x.write then (if x.fill then 0 else x.size - (x.produced + x.masks.length - x.freed))
  else if x.fill then x.filled else x.filled - x.freed

/-- CWAIT's condition. -/
def cwaitMet (c w : Nat) (s : State) : Bool :=
  match heldStream (streamEng c (fld w 247 246) s) with
  | some x => decide (fld w 245 228 ≤ heldSectors x)
  | none => fld w 245 228 == 0

/-- CWAIT: more SECTORS than the ring or region holds abort with code 0x2305 (04 R147; 05 R178). -/
def execCwait (core : Nat) (s : State) : Host.Outcome State Fault Refusal :=
  run (issue core (fun w => cmdOp w == 0x21) fun w s =>
    let e := fld w 247 246
    match heldStream (streamEng core e s) with
    | some x =>
      if x.size < fld w 245 228 then underrun core e (some x) none s
      else if cwaitMet core w s then advance core s else holdCmd core (fld w 227 212) s
    | none => if cwaitMet core w s then advance core s else holdCmd core (fld w 227 212) s) s

/-- FWAIT's condition (04 R143). -/
def fwaitMet (w : Nat) (s : State) : Bool :=
  let n := fld w 246 239
  reached (if bitOf w 247 then coreFlag n s else flagGen n s) (fld w 238 208)

/-- FWAIT: a Caller flag that ended aborted aborts the task unless ABORT_OK (04 R143, R145). -/
def execFwait (core : Nat) (s : State) : Host.Outcome State Fault Refusal :=
  run (issue core (fun w => cmdOp w == 0x30) fun w s =>
    if fwaitMet w s then
      let o := if bitOf w 247 then 0 else flagOutcome (fld w 246 239) s
      let s := modCore core (fun k => { k with outcome := o }) s
      if o = 1 ∧ bitOf w 207 = false then seqFault core 0x2203 s else advance core s
    else holdCmd core (fld w 206 191) s) s

/-- WAIT_TIMEOUT: a CWAIT or FWAIT with a TIMEOUT that has not completed within it aborts the task (04 R144). -/
def execWaitTimeout (core : Nat) (s : State) : Host.Outcome State Fault Refusal :=
  run (fun s =>
    let k := coreOf core s
    match k.waitAt with
    | none => s
    | some a =>
      if k.status ≠ 2 ∨ k.waitTmo = 0 ∨ s.clk.ticks < a + k.waitTmo * 2 ^ beatB s then s
      else issue core (fun w => (cmdOp w == 0x21 && !cwaitMet core w s) || (cmdOp w == 0x30 && !fwaitMet w s))
        (fun _ s => seqFault core 0x2203 s) s) s

/-! ### END (04 R147; 05 R183; 12 R443) -/

/-- Every array, the vector unit and the drains of a core are idle. -/
def coreIdle (k : Core) : Bool := k.vops.isEmpty && k.arrays.all fun a => a.flight.isEmpty

/-- Write streams of an engine that can produce no more end, in turn (05 R183). -/
def settleWrites (c e : Nat) : Nat → State → State
  | 0, s => s
  | n + 1, s => match (streamEng c e s).run with
    | some x =>
      if x.write && writeSettled x && !x.held then settleWrites c e n (endWrite c e true s) else s
    | none => s

/-- Read streams of an engine, running and queued, stop at END (05 R182, R183). -/
def stopReads (c e : Nat) : Nat → State → State
  | 0, s => s
  | n + 1, s => match (streamEng c e s).run with
    | some x => if x.write then s else stopReads c e n (endStream c e false (bump Obj.STOPPED_AT_END s))
    | none => s

/-- The core's copy of the task has ended; the task completes once every core of its mask has ended (04 R107, R147; 12 R443). -/
def coreEnded (c : Nat) (s : State) : State :=
  let s := modCore c (fun k => { k with
    status := 0, waitAt := none, engines := k.engines.map fun g => { g with last := none } }) s
  match taskOn c s with
  | none => s
  | some t =>
    let t' := { t with ended := t.ended ++ [c] }
    if (bitList 16 t.mask).all fun k => t'.ended.contains k then
      let s := forEach (bitList 16 t.mask) (fun k => modCore k fun q => { q with task := none }) s
      complete t.queue (t.key % 65536) t.irq 0 0 { s with tasks := s.tasks.filter fun u => u.key != t.key }
    else { s with tasks := mapIf (fun u => u.key == t.key) (fun _ => t') s.tasks }

/-- END issues once every unit has finished and every write stream has completed or stopped (04 R147; 05 R183). -/
def execSeqEnd (core : Nat) (s : State) : Host.Outcome State Fault Refusal :=
  run (issue core (fun w => cmdOp w == 0x7F) fun _ s =>
    if coreIdle (coreOf core s) = false then holdCmd core 0 s
    else
      let s := forEach (List.range 4) (fun e => settleWrites core e 2) s
      let s := forEach (List.range 4) (fun e => stopReads core e 2) s
      let s := forEach (List.range 4) (fun e => settleWrites core e 2) s
      if (coreOf core s).task.isNone then s
      else if (coreOf core s).engines.any fun g => g.run.isSome then holdCmd core 0 s
      else coreEnded core s) s

/-! ### Streams -/

/-- The streams running or queued on a core. -/
def coreStreams (k : Core) : List Stream := k.engines.flatMap fun g => g.run.toList ++ g.queued.toList

/-- A near sector of the stream's descriptor. -/
def descSector (c k : Nat) : Feed Nat := (Reader.mk c 7 [] []).sector false k

/-- The descriptor at a core-store sector: header, program or index descriptor (05 R164, R166, R169). -/
def readStream (c k : Nat) : Feed Stream := do
  let h ← descSector c k
  let x := { Stream.init with hdr := BitVec.ofNat 256 h }
  if x.kind = 0 then
    let ds ← (List.range (x.progLen / 4 + 1)).mapM fun i => descSector c (k + 1 + i)
    let ins := (ds.flatMap fun d => (List.range 4).map fun i => BitVec.ofNat 64 (fld d (64 * i + 63) (64 * i))).take (x.progLen + 1)
    return { x with prog := ins }
  else
    let d ← descSector c (k + 1)
    return { x with index := BitVec.ofNat 256 d }

/-- The states in which the directory has a stream's tensors: all resident, some moving, or a miss with the tensor
(05 R161). -/
inductive Lookup where
  | here | moving (tensor : Nat) | miss (tensor : Nat)
  deriving DecidableEq, Repr

/-- The directory's answer for a stream (05 R161). -/
def lookup (x : Stream) (s : State) : Lookup :=
  match x.refs.find? fun t => (tensorOf t s).state != 1 && (tensorOf t s).state != 2 with
  | some t => .miss t
  | none => match x.refs.find? fun t => (tensorOf t s).state == 2 with
    | some t => .moving t
    | none => .here

/-- The streams of the module: of its cores, and of those saved by a pre-emption (05 R190). -/
def allStreams (s : State) : List Stream :=
  s.cores.flatMap coreStreams ++ s.tasks.flatMap fun t => t.saved.flatMap fun p => coreStreams p.2

/-- A stream that WINDOW_MODE permits (06 R230). -/
def modeAllows (e : DirEntry) (x : Stream) : Bool :=
  match e.windowMode with
  | 0 => true
  | 1 => !x.write && !x.nearFloor
  | 2 => !x.write && x.nearFloor
  | _ => false

/-- The rings of the module's streams that hold a reference to tensor `t`, with that of a stream being queued, stay within the
cap of WINDOW_LOG2 (06 R231). -/
def capAllows (t : Nat) (e : DirEntry) (x : Stream) (s : State) : Bool :=
  e.windowLog2 == 0 ||
  decide (sumNat (((allStreams s).filter fun y => y.hasRef && y.refs.contains t).map Stream.size) + x.size ≤ 2 ^ e.windowLog2)

/-- The tensor whose window policy or cap a stream breaks (06 R232). -/
def windowBroken (x : Stream) (s : State) : Option Nat :=
  x.refs.find? fun t => let e := tensorOf t s; !modeAllows e x || !capAllows t e x s

/-- A checked stream is queued on its engine, running at once when the engine is free (05 R159 to R161; 06 R232). -/
def queueStream (c e : Nat) (x : Stream) (s : State) : State :=
  let place (x : Stream) (s : State) : State :=
    let s := modCore c (fun k => { k with engines := k.engines.map fun g =>
      { g with last := g.last.bind fun y => if overlaps x y then none else some y } }) s
    modStreamEng c e (fun g => match g.run with
      | none => { g with run := some (startStream x), faulted := false }
      | some _ => { g with queued := some x }) s
  match lookup x s with
  | .miss t => faultNowhere c e 0x2303 t t s
  | r => match windowBroken x s with
    | some t => faultNowhere c e 0x1620 t t s
    | none => match r with
    | .moving t => checkComplete c e (place { x with held := true } (emit 0x2307 c t (bump Obj.HELD_ON_MOVE s)))
    | _ => checkComplete c e (place { x with hasRef := true } (forEach x.refs takeRef s))

/-- STREAM_START: issues when the queue slot is free; descriptor, program and rings are checked (05 R156 to R161, R168). -/
def execStreamStart (core : Nat) (s : State) : Host.Outcome State Fault Refusal :=
  run (issue core (fun w => cmdOp w == 0x20 && !bitOf w 245) fun w s =>
    let e := fld w 247 246
    if (streamEng core e s).queued.isSome then s
    else match readStream core (fld w 244 227) s with
      | (.error f, s) => feedFault core f s
      | (.ok x, s) =>
        if headerOk core x = false ∨ (if x.kind = 1 then indexOk x else progOk false [] x.prog) = false ∨
            ((coreStreams (coreOf core s)).any fun y => overlaps x y) = true then
          faultNowhere core e 0x2301 e x.faultTensor s
        else queueStream core e x (advance core s)) s

/-- A running stream is stopped: a read ends at once, a write once everything produced has been accepted (05 R182). -/
def stopStream (c e : Nat) (s : State) : State :=
  match (streamEng c e s).run with
  | none => s
  | some x =>
    if x.write = false ∨ x.held then endStream c e false s
    else if writeSettled x then endWrite c e false s
    else modRun c e (fun x => { x with stopped := true }) s

/-- STREAM_STOP: the engine's running stream ends; no flag is raised (05 R182). -/
def execStreamStop (core : Nat) (s : State) : Host.Outcome State Fault Refusal :=
  run (issue core (fun w => cmdOp w == 0x20 && bitOf w 245) fun w s =>
    stopStream core (fld w 247 246) (advance core s)) s

/-- A stream engine's own step: its core runs, no pre-emption has suspended it and its stream is not held on a move. -/
def engineStep (c e : Nat) (f : Stream → State → State) (s : State) : State :=
  if (coreOf c s).preempting then s
  else match (streamEng c e s).run with
    | some x => if x.held ∨ x.suspended then s else f x s
    | none => s

/-- One instruction of an address program, of the kind the command names; sectors already named are moved first (05 R167). -/
def apRow (op c e : Nat) (s : State) : State :=
  engineStep c e (fun x s =>
    if x.kind = 0 ∧ x.ended = false ∧ x.todo.isEmpty ∧ apOp (nth 0#64 x.prog x.pc) = op
    then checkComplete c e (modRun c e apStep s) else s) s

/-- AP_FOR: a loop is opened (05 R167). -/
def execApFor (core engine : Nat) (s : State) : Host.Outcome State Fault Refusal := run (apRow 1 core engine) s

/-- AP_NEXT: one iteration of a loop is closed (05 R167). -/
def execApNext (core engine : Nat) (s : State) : Host.Outcome State Fault Refusal := run (apRow 2 core engine) s

/-- AP_EMIT: N sectors are to be moved (05 R167). -/
def execApEmit (core engine : Nat) (s : State) : Host.Outcome State Fault Refusal := run (apRow 3 core engine) s

/-- AP_ADD: the offset moves (05 R167). -/
def execApAdd (core engine : Nat) (s : State) : Host.Outcome State Fault Refusal := run (apRow 4 core engine) s

/-- AP_END: the program ends (05 R167). -/
def execApEnd (core engine : Nat) (s : State) : Host.Outcome State Fault Refusal := run (apRow 0 core engine) s

/-- A sector reaches its ring position; sectors fill in stream order (05 R174). -/
def landSector (c e pos : Nat) (off : Option Int) (y : Sector) (s : State) : State :=
  match (streamEng c e s).run with
  | none => s
  | some x =>
    let s := fullWrite (nearDevice c x.nearFloor (nearPos x pos)) y s
    checkComplete c e (modRun c e (fun x =>
      let a := (pos, off) :: x.arrived
      let n := ((List.range a.length).takeWhile fun i => a.any fun p => p.1 == x.filled + i).length
      { x with filled := x.filled + n, arrived := a.filter fun p => !decide (p.1 < x.filled + n) }) s)

/-- One far request of a read stream: it needs a credit, an address inside its tensor or store, and a sector no update step,
retrain or host line holds (05 R156, R162, R163, R165, R171, R173). -/
def farRequest (c e : Nat) (s : State) : State :=
  engineStep c e (fun x s =>
    if x.write ∨ x.stopped then s
    else
      let s := if x.todo.isEmpty then nextRow c e x s else s
      match (streamEng c e s).run with
      | none => s
      | some x => match x.todo with
        | [] => s
        | o :: rest =>
          let pos := x.requested
          if x.fill ∧ x.size ≤ pos then underrun c e (some x) (some pos) s
          else if x.nearFloor ∧ nearSectors true ≤ nearPos x pos then
            (match o with
            | some off => faultStream c e 0x2304 (offValue off) x.faultTensor (offValue off) s
            | none => faultNowhere c e 0x2304 0 x.faultTensor s)
          else if x.fill = false ∧ x.size ≤ pos - x.freed then s
          else
            let took (s : State) : State := modRun c e (fun x => { x with todo := rest, requested := pos + 1 }) s
            match o with
            | none => landSector c e pos none (encodeSector 0) (took s)
            | some off => match farSector x off s with
              | none => faultStream c e 0x2304 (offValue off) x.faultTensor (offValue off) s
              | some n =>
                if accessHeld n s || frozenAt 3 n s then streamWaits c e n s
                else if needsSnoop false n s then sendSnoop ((hostLine n).getD 0) none s
                else
                  let r : FarReq := { pos := pos, far := some n, off := off, sector := readOverlay n s }
                  modRun c e (fun x => { x with inFlight := x.inFlight ++ [r] }) (took (streamGoes c e s))) s

/-- `n` far requests. -/
def farRequests (c e : Nat) : Nat → State → State
  | 0, s => s
  | n + 1, s => farRequests c e n (farRequest c e s)

/-- STREAM_FAR_REQUEST: an engine sends far requests while it holds credits, at most 16 per cycle (05 R159, R173). -/
def execStreamFarRequest (core engine count : Nat) (s : State) : Host.Outcome State Fault Refusal :=
  run (farRequests core engine (min count 16)) s

/-- SECTOR_ARRIVAL: a far sector arrives, as it was when read; its code is checked, and an uncorrectable one is read once
more and ends the task (05 R158, R162, R174, R191; 06 R206). -/
def execSectorArrival (core engine pos : Nat) (first again : BitVec 288) (s : State) :
    Host.Outcome State Fault Refusal :=
  run (fun s => match (streamEng core engine s).run with
    | none => s
    | some x => match x.inFlight.find? fun r => r.pos == pos && !x.write with
      | none => s
      | some r =>
        let n := r.far.getD 0
        let near := nearDevice core x.nearFloor (nearPos x pos)
        if needsSnoop true near s then sendSnoop ((hostLine near).getD 0) none s
        else
          let s := modRun core engine (fun x => { x with inFlight := x.inFlight.filter fun q => q.pos != pos }) s
          let fail (s : State) : State := faultStream core engine 0x2302 (offValue r.off) x.faultTensor (offValue r.off) s
          let y := disturb r.sector first
          if (unitOf n).isSome && unitGone ((unitOf n).getD 0) s then fail s
          else match decodeSector y with
            | .ok _ _ => landSector core engine pos (some r.off) y s
            | .bad => match decodeSector (disturb (rdSector n s) again) with
              | .bad => fail (confirmBad n s)
              | .ok _ _ => fail (countTransit n (emit 0x1601 (memSource n) 0xFF s))) s

/-- The far end has accepted the oldest sector sent: its ring sector is freed (05 R179). -/
def acceptedOne (c e : Nat) (s : State) : State :=
  let s := modRun c e (fun x => { x with inFlight := x.inFlight.tail, accepted := x.accepted + 1, freed := x.freed + 1 }) s
  match (streamEng c e s).run with
  | some x =>
    if x.stopped then (if writeSettled x then endWrite c e false s else s)
    else checkComplete c e s
  | none => s

/-- Skipped rows at the head leave without a far write (05 R171). -/
def skipNulls (c e : Nat) : Nat → State → State
  | 0, s => s
  | n + 1, s => match (streamEng c e s).run with
    | some x => match x.inFlight with
      | r :: _ => if x.write ∧ r.far = none then skipNulls c e n (acceptedOne c e s) else s
      | [] => s
    | none => s

/-- STREAM_WRITE_SEND: the next produced sector is sent, in ring order; a region with no further sector for the stream is too
small, and a stopped stream that has sent everything ends once its partial sectors can go (05 R156, R158, R165, R179, R182). -/
def execStreamWriteSend (core engine : Nat) (s : State) : Host.Outcome State Fault Refusal :=
  run (engineStep core engine fun x s =>
    if x.write = false then s
    else if x.stopped && writeSettled x then endWrite core engine false s
    else if x.produced ≤ x.sent ∧ (x.fill = false ∨ x.stopped ∨ x.total ≤ x.sent) then s
    else
      let s := if x.todo.isEmpty then nextRow core engine x s else s
      match (streamEng core engine s).run with
      | none => s
      | some x => match x.todo with
        | [] => s
        | o :: rest =>
          let send (far : Option Nat) (off : Int) (s : State) : State :=
            let y := rdSector (nearDevice core x.nearFloor (nearPos x x.sent)) s
            let r : FarReq := { pos := x.sent, far := far, off := off, sector := y }
            skipNulls core engine (x.inFlight.length + 1) (modRun core engine (fun x => { x with
              todo := rest, sent := x.sent + 1, requested := x.requested + 1, inFlight := x.inFlight ++ [r] }) s)
          if x.fill ∧ x.size ≤ x.sent then
            (match o with
            | some off => faultStream core engine 0x2305 0 x.faultTensor (offValue off) s
            | none => faultNowhere core engine 0x2305 0 x.faultTensor s)
          else match o with
            | none => send none 0 s
            | some off => match farSector x off s with
              | none => faultStream core engine 0x2304 (offValue off) x.faultTensor (offValue off) s
              | some n => if frozenAt 4 n s then s else send (some n) off s) s

/-- WRITE_ACCEPTED: the far end accepts the oldest write sent, whole (05 R172, R179, R192). -/
def execWriteAccepted (core engine : Nat) (s : State) : Host.Outcome State Fault Refusal :=
  run (fun s => match (streamEng core engine s).run with
    | none => s
    | some x => match x.inFlight with
      | r :: _ => match r.far with
        | some n =>
          if x.write = false then s
          else if accessHeld n s then streamWaits core engine n s
          else if needsSnoop true n s then sendSnoop ((hostLine n).getD 0) none s
          else
            let s := streamGoes core engine s
            let s := if (unitOf n).isSome && unitGone ((unitOf n).getD 0) s then s
              else noteFar core n x (fullWrite n r.sector s)
            skipNulls core engine x.inFlight.length (acceptedOne core engine s)
        | none => s
      | [] => s) s

/-- STREAM_HELD_RELEASE: a stream held on a moving tensor starts when the move ends, or misses (05 R161). -/
def execStreamHeldRelease (core engine : Nat) (s : State) : Host.Outcome State Fault Refusal :=
  run (fun s =>
    let g := streamEng core engine s
    let free (x : Stream) : Stream := { x with held := false, hasRef := true }
    let go (o : Option Stream) (set : (Stream → Stream) → State → State) (s : State) : State :=
      match o with
      | some x =>
        if x.held then match lookup x s with
          | .moving _ => s
          | .miss t => faultNowhere core engine 0x2303 t t s
          | .here => set free (forEach x.refs takeRef s)
        else s
      | none => s
    let s := go g.run (fun f => modRun core engine f) s
    checkComplete core engine (go (streamEng core engine s).queued
      (fun f => modStreamEng core engine fun g => { g with queued := g.queued.map f }) s)) s

end Sys2Proof.Machine
end

