-- ==== Sys2Proof/Machine/Arrays.lean ====
section
/-! DEFINITION. The matrix arrays: weight sets, passes, accumulator lines, partitions, the row reuse shift and the drain
(04 Weight sets, Passes, Partitioned arrays, The row reuse shift, Drain; 03 Drain rounding). -/

namespace Sys2Proof.Machine

open Sys2Proof

/-- Array `a` of core `c`. -/
def arrayOf (c a : Nat) (s : State) : Array := nth Array.init (coreOf c s).arrays a

/-- Array `a` of core `c` changed. -/
def modArray (c a : Nat) (f : Array → Array) (s : State) : State :=
  modCore c (fun k => { k with arrays := upd f k.arrays a }) s

/-! ### MODE (04 R122, R126, R127) -/

/-- MODE: ganged or independent, partitions, SHARE and partition tables; refused while a pass is in flight or a group open,
and when ganged arrays are not whole (04 R127). -/
def execMode (core : Nat) (s : State) : Host.Outcome State Fault Refusal :=
  run (issue core (fun w => cmdOp w == 0x01) fun w s =>
    let k := coreOf core s
    let part := (List.range 4).map fun a => fld w (240 + 2 * a) (239 + 2 * a)
    let busy := k.arrays.any fun a => !a.flight.isEmpty || a.group.isSome
    if busy ∨ (bitOf w 247 && part.any (· != 0)) then seqFault core 0x2204 s
    else advance core (modCore core (fun k => { k with
      gang := bitOf w 247, part := part,
      share := (List.range 4).map fun a => bitOf w (235 + a),
      ptab := (List.range 4).map fun a => fld w (180 + 18 * a) (163 + 18 * a) }) s)) s

/-- A ganged core's command that does not name all four arrays (04 R127). -/
def gangBroken (c mask : Nat) (s : State) : Bool := (coreOf c s).gang && mask != 15

/-! ### Weight sets (04 R109 to R116) -/

/-- The set a LOAD_W reads: 128 rows, and for MX formats one scale byte per block of rows and column (04 R110, R114; log
entries 9, 10). -/
def readSet (r : Reader) (w : Nat) : Feed WeightSet := do
  let fw := fld w 243 240
  let d := (passDepth fw (fld w 239 236)).getD 1
  let floor := bitOf w 235
  let n := 128 * d * fmtWidth fw / 256
  let rows ← (List.range 128).mapM fun i => r.sectors floor (fld w 234 213 + i * fld w 212 197) n
  let scales ← if isMx fw then r.sectors floor (fld w 196 175) (16 * d) else pure 0
  return { cmd := BitVec.ofNat 256 w, rows := rows.map (leBytes (32 * n)),
           scales := if isMx fw then leBytes (512 * d) scales else [] }

/-- The Floor sectors a LOAD_W reads; it reads a core store else (04 R110, R114; 12 R429). -/
def loadRanges (w : Nat) : List (Nat × Nat) :=
  let fw := fld w 243 240
  let d := (passDepth fw (fld w 239 236)).getD 1
  let at_ (k : Nat) : Nat := 0x20000000000 / 32 + k
  if bitOf w 235 then
    ((List.range 128).map fun i => (at_ (fld w 234 213 + i * fld w 212 197), 128 * d * fmtWidth fw / 256)) ++
      (if isMx fw then [(at_ (fld w 196 175), 16 * d)] else [])
  else []

/-- LOAD_W: a set is read for the shadows of the arrays named; a READY shadow is a sequence error, a LOADING one holds issue
(04 R106, R112, R113, R126). -/
def execLoadW (core : Nat) (errs : List (Nat × BitVec 288)) (s : State) : Host.Outcome State Fault Refusal :=
  run (issue core (fun w => cmdOp w == 0x02) fun w s =>
    let as := arraysOf (fld w 247 244)
    if gangBroken core (fld w 247 244) s || as.any (fun a => (arrayOf core a s).shadow == .ready) then seqFault core 0x2204 s
    else if as.any fun a => (arrayOf core a s).shadow == .loading then s
    else if bitOf w 235 && frozenAt 3 (0x20000000000 / 32) s then s
    else afterSnoops false (loadRanges w) (fun s => match readSet ⟨core, 5, errs, []⟩ w s with
      | (.error f, s) => feedFault core f s
      | (.ok x, s) => advance core (forEach as (fun a => modArray core a fun y =>
          { y with shadow := .loading, shadowSet := some x }) s)) s) s

/-- LOAD_W_COMPLETE: a load ends and the shadow becomes READY (04 R112, R113). -/
def execLoadWComplete (core array : Nat) (s : State) : Host.Outcome State Fault Refusal :=
  run (modArray core array fun y => if y.shadow = .loading then { y with shadow := .ready } else y) s

/-- Active and shadow sets are exchanged and the shadow is EMPTY (04 R115). -/
def swapped (y : Array) : Array := { y with active := y.shadowSet, shadowSet := none, shadow := .empty }

/-- A swap of an EMPTY shadow is a sequence error; one of a LOADING shadow waits (04 R116). -/
def swapState (c : Nat) (as : List Nat) (s : State) : ShadowState :=
  if as.any fun a => (arrayOf c a s).shadow == .empty then .empty
  else if as.any fun a => (arrayOf c a s).shadow == .loading then .loading
  else .ready

/-- SWAP (04 R115, R116). -/
def execSwap (core : Nat) (s : State) : Host.Outcome State Fault Refusal :=
  run (issue core (fun w => cmdOp w == 0x03) fun w s =>
    let as := arraysOf (fld w 247 244)
    if gangBroken core (fld w 247 244) s then seqFault core 0x2204 s
    else match swapState core as s with
      | .empty => if as.isEmpty then advance core s else seqFault core 0x2204 s
      | .loading => s
      | .ready => advance core (forEach as (fun a => modArray core a swapped) s)) s

/-! ### The west feed (04 R110, R117, R122 to R130; 05 R177) -/

/-- The value of a raw element of an operand format, with its block's scale byte. -/
def operandVal (f scale raw : Nat) : FVal :=
  match mxOf f with
  | some e => mxVal e scale raw
  | none => if f = 2 then FVal.ofInt (toSigned 8 raw) 0 else ofBf16 raw

/-- The activations of `rows` rows of depth `d` packed in a record whose sector t lies at `addr t`; `scale` is the sector of
an MX record's scale bytes, in a partitioned pass the last of the record's ACT_STRIDE sectors (04 R129; log entry 11). -/
def readRecord (r : Reader) (fa d rows : Nat) (addr : Nat → Nat) (scale : Nat) : Feed (List (List FVal)) := do
  let w := fmtWidth fa
  let n := ceilDiv (rows * d * w) 256
  let ds ← (List.range n).mapM fun t => r.sector false (addr t)
  let bits := ds.foldr (fun x acc => x + 2 ^ 256 * acc) 0
  let sc ← if isMx fa then r.sector false scale else pure 0
  return (List.range rows).map fun q => (List.range d).map fun t =>
    let i := q * d + t
    operandVal fa (fld sc (8 * (i / 32 % 32) + 7) (8 * (i / 32 % 32))) (bits / 2 ^ (w * i) % 2 ^ w)

/-- The rows of the array at one vector: a shifted row takes what row r - SPAN held at the vector before, every other row the
next activations of the record (04 R128, R129). -/
def placeRows (mask span d : Nat) (prev : List (List FVal)) : List (List FVal) → List Nat → List (List FVal)
  | _, [] => []
  | fed, r :: rs =>
    if bitOf mask r then nth (List.replicate d FVal.zero) prev (r - span) :: placeRows mask span d prev fed rs
    else fed.headD (List.replicate d FVal.zero) :: placeRows mask span d prev fed.tail rs

/-- The weights of one column of a set: the d values of each row (04 R110). -/
def columnWeights (x : WeightSet) (c : Nat) : List (List FVal) :=
  let w := x.cmd.toNat
  let fw := fld w 243 240
  let d := (passDepth fw (fld w 239 236)).getD 1
  let n := fmtWidth fw
  (List.range 128).map fun r =>
    let row := ofLeBytes (nth [] x.rows r)
    (List.range d).map fun t =>
      operandVal fw (nth 0#8 x.scales (r * d / 32 * 128 + c)).toNat (row / 2 ^ (n * (c * d + t)) % 2 ^ n)

/-- The exact sum of products down one column of a row band (04 R111; 03 R74 to R76). -/
def columnSum (acts weights : List (List FVal)) : Acc :=
  (acts.zip weights).foldl (fun acc (a, b) =>
    (a.zip b).foldl (fun acc (x, y) => accAdd acc (accOf (x.mul y))) acc) Acc.zero

/-- The sums of one vector whose rows column band cb holds as `rows` cb: problem p = row band x b + column band, column
(04 R122). -/
def vectorSums (ws : List (List (List FVal))) (b : Nat) (rows : List (List (List FVal))) : List (List Acc) :=
  let h := 128 / b
  (List.range (b * b)).map fun p =>
    let rb := p / b
    let cb := p % b
    let part := ((nth [] rows cb).drop (rb * h)).take h
    (List.range h).map fun c => columnSum part (((nth [] ws (cb * h + c)).drop (rb * h)).take h)

/-- The sums of a pass on one array in `b` row and column bands: problem, vector, column (04 R117, R122). `fetch` takes the
unshifted rows of vector i for each column band. -/
def passSums (x : WeightSet) (d b n mask span : Nat) (fetch : Nat → Feed (List (List (List FVal)))) :
    Feed (List (List (List Acc))) := do
  let ws := (List.range 128).map (columnWeights x)
  let step (acc : List (List (List FVal)) × List (List (List Acc))) (i : Nat) :
      Feed (List (List (List FVal)) × List (List (List Acc))) := do
    let fed ← fetch i
    let rows := (List.range b).map fun cb => placeRows mask span d (nth [] acc.1 cb) (nth [] fed cb) (List.range 128)
    return (rows, acc.2 ++ [vectorSums ws b rows])
  let (_, vs) ← (List.range n).foldlM step ([], [])
  return (List.range (b * b)).map fun p => vs.map fun v => nth [] v p

/-! ### The drain (04 R131 to R135; 03 R77 to R84, R95, R97 to R99) -/

/-- Where a problem's drained vectors go: the DRAIN command's fields, or its partition-table entry's (04 R125, R131). -/
structure DrainTo where
  dst : Nat
  dstStride : Nat
  scaleDst : Nat
  fusedSrc : Nat
  fusedStride : Nat
  hist : Nat
  tensor : Nat
  elem : Nat

/-- The settings of a DRAIN command. -/
def drainTo (w : Nat) : DrainTo :=
  ⟨fld w 230 213, fld w 212 197, fld w 196 179, fld w 178 161, fld w 160 145, fld w 144 127, fld w 126 103, fld w 102 39⟩

/-- The settings of a partition-table entry (04 R125). -/
def tableDrain (x : Nat) : DrainTo :=
  ⟨fld x 221 204, fld x 203 188, fld x 187 170, fld x 169 152, fld x 151 136, fld x 135 118, fld x 117 94, fld x 93 30⟩

/-- What one drained line writes: output bytes, history bytes, recorder codes. -/
structure LineOut where
  bytes : List (Nat × BitVec 8)
  hist : List (Nat × BitVec 8)
  notes : List (Nat × Nat)

/-- Bytes at a core-store byte address; addresses count modulo the store (log entry 37). -/
def bytesAt (a : Nat) (bs : List Byte) : List (Nat × BitVec 8) :=
  (List.range bs.length).map fun i => ((a + i) % 2 ^ 23, nth 0#8 bs i)

/-- A drained accumulator with its fused operand (03 R84). -/
def fusedVal (mode : Nat) (v : Acc) (x : Nat) : Acc :=
  match mode with
  | 1 => accAdd v (accOf (ofFp32 x))
  | 2 => accOf ((ofFp32 (toFp32 (accVal v))).mul (ofFp32 x))
  | _ => v

/-- The largest magnitude of a block of finite accumulators. -/
def accMaxLog2 (vs : List Acc) : Option Int := maxLog2 (vs.map accVal)

/-- What names the kind of a drained column: its accumulator, with a fused addend; where the accumulator is finite, the product
of a fused multiply (03 R83, R84; log entry 113). -/
def noteVal (mode : Nat) (line fused : Acc) : Acc := if mode = 2 ∧ accFinite line = false then line else fused

/-- The kind of the first accumulator that is not finite, as the code of a non-finite drain (03 R83). -/
def nonfiniteNote (vs : List Acc) : List (Nat × Nat) :=
  match vs.find? fun v => !accFinite v with
  | some v => [(0x2102, accKind v)]
  | none => []

/-- A recomputed tile: one for a block, whatever its number of raises (03 R82; log entry 118). -/
def raiseNote (n : Nat) : List (Nat × Nat) := if n = 0 then [] else [(0x2101, n)]

/-- H of a block whose history is unknown: 127 + floor(log2 m) of its own values (03 R98, R99); an all-zero block has no
logarithm and takes 0 (log entry 114). -/
def measuredHist (vs : List Acc) : Int :=
  match accMaxLog2 vs with
  | some k => 127 + k
  | none => 0

/-- One block of 32 columns drained into an MX format: bytes, scale, history byte, raises (03 R80, R83, R95, R98). -/
def drainMx (e : ElemFormat) (mode : Rounding) (head hist : Nat) (vs : List Acc) (r : Nat → Nat) :
    List Byte × Nat × BitVec 8 × Nat :=
  let n := 4 * e.width
  if vs.any fun v => !accFinite v then
    (List.replicate n 0, 255,
      Config.nonfiniteHist (BitVec.ofNat 8 hist) (vs.map fun v => BitVec.ofNat 640 (accBits v)), 0)
  else
    let k := accMaxLog2 vs
    let (h, up) : Int × Nat := if hist = 255 then (measuredHist vs, 3) else (hist, head)
    let b := mxDrain e mode h up ((List.range 32).map fun j => (accVal (nth Acc.zero vs j), r j))
    (leBytes n b.elems, b.scale, BitVec.ofNat 8 (histByte k), b.raises)

/-- One block drained into carry format (03 R81, R83, R97, R99). -/
def drainCarry (log2p hist : Nat) (vs : List Acc) : List Byte × Nat × Nat :=
  if vs.any fun v => !accFinite v then (carryBytes carryNan.vals, carryNan.exp, 0)
  else
    let h : Int := if hist = 255 then measuredHist vs else hist
    let us := vs.map fun v => match v with | .finite u => u | _ => 0
    let (c, n) := carryDrain (contribExp h (2 ^ log2p)) us
    (carryBytes c.vals, c.exp, n)

/-- One line drained as vector `j` of the armed drain (04 R131, R133, R135; 03 R78 to R84). -/
def drainLine (r : Reader) (head : Nat) (kstep : BitVec 64) (w : Nat) (t : DrainTo) (j : Nat) (line : List Acc) :
    Feed LineOut := do
  let fmt := fld w 243 240
  let mode : Rounding := if bitOf w 239 then .sr else .rne
  let fused := if fmt = 9 then 0 else fld w 238 237
  let ops ← if fused = 0 then pure 0 else r.sectors false (t.fusedSrc + j * t.fusedStride) (ceilDiv (4 * line.length) 32)
  let vs := (List.range line.length).map fun c => fusedVal fused (nth Acc.zero line c) (fld ops (32 * c + 31) (32 * c))
  let kinds := nonfiniteNote ((line.zip vs).map fun (l, v) => noteVal fused l v)
  let el := t.elem + j * fld w 38 7
  let out := 32 * (t.dst + j * t.dstStride)
  let rnd (place c : Nat) : Nat := if mode = .sr then randBits kstep place t.tensor ((el + c) % 2 ^ 64) else 0
  match fmt with
  | 0 => return ⟨bytesAt out (vs.flatMap fun v => leBytes 4 (toFp32 (accVal v))), [], kinds⟩
  | 1 =>
    let bs := (List.range vs.length).flatMap fun c => leBytes 2 (encodeIeee bf16 mode (rnd 2 c) (accVal (nth Acc.zero vs c)))
    return ⟨bytesAt out bs, [], kinds⟩
  | 9 => return ⟨bytesAt out (line.flatMap fun v => leBytes 80 (accBits v)), [], kinds⟩
  | _ =>
    let blocks ← (List.range (line.length / 32)).mapM fun b => do
      let at_ := 4 * j + b
      let hist ← r.byte t.hist at_
      let bv := (vs.drop (32 * b)).take 32
      match mxOf fmt with
      | some e => do
        let (bs, sc, h, n) := drainMx e mode head hist bv (fun i => rnd 3 (32 * b + i))
        return (⟨bytesAt (out + b * 4 * e.width) bs ++ bytesAt (32 * t.scaleDst + at_) [BitVec.ofNat 8 sc],
          bytesAt (32 * t.hist + at_) [h], raiseNote n⟩ : LineOut)
      | none => do
        let (bs, ex, n) := drainCarry (fld w 236 231) hist bv
        return (⟨bytesAt (out + b * 128) bs ++ bytesAt (32 * t.scaleDst + at_) [BitVec.ofNat 8 ex], [], raiseNote n⟩ : LineOut)
    return ⟨blocks.flatMap (·.bytes), blocks.flatMap (·.hist), kinds ++ blocks.flatMap (·.notes)⟩

/-- DRAIN arms the drain settings of the arrays named (04 R131). -/
def execDrain (core : Nat) (s : State) : Host.Outcome State Fault Refusal :=
  run (issue core (fun w => cmdOp w == 0x05) fun w s =>
    if gangBroken core (fld w 247 244) s then seqFault core 0x2204 s
    else advance core (forEach (arraysOf (fld w 247 244)) (fun a => modArray core a fun y =>
      { y with drain := some ⟨BitVec.ofNat 256 w, 0⟩ }) s)) s

/-! ### Passes (04 R117 to R121, R124 to R130) -/

/-- Bands of a partition mode (04 R122). -/
def bandsOf (part : Nat) : Nat := 2 ^ part

/-- Line `i` of problem `p` in the accumulator file of an array in `b` bands: row band and columns (04 R122). -/
def lineSlice (lines : List (List Acc)) (b p i : Nat) : List Acc :=
  let h := 128 / b
  let l := nth [] lines (p / b * h + i)
  (List.range h).map fun c => nth Acc.zero l (p % b * h + c)

/-- The accumulator file with lines 0 to n - 1 of every problem replaced; every other line is as before. -/
def keepLines (old : List (List Acc)) (b n : Nat) (sums : List (List (List Acc))) : List (List Acc) :=
  let h := 128 / b
  (List.range 128).map fun l =>
    if l % h < n then
      (List.range b).flatMap fun cb => nth [] (nth [] sums (l / h * b + cb)) (l % h)
    else nth (List.replicate 128 Acc.zero) old l

/-- Some column exceeds its range in `new` that did not in `old` (03 R75). -/
def newlyExceeded (old new : List (List Acc)) : Bool :=
  (List.range new.length).any fun i => ((nth [] new i).zip (nth [] old i ++ List.replicate 128 Acc.zero)).any fun (x, y) =>
    accKind x == 3 && accKind y != 3

/-- What a pass takes from its core when it issues. -/
structure PassPlan where
  w : Nat
  n : Nat
  acc : Nat
  mask : Nat
  span : Nat
  bind : Option Stream
  head : Nat
  kstep : BitVec 64

/-- The near sector of sector `t` of record `i` of a BIND pass (05 R177). -/
def bindSector (x : Stream) (stride i t : Nat) : Nat := nearPos x (x.freed + i * stride + t)

/-- What a feeder takes for one vector: the rows for each column band, and the near sectors of the record. -/
structure Fed where
  rows : List (List (List FVal))
  record : List Nat

/-- The consumer number of array `a`: in ganged mode every array takes A0's stream (04 R126; 05 R175). -/
def feederOf (k : Core) (a : Nat) : Nat := if k.gang then 0 else a

/-- The bytes that the passes in flight on an array, or on a ganged core, are still to publish, newest first (04 R142). -/
def unpublished (k : Core) (a : Nat) : List (Nat × BitVec 8) :=
  let fs := if k.gang then k.arrays.map fun y => y.flight.reverse else [(nth Array.init k.arrays a).flight.reverse]
  (List.range ((fs.map (·.length)).foldl max 0)).flatMap fun i => fs.flatMap fun f =>
    let p := nth PassFlight.init f i
    p.hist.reverse ++ p.writes.reverse

/-- Sectors of a record of `rows` rows of depth `d`: ACT_STRIDE, or those that hold its activations where vectors lie at no
distance from each other. -/
def recordLen (fa d rows stride : Nat) : Nat := if stride = 0 then ceilDiv (rows * d * fmtWidth fa) 256 else stride

/-- The rows of partition row band `rb` of the vector that column band `cb` takes from the partition table, and the record's
sectors (04 R124, R125, R129). -/
def tableRows (r : Reader) (fa d b : Nat) (mask : Nat) (table : List Nat) (rb cb v : Nat) :
    Feed (List (List FVal) × List Nat) := do
  let e := nth 0 table (rb * b + cb)
  let h := 128 / b
  let n := ((List.range h).filter fun r => !bitOf mask (rb * h + r)).length
  let st := fld e 237 222
  let at_ := fld e 255 238 + v * st
  let rows ← readRecord r fa d n (fun t => at_ + t) (at_ + st - 1)
  return (rows, (List.range (recordLen fa d n st)).map fun t => at_ + t)

/-- What the feeder of array `a` takes for its vector i: of a BIND stream, of ACT_ADDR in whole mode, or of the partition table;
one vector for all column bands of a row band under SHARE, or of a BIND stream (04 R124 to R126; 05 R177; log entry 116). -/
def takeVector (r : Reader) (k : Core) (a : Nat) (q : PassPlan) (fa d b : Nat) (table : List Nat) (i : Nat) : Feed Fed := do
  let v := if k.gang then 4 * i + a else i
  let stride := fld q.w 180 165
  let n := ((List.range 128).filter fun r => !bitOf q.mask r).length
  match q.bind with
  | some z =>
    let rows ← readRecord r fa d n (bindSector z stride v) (bindSector z stride v (stride - 1))
    return ⟨List.replicate b rows, (List.range stride).map (bindSector z stride v)⟩
  | none =>
    if b = 1 then
      let at_ := fld q.w 198 181 + v * stride
      let scale := fld q.w 164 147 + v
      let rows ← readRecord r fa d n (fun t => at_ + t) scale
      return ⟨[rows], (List.range (recordLen fa d n stride)).map (at_ + ·) ++ (if isMx fa then [scale] else [])⟩
    else if nth false k.share a then
      let parts ← (List.range b).mapM fun rb => tableRows r fa d b q.mask table rb 0 v
      return ⟨List.replicate b (parts.flatMap (·.1)), parts.flatMap (·.2)⟩
    else
      let bands ← (List.range b).mapM fun cb => (List.range b).mapM fun rb => tableRows r fa d b q.mask table rb cb v
      return ⟨bands.map fun parts => parts.flatMap (·.1), bands.flatMap fun parts => parts.flatMap (·.2)⟩

/-- One vector taken: its record is read by a reader that frees nothing, and then its sectors are freed (05 R175). -/
def fetchVector (r : Reader) (k : Core) (a : Nat) (q : PassPlan) (fa d b : Nat) (table : List Nat) (i : Nat) :
    Feed (List (List (List FVal))) := do
  let x ← takeVector { r with peer := 7 } k a q fa d b table i
  (fun s => (.ok PUnit.unit, forEach x.record (fun n => freeNear r.core (feederOf k a) false (n % 2 ^ 18)) s) : Feed PUnit)
  return x.rows

/-- One array's part of a pass: its sums, its drained lines, its new accumulator file. -/
def passArray (r : Reader) (k : Core) (a : Nat) (q : PassPlan) : Feed (Array × PassFlight) := do
  let y := nth Array.init k.arrays a
  let x := y.active.getD WeightSet.init
  let fa := fld q.w 243 240
  let d := (passDepth (fld x.cmd.toNat 243 240) fa).getD 1
  let b := bandsOf (nth 0 k.part a)
  let table ← if b = 1 then pure [] else (List.range (b * b)).mapM fun p => ({ r with peer := 7, ahead := [] } : Reader).sector false (nth 0 k.ptab a + p)
  let sums ← passSums x d b q.n q.mask q.span (fetchVector r k a q fa d b table)
  let grouped := q.acc = 2 ∨ q.acc = 3
  let sums := if grouped then (List.range (b * b)).map fun p => (List.range q.n).map fun i =>
      ((nth [] (nth [] sums p) i).zip (lineSlice y.lines b p i)).map fun (u, v) => accAdd u v
    else sums
  let kept := if q.acc = 0 then [] else keepLines (if grouped then y.lines else []) b q.n sums
  let over_ := if q.acc = 0 then sums.any fun vs => newlyExceeded [] vs
    else newlyExceeded (if grouped then y.lines else []) kept
  let rangeNote := if over_ then [(0x2103, 0)] else []
  let group := if q.acc = 1 ∨ q.acc = 2 then some q.n else none
  let lines := if q.acc = 1 ∨ q.acc = 2 then kept else []
  let flight := { PassFlight.init with cmd := BitVec.ofNat 256 q.w, notes := rangeNote }
  if q.acc = 1 ∨ q.acc = 2 then return ({ y with group := group, lines := lines }, flight)
  else
    let arm := y.drain.getD DrainArm.init
    let dw := arm.cmd.toNat
    let skip := fld q.w 224 221
    let outs ← (List.range (b * b)).mapM fun p => do
      let t := if b = 1 then drainTo dw else tableDrain (nth 0 table p)
      let ls ← (List.range q.n).mapM fun i => do
        let v := if k.gang then 4 * i + a else i
        if v < skip then return (⟨[], [], []⟩ : LineOut)
        else drainLine r q.head q.kstep dw t (arm.done + v - skip) (nth [] (nth [] sums p) i)
      return (⟨ls.flatMap (·.bytes), ls.flatMap (·.hist), ls.flatMap (·.notes)⟩ : LineOut)
    let total := if k.gang then 4 * q.n else q.n
    let bytes := outs.flatMap (·.bytes)
    let hist := outs.flatMap (·.hist)
    let flight := { flight with
      writes := bytes, hist := hist, notes := flight.notes ++ outs.flatMap (·.notes),
      regions := (bySector (bytes ++ hist)).map fun (k, _, _) => (32 * k, 32) }
    return ({ y with group := group, lines := lines, drain := some { arm with done := arm.done + (total - skip) } }, flight)

/-- A sequence error of a PASS: the group rules of 04 R119, R120, a missing set, a format the active set was not loaded for, a
drain that is not armed (log entry 38). -/
def passBroken (k : Core) (a acc n fa : Nat) (swap : Bool) : Bool :=
  let y := nth Array.init k.arrays a
  let limit := 128 / bandsOf (nth 0 k.part a)
  let x := if swap then y.shadowSet else y.active
  let grouped := acc == 2 || acc == 3
  let setOk : Bool := match x with
    | none => false
    | some x =>
      let fw := fld x.cmd.toNat 243 240
      (passDepth fw fa).isSome && passDepth fw fa == passDepth fw (fld x.cmd.toNat 239 236)
  (acc != 0 && decide (limit < n)) || (grouped && y.group != some n) || (!grouped && y.group.isSome) ||
  !setOk || ((acc == 0 || acc == 3) && y.drain.isNone)

/-- The shift descriptor's mask and span: no shift, a shift, or the code of a descriptor that is refused (04 R128, R130). -/
def readShift (c w : Nat) : Feed (Nat × Nat) := do
  if bitOf w 217 = false then return (0, 1)
  let x ← (Reader.mk c 7 [] []).sector false (fld w 216 199)
  let mask := fld x 255 128
  let span := fld x 127 121
  if fld x 120 0 ≠ 0 ∨ span = 0 ∨ 64 < span then throw (0x2201, (0 : Nat))
  if mask % 2 ^ span ≠ 0 then throw (0x2204, 0)
  return (mask, span)

/-- How a PASS stands with its BIND stream: no BIND, ready, to be waited for, or a fault code (05 R177, R178). -/
inductive BindState where
  | none_ | ready (x : Stream) | wait | fault (code : Nat)

/-- The BIND of a PASS (04 R147; 05 R177, R178). -/
def bindState (c w n : Nat) (s : State) : BindState :=
  if bitOf w 220 = false then .none_
  else
    let k := coreOf c s
    let as := arraysOf (fld w 247 244)
    match heldStream (streamEng c (fld w 219 218) s) with
    | none => .wait
    | some x =>
      let peer := if k.gang then x.peer == 0 else as.all fun a => x.peer == a
      let need := (if k.gang then 4 * n else n) * fld w 180 165
      if x.write || x.fill || !peer then .fault 0x2301
      else if x.size < need then .fault 0x2305
      else if x.filled - x.freed < need then .wait
      else .ready x

/-- What a PASS takes from its core, its shift, its BIND and the registers when it issues. -/
def passPlan (acc w mask span : Nat) (b : BindState) (s : State) : PassPlan :=
  { w := w, n := fld w 236 225 + 1, acc := acc, mask := mask, span := span
    bind := match b with | .ready x => some x | _ => none
    head := rd Obj.MX_HEADROOM s, kstep := stepSeed s }

/-- A pass on each of the arrays named, in turn, until one of them meets a fault; `k` is the core as it stood at issue. -/
def passArrays (core : Nat) (k : Core) (errs : List (Nat × BitVec 288)) (plan : PassPlan) :
    List Nat → State → Option (Nat × Nat) × State
  | [], s => (none, s)
  | a :: as, s => match passArray ⟨core, feederOf k a, errs, unpublished k a⟩ (coreOf core s) a plan s with
    | (.error f, s) => (some f, s)
    | (.ok (y, f), s) =>
      passArrays core k errs plan as (modArray core a (fun _ => { y with flight := y.flight ++ [f] }) s)

/-- A PASS issues with accumulation mode `acc` (04 R118 to R130, R153): it reads its operands, and its drained lines wait for
its end. -/
def issuePass (acc core : Nat) (errs : List (Nat × BitVec 288)) (s : State) : State :=
  issue core (fun w => cmdOp w == 0x04 && fld w 238 237 == acc) (fun w s =>
    let k := coreOf core s
    let as := arraysOf (fld w 247 244)
    let n := fld w 236 225 + 1
    let swap := bitOf w 239
    if s.pow.passHold ∨ s.pow.clamp then s
    else if gangBroken core (fld w 247 244) s then seqFault core 0x2204 s
    else if swap && as.any (fun a => (arrayOf core a s).shadow == .empty) then seqFault core 0x2204 s
    else if swap && as.any (fun a => (arrayOf core a s).shadow == .loading) then s
    else if as.any fun a => passBroken k a acc n (fld w 243 240) swap then seqFault core 0x2204 s
    else match readShift core w s with
      | (.error f, s) => if f.1 = 0x2201 then faultTask core 0x2201 k.pc s else feedFault core f s
      | (.ok (mask, span), s) => match bindState core w n s with
        | .wait => s
        | .fault code =>
          let e := fld w 219 218
          let x := heldStream (streamEng core e s)
          if code = 0x2305 then underrun core e x none s
          else faultNowhere core e code e ((x.map Stream.faultTensor).getD 0) s
        | b =>
          let s := if swap then forEach as (fun a => modArray core a swapped) s else s
          match passArrays core (coreOf core s) errs (passPlan acc w mask span b s) as s with
          | (some f, s) => feedFault core f s
          | (none, s) => advance core (bumpBy (rd Obj.THROTTLE_GAP s) Obj.THROTTLE_CYCLES s)) s

/-- PASS_SINGLE: every line is cleared, summed and drained (04 R119). -/
def execPassSingle (core : Nat) (errs : List (Nat × BitVec 288)) (s : State) : Host.Outcome State Fault Refusal :=
  run (issuePass 0 core errs) s

/-- PASS_OPEN: lines 0 to N - 1 are cleared, summed and kept (04 R119). -/
def execPassOpen (core : Nat) (errs : List (Nat × BitVec 288)) (s : State) : Host.Outcome State Fault Refusal :=
  run (issuePass 1 core errs) s

/-- PASS_CONTINUE: lines 0 to N - 1 are summed and kept (04 R119). -/
def execPassContinue (core : Nat) (errs : List (Nat × BitVec 288)) (s : State) : Host.Outcome State Fault Refusal :=
  run (issuePass 2 core errs) s

/-- PASS_CLOSE: lines 0 to N - 1 are summed and drained (04 R119). -/
def execPassClose (core : Nat) (errs : List (Nat × BitVec 288)) (s : State) : Host.Outcome State Fault Refusal :=
  run (issuePass 3 core errs) s

/-- The codes a drain or VOP recorded, with their counters (03 R82, R83). -/
def takeNotes (c : Nat) (ns : List (Nat × Nat)) (s : State) : State :=
  forEach ns (fun (code, v) s =>
    let s := emit code c v s
    if code = 0x2101 then bump Obj.RECOMPUTED_TILES s
    else if code = 0x2102 then bump Obj.NONFINITE_DRAINS s else s) s

/-- A residue mismatch of array 0-3 or the vector unit 4 of a core: the task aborts before anything of the pass is published,
and the unit's mismatches are counted (14 R501, R502). -/
def residueFault (c unit : Nat) (s : State) : State :=
  countRepeat (if unit < 4 then 112 + 4 * c + unit else 176 + c) (faultTask c 0x2901 (c * 5 + unit) s)

/-- PASS_PUBLISH: the oldest pass of an array ends and publishes its drained lines, once the ring sectors it writes are free
and the clamp is not engaged (04 R121, R133, R134, R154; 05 R179). -/
def execPassPublish (core array : Nat) (residueBad : Bool) (s : State) : Host.Outcome State Fault Refusal :=
  run (fun s => match (arrayOf core array s).flight with
    | [] => s
    | f :: rest =>
      let peer := if (coreOf core s).gang then 0 else array
      if s.pow.clamp || !ringFree core peer (bySector f.writes) s then s
      else if residueBad && !f.writes.isEmpty then residueFault core array s
      else
        let s := modArray core array (fun y => { y with flight := rest }) s
        takeNotes core f.notes (produce core 7 f.hist (produce core peer f.writes s))) s

end Sys2Proof.Machine
end

