-- ==== Sys2Proof/Machine/Vector.lean ====
section
/-! DEFINITION. The vector unit: element operations, conversion, exact reductions and CADD (04 R136 to R140, R150). -/

namespace Sys2Proof.Machine

open Sys2Proof

/-! ### Operands -/

/-- The elements of a FP32, BF16 or MX operand: the scales of an MX operand follow its last data sector (04 VOP). -/
def readVec (r : Reader) (f k n : Nat) : Feed (List FVal) := do
  let w := fmtWidth f
  if isMx f then
    let blocks := ceilDiv n 32
    let ds := ceilDiv (32 * blocks * w) 256
    let bits ← r.sectors false k ds
    let sc ← r.sectors false (k + ds) (ceilDiv blocks 32)
    return (List.range n).map fun i => operandVal f (sc / 2 ^ (8 * (i / 32)) % 256) (bits / 2 ^ (w * i) % 2 ^ w)
  else
    let bits ← r.sectors false k (ceilDiv (n * w) 256)
    return (List.range n).map fun i =>
      let x := bits / 2 ^ (w * i) % 2 ^ w
      if f = 0 then ofFp32 x else ofBf16 x

/-- The values an EXACT operand holds: exact 640-bit values, or the elements of another format (03 R76; 04 R137). -/
def readExact (r : Reader) (f k n : Nat) : Feed (List Acc) := do
  if f = 9 then
    let bits ← r.sectors false k (ceilDiv (n * 640) 256)
    return (List.range n).map fun i => accOfBits (bits / 2 ^ (640 * i) % 2 ^ 640)
  else return (← readVec r f k n).map accOf

/-- The blocks of a carry or wide carry operand, w / 8 sectors of data each: its exponents follow its last data sector (log
entry 36). -/
def readCarry (r : Reader) (f k blocks : Nat) : Feed (List Carry) := do
  let w := fmtWidth f
  let ds := blocks * (w / 8)
  let bits ← r.sectors false k ds
  let ex ← r.sectors false (k + ds) (ceilDiv blocks 32)
  return (List.range blocks).map fun b =>
    ⟨ex / 2 ^ (8 * b) % 256, (List.range 32).map fun j => toSigned w (bits / 2 ^ (w * (32 * b + j)) % 2 ^ w)⟩

/-! ### Results -/

/-- The result of an element operation, before it is rounded to FP32 (04 R136, R137). -/
def vopValue (op : Nat) (a b c : FVal) : FVal :=
  match op with
  | 0x01 => a.add b
  | 0x02 => a.mul b
  | 0x03 => (a.mul b).add c
  | 0x04 => a.minimum b
  | 0x05 => a.maximum b
  | 0x06 => (match c with
    | .fin _ m _ => if m = 0 then b else a
    | _ => a)
  | 0x08 => a.exp2
  | 0x09 => a.log2
  | 0x0A => FVal.div (.fin false 1 0) a
  | 0x0B => a.rsqrt
  | _ => a

/-- Values written in a format at DST, MX scales at DST_SCALE, block by block; a conversion to BF16 or MX draws place 0x06
(04 R137, R138; 03 R90, R91). -/
def writeVec (w : Nat) (kstep : BitVec 64) (vs : List FVal) : List (Nat × BitVec 8) :=
  let f := fld w 231 228
  let mode : Rounding := if bitOf w 227 then .sr else .rne
  let out := 32 * fld w 172 155
  let rnd (i : Nat) : Nat := if mode = .sr then randBits kstep 6 (fld w 116 93) ((fld w 92 29 + i) % 2 ^ 64) else 0
  match mxOf f with
  | some e =>
    (List.range (ceilDiv vs.length 32)).flatMap fun b =>
      let bv := (List.range 32).map fun j => (nth FVal.zero vs (32 * b + j), rnd (32 * b + j))
      let x := mxConvert e mode bv
      bytesAt (out + b * 4 * e.width) (leBytes (4 * e.width) x.elems) ++
        bytesAt (32 * fld w 154 137 + b) [BitVec.ofNat 8 x.scale]
  | none =>
    if f = 0 then bytesAt out (vs.flatMap fun v => leBytes 4 (toFp32 v))
    else bytesAt out ((List.range vs.length).flatMap fun i => leBytes 2 (encodeIeee bf16 mode (rnd i) (nth FVal.zero vs i)))

/-- Bytes of the result of a VOP once `g` groups of 512 elements are done: an EXACT operation writes at its end alone
(04 R136, R139, R140, R150). -/
def vopBytes (w g : Nat) : Nat :=
  let f := fld w 231 228
  match fld w 247 240 with
  | 0x10 | 0x11 | 0x12 => 0
  | 0x20 => g * (16 * 257)
  | _ => g * (if isMx f then 16 * (4 * fmtWidth f + 1) else 64 * fmtWidth f)

/-- Groups of 512 elements of a VOP. -/
def vopGroups (w : Nat) : Nat := ceilDiv (fld w 136 117 + 1) 512

/-- The partial sums of an EXACT operation at its boundaries of 512 elements (04 R150). -/
def partialSums : Nat → Acc → List Acc → List (BitVec 640)
  | 0, _, _ => []
  | n + 1, a, ts =>
    let b := (ts.take 512).foldl accAdd a
    BitVec.ofNat 640 (accBits b) :: partialSums n b (ts.drop 512)

/-- An element operation: arithmetic is rounded once to FP32, then converted to FMT_D; CONVERT converts its operand
(04 R136 to R138). -/
def vopElements (r : Reader) (kstep : BitVec 64) (w : Nat) : Feed VopFlight := do
  let op := fld w 247 240
  let n := fld w 136 117 + 1
  let a ← readVec r (fld w 239 236) (fld w 226 209) n
  let b ← if 1 ≤ op ∧ op ≤ 6 then readVec r (fld w 235 232) (fld w 208 191) n else pure []
  -- C has no format field: FP32 (log entry 117)
  let c ← if op = 3 ∨ op = 6 then readVec r 0 (fld w 190 173) n else pure []
  let vs := (List.range n).map fun i =>
    let v := vopValue op (nth FVal.zero a i) (nth FVal.zero b i) (nth FVal.zero c i)
    if op = 7 then v else ofFp32 (toFp32 v)
  return { VopFlight.init with cmd := BitVec.ofNat 256 w, writes := writeVec w kstep vs }

/-- An EXACT operation: one value, rounded to FP32 or BF16 by round-to-nearest-even, or exact (04 R139). -/
def vopExact (r : Reader) (w : Nat) : Feed VopFlight := do
  let op := fld w 247 240
  let n := fld w 136 117 + 1
  let terms ← match op with
    | 0x10 => readExact r (fld w 239 236) (fld w 226 209) n
    | 0x11 => do
      let a ← readVec r (fld w 239 236) (fld w 226 209) n
      let b ← readVec r (fld w 235 232) (fld w 208 191) n
      pure ((a.zip b).map fun (x, y) => accOf (x.mul y))
    | _ => do
      let a ← readVec r (fld w 239 236) (fld w 226 209) n
      pure (a.map fun x => accOf (x.mul x))
  let v := terms.foldl accAdd Acc.zero
  let bs := match fld w 231 228 with
    | 0 => leBytes 4 (toFp32 (accVal v))
    | 1 => leBytes 2 (encodeIeee bf16 .rne 0 (accVal v))
    | _ => leBytes 80 (accBits v)
  let notes := if accKind v = 3 ∧ terms.all (fun t => accKind t != 3) then [(0x2103, 0)] else []
  return { VopFlight.init with
    cmd := BitVec.ofNat 256 w, writes := bytesAt (32 * fld w 172 155) bs, notes := notes,
    sums := partialSums (vopGroups w) Acc.zero terms }

/-- CADD of two blocks: both at the larger exponent, each element a 64-bit sum; an operand NaN makes the result NaN
(04 R140; 03 R71, R72). -/
def caddBlock (a b : Carry) : Carry :=
  if a.exp = 255 ∨ b.exp = 255 then carryNan
  else
    let x := max a.exp b.exp
    ⟨x, (a.vals.zip b.vals).map fun (m, n) => reexpress a.exp x m + reexpress b.exp x n⟩

/-- CADD (04 R140). -/
def vopCadd (r : Reader) (w : Nat) : Feed VopFlight := do
  let n := ceilDiv (fld w 136 117 + 1) 32
  let a ← readCarry r (fld w 239 236) (fld w 226 209) n
  let b ← readCarry r (fld w 235 232) (fld w 208 191) n
  let rs := (a.zip b).map fun (x, y) => caddBlock x y
  let block (b : Nat) : List (Nat × BitVec 8) :=
    let c := nth carryNan rs b
    bytesAt (32 * fld w 172 155 + 256 * b) (c.vals.flatMap fun v => leBytes 8 (ofSigned 64 v)) ++
      bytesAt (32 * fld w 154 137 + b) [BitVec.ofNat 8 c.exp]
  return { VopFlight.init with cmd := BitVec.ofNat 256 w, writes := (List.range n).flatMap block }

/-! ### Rows -/

/-- What VOP `op` computes from its operands (04 R136, R139, R140). -/
def vopBody (op : Nat) (r : Reader) (kstep : BitVec 64) (w : Nat) : Feed VopFlight :=
  if op = 0x20 then vopCadd r w else if 0x10 ≤ op then vopExact r w else vopElements r kstep w

/-- VOP `op` issues once the vector unit is free (log entry 39); it reads its operands, and its result waits for its end. -/
def issueVop (op core : Nat) (errs : List (Nat × BitVec 288)) (s : State) : State :=
  issue core (fun w => cmdOp w == 0x10 && fld w 247 240 == op) (fun w s =>
    if (coreOf core s).vops ≠ [] then s
    else
      match vopBody op ⟨core, 4, errs, []⟩ (stepSeed s) w s with
      | (.error f, s) => feedFault core f s
      | (.ok v, s) => advance core (modCore core (fun k => { k with vops := k.vops ++ [v] }) s)) s

/-- VOP_ADD (04 R136). -/
def execVopAdd (core : Nat) (errs : List (Nat × BitVec 288)) (s : State) : Host.Outcome State Fault Refusal :=
  run (issueVop 0x01 core errs) s

/-- VOP_MUL (04 R136). -/
def execVopMul (core : Nat) (errs : List (Nat × BitVec 288)) (s : State) : Host.Outcome State Fault Refusal :=
  run (issueVop 0x02 core errs) s

/-- VOP_FMA: A × B + C (04 R136). -/
def execVopFma (core : Nat) (errs : List (Nat × BitVec 288)) (s : State) : Host.Outcome State Fault Refusal :=
  run (issueVop 0x03 core errs) s

/-- VOP_MIN: IEEE 754-2019 minimum (04 R136; 03 R91). -/
def execVopMin (core : Nat) (errs : List (Nat × BitVec 288)) (s : State) : Host.Outcome State Fault Refusal :=
  run (issueVop 0x04 core errs) s

/-- VOP_MAX: IEEE 754-2019 maximum (04 R136; 03 R91). -/
def execVopMax (core : Nat) (errs : List (Nat × BitVec 288)) (s : State) : Host.Outcome State Fault Refusal :=
  run (issueVop 0x05 core errs) s

/-- VOP_SELECT: A where C is not zero, else B (04 R136). -/
def execVopSelect (core : Nat) (errs : List (Nat × BitVec 288)) (s : State) : Host.Outcome State Fault Refusal :=
  run (issueVop 0x06 core errs) s

/-- VOP_CONVERT: A in FMT_D (04 R136, R138). -/
def execVopConvert (core : Nat) (errs : List (Nat × BitVec 288)) (s : State) : Host.Outcome State Fault Refusal :=
  run (issueVop 0x07 core errs) s

/-- VOP_EXP2 (04 R136). -/
def execVopExp2 (core : Nat) (errs : List (Nat × BitVec 288)) (s : State) : Host.Outcome State Fault Refusal :=
  run (issueVop 0x08 core errs) s

/-- VOP_LOG2 (04 R136). -/
def execVopLog2 (core : Nat) (errs : List (Nat × BitVec 288)) (s : State) : Host.Outcome State Fault Refusal :=
  run (issueVop 0x09 core errs) s

/-- VOP_RCP: the reciprocal (04 R136). -/
def execVopRcp (core : Nat) (errs : List (Nat × BitVec 288)) (s : State) : Host.Outcome State Fault Refusal :=
  run (issueVop 0x0A core errs) s

/-- VOP_RSQRT: the reciprocal square root (04 R136). -/
def execVopRsqrt (core : Nat) (errs : List (Nat × BitVec 288)) (s : State) : Host.Outcome State Fault Refusal :=
  run (issueVop 0x0B core errs) s

/-- EXACT_SUM_VOP: Σ A (04 R136, R139). -/
def execExactSumVop (core : Nat) (errs : List (Nat × BitVec 288)) (s : State) : Host.Outcome State Fault Refusal :=
  run (issueVop 0x10 core errs) s

/-- EXACT_DOT: Σ A × B (04 R136, R139). -/
def execExactDot (core : Nat) (errs : List (Nat × BitVec 288)) (s : State) : Host.Outcome State Fault Refusal :=
  run (issueVop 0x11 core errs) s

/-- EXACT_SUMSQ: Σ A² (04 R136, R139). -/
def execExactSumsq (core : Nat) (errs : List (Nat × BitVec 288)) (s : State) : Host.Outcome State Fault Refusal :=
  run (issueVop 0x12 core errs) s

/-- CADD: two carry blocks into a wide carry block (04 R140). -/
def execCadd (core : Nat) (errs : List (Nat × BitVec 288)) (s : State) : Host.Outcome State Fault Refusal :=
  run (issueVop 0x20 core errs) s

/-- A pre-emption stops the VOP in flight at a boundary of 512 elements, the spec leaving open which: the results of the elements
before it are in the core store, unless the ring has no room for them (04 R150; 05 R179; log entry 6). -/
def stopVop (c : Nat) (s : State) : State :=
  match (coreOf c s).vops with
  | [] => s
  | v :: rest =>
    let w := v.cmd.toNat
    let (k, s) := drawFree s
    let g := v.done + (Config.freeWord k).toNat % (vopGroups w - v.done + 1)
    let bs := (v.writes.take (vopBytes w g)).drop (vopBytes w v.done)
    if ringFree c 4 (bySector bs) s then
      storeSectors c (bySector bs) (modCore c (fun k => { k with vops := { v with done := g } :: rest }) s)
    else s

/-- VOP_COMPLETE: the VOP in flight completes once the ring sectors it writes are free, and its sectors become produced
(05 R179). -/
def execVopComplete (core : Nat) (residueBad : Bool) (s : State) : Host.Outcome State Fault Refusal :=
  run (fun s => match (coreOf core s).vops with
    | [] => s
    | v :: rest =>
      if ringFree core 4 (bySector v.writes) s = false then s
      else if residueBad then residueFault core 4 s
      else
        let s := modCore core (fun k => { k with vops := rest }) s
        takeNotes core v.notes (produceRest core 4 v.writes (v.writes.drop (vopBytes v.cmd.toNat v.done)) s)) s

end Sys2Proof.Machine
end

