-- ==== Sys2Proof/Machine/Tasks.lean ====
section
/-! DEFINITION. Tasks: entries taken from a queue, start conditions, preload, pre-emption and resumption (12 R438 to R442;
04 R148 to R151; 05 R190). -/

namespace Sys2Proof.Machine

open Sys2Proof

/-! ### The TASK body (12 R439, R442) -/

/-- START. -/
def Task.start (t : Task) : Nat := fld t.body.toNat 980 978
/-- START_ARG. -/
def Task.arg (t : Task) : Nat := fld t.body.toNat 977 914
/-- PROG_ADDR. -/
def Task.prog (t : Task) : Nat := fld t.body.toNat 913 896
/-- PRELOAD0 to PRELOAD3, in order: tensor id, core-store sector, sectors. -/
def Task.preloads (t : Task) : List (Nat × Nat × Nat) :=
  (List.range 4).map fun i =>
    let p := fld t.body.toNat (871 - 60 * i) (812 - 60 * i)
    (fld p 59 36, fld p 35 18, p % 2 ^ 18)

/-- Sectors of one core's region of a spill tensor (12 R442). -/
def spillRegion : Nat := 163872

/-- A TASK body keeps its own rules: a mask, a defined START with a legal flag, zero reserved bits, and a spill tensor that is
resident in the fast tier and large enough (12 R438, R439, R442). -/
def taskBodyOk (t : Task) (s : State) : Bool :=
  let e := tensorOf t.spill s
  t.mask != 0 && decide (t.start ≤ 4) && fld t.body.toNat 631 0 == 0 &&
  (t.start != 2 || fld t.arg 63 56 != 0) &&
  (t.spill == 0 || (e.state == 1 && e.tier == 0 && decide (spillRegion * popCount 16 t.mask ≤ e.size)))

/-- TASK: an entry is taken and waits on its start condition; one that breaks its rules completes at once with reason 3
(12 R436, R438, R439; 14 R492). -/
def execTask (q : Nat) (entry : BitVec 1024) (s : State) : Host.Outcome State Fault Refusal :=
  run (fun s =>
    if entryKind entry = 2 ∨ entryKind entry = 3 then s
    else takeEntry q entry (fun s =>
      let t : Task := { Task.init with queue := q, body := entry, phase := rd Obj.PHASE s }
      if entryKind entry ≠ 1 then refuseEntry q entry s
      else if inSitout s then complete q (entryCid entry) (entryIrq entry) 3 0x9410 s
      else if taskBodyOk t s = false then refuseEntry q entry s
      else modQueue q (fun x => { x with waiting := true }) { s with tasks := s.tasks ++ [t] }) s) s

/-- BARRIER: it completes once every earlier entry of its queue has completed (12 R438). -/
def execBarrier (q : Nat) (entry : BitVec 1024) (s : State) : Host.Outcome State Fault Refusal :=
  run (fun s =>
    if entryKind entry ≠ 3 then s
    else
      let before := (queueOf q s).open_
      takeEntry q entry (fun s =>
        if fld entry.toNat 998 0 ≠ 0 then refuseEntry q entry s
        else
          let cid := entryCid entry
          let s := modQueue q (fun x => { x with
            barriers := x.barriers ++ [(cid, entryIrq entry, before)], waiting := !before.isEmpty }) s
          releaseBarriers q ((queueOf q s).barriers.length) s) s) s

/-! ### Beginning (12 R440, R441) -/

/-- The start condition holds: at once, the first beat boundary at or after a Count, a Caller or core flag, a posted
completion (02 R58; 04 R143; 12 R440). -/
def startMet (t : Task) (s : State) : Bool :=
  match t.start with
  | 0 => true
  | 1 =>
    let b := 2 ^ beatB s
    decide ((t.arg + (b - 1)) / b * b ≤ now s)
  | 2 => reached (flagGen (fld t.arg 63 56) s) (t.arg % 2 ^ 31)
  | 3 => reached (coreFlag (fld t.arg 63 58) s) (t.arg % 2 ^ 31)
  | _ => (queueOf (fld t.arg 63 60) s).done.contains (fld t.arg 59 44)

/-- The cores of a task. -/
def Task.cores (t : Task) : List Nat := bitList 16 t.mask

/-- The cores of a task are free. -/
def coresFree (t : Task) (s : State) : Bool := t.cores.all fun c => (coreOf c s).task.isNone

/-- A taken task changed. -/
def modTask (k : Nat) (f : Task → Task) (s : State) : State :=
  { s with tasks := mapIf (fun t => t.key == k) f s.tasks }

/-- A pre-empted task may resume: its cores are free and the phase is the one it was pre-empted in (12 R440; 09 R336). -/
def mayResume (t : Task) (s : State) : Bool :=
  t.state == .preempted && coresFree t s && t.phase == rd Obj.PHASE s

/-- A new task has to let a pre-empted one of its PRIO or higher resume first (12 R440). -/
def resumeFirst (t : Task) (s : State) : Bool :=
  s.tasks.any fun u => mayResume u s && decide (t.prio ≤ u.prio) && u.cores.any t.cores.contains

/-- A used preload: its tensor is resident in the fast tier or the Floor and holds enough sectors (12 R441). -/
def preloadOk (p : Nat × Nat × Nat) (s : State) : Bool :=
  let e := tensorOf p.1 s
  p.1 == 0 || (e.state == 1 && (e.tier == 0 || e.tier == 2) && decide (p.2.2 ≤ e.size))

/-- Sectors copied unchanged into a core store; false when one of them is uncorrectable (12 R441; 06 R203, R206). -/
def copyToCore (c src dst : Nat) : Nat → State → Bool × State
  | 0, s => (true, s)
  | n + 1, s =>
    match consumeClean src s with
    | (none, s) => (false, s)
    | (some _, s) =>
      copyToCore c (src + 1) (dst + 1) n (wrSector (coreSector c (dst % 2 ^ 18)) (readOverlay src s) s)

/-- The preloads of a task into every core of its mask; an uncorrectable sector ends the task with code 0x2302 (log entry
40). -/
def preloadAll (t : Task) (s : State) : Bool × State :=
  let jobs := t.cores.flatMap fun c => (t.preloads.filter fun p => p.1 != 0).map fun p => (c, p)
  jobs.foldl (fun (acc : Bool × State) (c, p) =>
    if acc.1 then copyToCore c (tensorOf p.1 acc.2).home p.2.1 p.2.2 acc.2 else acc) (true, s)

/-- A core begins at PROG_ADDR (12 R441). -/
def beginCore (t : Task) (c : Nat) (s : State) : State :=
  modCore c (fun k => { k with
    task := some t.key, status := 1, outcome := 0, base := t.prog, pc := 0, waitAt := none, preempting := false,
    claim := none, engines := List.replicate 4 Engine.init }) s

/-- A task begins on free cores, or completes having run nothing (12 R441). -/
def beginTask (t : Task) (s : State) : State :=
  match t.preloads.find? fun p => !preloadOk p s with
  | some p => abortTask t 1 0x2303 true (emit 0x2303 0 p.1 s)
  | none => match preloadAll t s with
    | (false, s) => abortTask t 1 0x2302 true (emit 0x2302 0 0 s)
    | (true, s) =>
      let s := modTask t.key (fun u => { u with state := .running }) s
      let s := modQueue t.queue (fun x => { x with waiting := false }) s
      forEach t.cores (beginCore t) s

/-- A pre-emption is requested of every core of a task, on behalf of `claim` (04 R148; 05 R190). -/
def requestPreempt (t : Task) (claim : Option Nat) (s : State) : State :=
  forEach t.cores (fun c => modCore c fun k =>
    if k.task = some t.key ∧ k.preempting = false then
      { k with preempting := true, preemptAt := now s, preemptCyc := coreClock s, claim := claim, status := 3 } else k) s

/-- The sectors that the preloads of a task read (12 R441). -/
def preloadRanges (t : Task) (s : State) : List (Nat × Nat) :=
  (t.preloads.filter fun p => p.1 != 0).map fun p => ((tensorOf p.1 s).home, p.2.2)

/-- A task begins on free cores once nothing holds what it preloads (07 R239, R242; 08 R290; 12 R429, R441; 19 R598). -/
def beginWhenFree (t : Task) (s : State) : State :=
  let rs := preloadRanges t s
  if rs.any fun r => frozenAt 3 r.1 s || rangeHeld r.1 r.2 s then s else afterSnoops false rs (beginTask t) s

/-- The tasks that hold cores a task wants. -/
def holders (t : Task) (s : State) : List Task :=
  s.tasks.filter fun u => t.cores.any fun c => (coreOf c s).task == some u.key

/-- TASK_BEGIN: a start condition holds and the cores are free, so the task preloads and issues; cores of pre-emptible tasks of
lower PRIO are pre-empted first (12 R440, R441). -/
def execTaskBegin (q cid : Nat) (s : State) : Host.Outcome State Fault Refusal :=
  run (fun s => match s.tasks.find? fun t => t.queue == q && t.key % 65536 == cid && t.state == .waiting with
    | none => s
    | some t =>
      if running 0 s = false ∨ running 1 s = false ∨ startMet t s = false ∨ resumeFirst t s then s
      else if coresFree t s then beginWhenFree t s
      else if (holders t s).all fun u => decide (u.prio < t.prio) && u.spill != 0 then
        forEach (holders t s) (fun u => requestPreempt u (some t.key)) s
      else s) s

/-! ### Pre-emption (04 R148 to R150; 05 R190) -/

/-- The position of a core in its task's mask, which places its spill region (12 R442). -/
def regionIndex (t : Task) (c : Nat) : Nat := (t.cores.takeWhile fun k => k != c).length

/-- First sector of the spill region of a core. -/
def spillBase (t : Task) (c : Nat) (s : State) : Nat := (tensorOf t.spill s).home + spillRegion * regionIndex t c

/-- The lines of an open group: every line of a problem below N (04 R119, R148). -/
def groupLines (k : Core) (a : Nat) : List Nat :=
  match (nth Array.init k.arrays a).group with
  | none => []
  | some n => (List.range 128).filter fun l => decide (l % (128 / bandsOf (nth 0 k.part a)) < n)

/-- One accumulator line spilled, 320 sectors (04 R148). -/
def spillLine (base : Nat) (line : List Acc) (s : State) : State :=
  let bits := (List.range 128).foldr (fun c acc => accBits (nth Acc.zero line c) + 2 ^ 640 * acc) 0
  forEach (List.range 320) (fun i => wrData (base + i) (bits / 2 ^ (256 * i) % 2 ^ 256)) s

/-- The lines of the open groups of a core are spilled; its 32 state sectors hold what the spec does not lay out. -/
def spillCore (t : Task) (c : Nat) (s : State) : State :=
  let k := coreOf c s
  let base := spillBase t c s
  let s := forEach (List.range 4) (fun a => forEach (groupLines k a) fun l =>
    spillLine (base + a * 40960 + l * 320) (nth [] (nth Array.init k.arrays a).lines l)) s
  markWritten t.spill (makeUndef (32 * (base + 163840)) (32 * 32) s)

/-- A core has reached its pass boundary: no pass in flight, no request of a stream in flight (04 R148; 05 R190). -/
def atBoundary (k : Core) : Bool :=
  k.arrays.all (fun a => a.flight.isEmpty) && k.engines.all fun g => (g.run.map fun x => x.inFlight.isEmpty).getD true

/-- What is saved of a core: everything but the lines that are in the spill area. -/
def savedCore (k : Core) : Core :=
  { k with
    preempting := false, claim := none, waitAt := none, status := 1
    arrays := k.arrays.map fun a => { a with lines := [] }
    engines := k.engines.map fun g => { g with run := g.run.map fun x => { x with suspended := true } } }

/-- What the next task finds in a core that was pre-empted: the weight sets and the modes as they are, nothing else of the
pre-empted task. -/
def vacatedCore (k : Core) : Core :=
  { k with
    task := none, status := 0, preempting := false, claim := none, waitAt := none, vops := []
    engines := List.replicate 4 Engine.init
    arrays := k.arrays.map fun a => { a with group := none, lines := [], drain := none } }

/-- One core of a pre-empted task is saved: its VOP stops at a boundary, its open groups are spilled, and it is vacated
(04 R148, R150). -/
def saveCore (t : Task) (core : Nat) (s : State) : State :=
  let s := stopVop core s
  modTask t.key (fun u => { u with saved := u.saved ++ [(core, savedCore (coreOf core s))], phase := rd Obj.PHASE s })
    (modCore core vacatedCore (spillCore t core s))

/-- The last core of a task has been saved: the pre-emption is counted with the cycles it took, and the task that claimed the
cores begins (04 R149; 05 R190; 12 R440). -/
def preempted (t : Task) (core cycles : Nat) (claim : Option Nat) (s : State) : State :=
  let s := modTask t.key (fun u => { u with state := .preempted }) s
  let s := emit 0x2205 core cycles (bump Obj.PREEMPTIONS s)
  match claim.bind fun key => s.tasks.find? fun u => u.key == key && u.state == .waiting with
  | some u => if coresFree u s then beginWhenFree u s else s
  | none => s

/-- The spill region of a core of a task, as a range of sectors (12 R442). -/
def spillRange (t : Task) (s : State) (c : Nat) : Nat × Nat := (spillBase t c s, spillRegion)

/-- Something holds a spill region (07 R239, R242). -/
def spillHeld (t : Task) (cs : List Nat) (s : State) : Bool :=
  cs.any fun c => let r := spillRange t s c; rangeHeld r.1 r.2 s

/-- PREEMPTION_DONE: the spill and state save of a core end; once every core of the task is saved the pre-emption is counted,
and the pre-empting task begins on its free cores (04 R148, R149; 05 R190; 12 R440). -/
def execPreemptionDone (core : Nat) (s : State) : Host.Outcome State Fault Refusal :=
  run (fun s =>
    let k := coreOf core s
    match taskOn core s with
    | none => s
    | some t =>
      if k.preempting = false ∨ atBoundary k = false ∨ spillHeld t [core] s = true then s
      else afterSnoops true [spillRange t s core] (fun s =>
        let u := saveCore t core s
        if t.cores.any fun c => (coreOf c u).task == some t.key then u
        else preempted t core ((coreClock s - k.preemptCyc) / 1000) k.claim u) s) s

/-! ### Resumption (04 R151) -/

/-- The sets of an array are read again: the active one, and a shadow that was READY or loading. -/
def reloadSets (c : Nat) (y : Array) : Feed Array := do
  let r : Reader := ⟨c, 5, [], []⟩
  let again (x : Option WeightSet) : Feed (Option WeightSet) :=
    match x with
    | some x => do return some (← readSet r x.cmd.toNat)
    | none => pure none
  let a ← again y.active
  let b ← again y.shadowSet
  return { y with active := a, shadowSet := b, shadow := if b.isSome then .ready else .empty }

/-- One spilled line read back; an uncorrectable sector ends the task with code 0x2206 (04 R151). -/
def unspillLine (base : Nat) : Feed (List Acc) := do
  let ds ← (List.range 320).mapM fun i => (fun s =>
    match consumeClean (base + i) s with
    | (some d, s) => (.ok d.toNat, s)
    | (none, s) => (.error (0x2206, 0), s) : Feed Nat)
  let bits := ds.foldr (fun d acc => d + 2 ^ 256 * acc) 0
  return (List.range 128).map fun c => accOfBits (bits / 2 ^ (640 * c) % 2 ^ 640)

/-- A saved core as it resumes: sets reloaded, spilled lines restored (04 R151). -/
def restoreCore (t : Task) (c : Nat) (k : Core) : Feed Core := do
  let base : Nat ← (fun s => (.ok (spillBase t c s), s) : Feed Nat)
  let arrays ← (List.range 4).mapM fun a => do
    let y ← reloadSets c (nth Array.init k.arrays a)
    let ls := groupLines k a
    if ls.isEmpty then return y
    let lines ← (List.range 128).mapM fun l =>
      if ls.contains l then unspillLine (base + a * 40960 + l * 320) else pure (List.replicate 128 Acc.zero)
    return { y with lines := lines }
  return { k with
    arrays := arrays, task := some t.key, status := if t.ended.contains c then 0 else 1
    engines := k.engines.map fun g => { g with run := g.run.map fun x => { x with suspended := false } } }

/-- The saved cores of a task as they resume, in turn, or the fault that one of them meets. -/
def restoreCores (t : Task) : List (Nat × Core) → Feed (List (Nat × Core))
  | [] => pure []
  | (c, k) :: rest => do
    let k ← restoreCore t c k
    let ks ← restoreCores t rest
    return (c, k) :: ks

/-- TASK_RESUME: a pre-empted task whose cores are free reloads its sets and spilled lines and reissues its saved command
(04 R151; 12 R440). -/
def execTaskResume (q cid : Nat) (s : State) : Host.Outcome State Fault Refusal :=
  run (fun s => match s.tasks.find? fun t => t.queue == q && t.key % 65536 == cid && mayResume t s with
    | none => s
    | some t =>
      if running 0 s = false ∨ running 1 s = false ∨ spillHeld t (t.saved.map (·.1)) s = true then s
      else afterSnoops false (t.saved.map fun p => spillRange t s p.1) (fun s =>
        let ended := t.cores.filter fun c => !(t.saved.any fun p => p.1 == c)
        let s := forEach ended (fun c => modCore c fun k => { k with task := some t.key, status := 0 }) s
        match restoreCores t t.saved s with
        | (.error f, s) => abortTask t 1 f.1 true (emit f.1 0 f.2 s)
        | (.ok ks, s) =>
          let s := forEach ks (fun (c, k) => modCore c fun _ => k) s
          modTask t.key (fun u => { u with state := .running, saved := [] }) s) s) s

end Sys2Proof.Machine
end

