-- ==== Sys2Proof/Machine/Host.lean ====
section
/-! DEFINITION. The CXL host interface: memory accesses, back-invalidate snoops, doorbells, completions, interrupts, the host
link and its decoders (12 The CXL host interface and task submission). -/

namespace Sys2Proof.Machine

open Sys2Proof

/-! ### CXL.mem (12 R426 to R432) -/

/-- Lines the snoop filter tracks (12 R429). -/
def filterLines : Nat := 1048576

/-- A host access reaches the module: an update step or a retrain may hold it, one to a line with an access that waits stays behind
that, a full snoop filter makes room first, and else it is served (08 R290, R291; 12 R429, R432). -/
def admitHost (a : HostAcc) (first again : BitVec 288) (s : State) : State :=
  let line := a.dpa / 64
  let tracked := s.host.snoop.any fun p => p.1 == line
  if lineHeld a.dpa s ∨ (s.host.waitAcc.any fun b => b.dpa / 64 == line) then
    onlyIf (lineUpdated a.dpa s) (bump Obj.HELD_ACCESSES) { s with host := { s.host with waitAcc := s.host.waitAcc ++ [a] } }
  else match s.host.snoopWait.find? fun p => p.2.any fun b => b.dpa / 64 == line with
  | some p => awaitSnoop p.1 (some a) s
  | none =>
  if a.cache ≠ 0 ∧ tracked = false ∧ filterLines ≤ s.host.snoop.length then
    match s.host.snoop with
    | p :: _ => awaitSnoop p.1 (some a) s
    | [] => s
  else
    let s := trackLine line a.cache s
    if a.write then serveHostWrite a.dpa a.data a.mask s else serveHostRead a.dpa first again s

/-- A host CXL.mem access at a host address: the decoders name the line, an address none maps is not this module's. -/
def hostAccess (write : Bool) (hpa : BitVec 64) (data : BitVec 512) (mask : BitVec 64) (cache : Nat)
    (first again : BitVec 288) (s : State) : State :=
  if s.host.up = false then s
  else match hostDpa hpa.toNat s with
    | none => s
    | some dpa => admitHost ⟨write, dpa / 64 * 64, data, mask, cache⟩ first again s

/-- CXL_MEM_READ: a host read is checked, corrected and returned without poison (12 R426, R431). -/
def execCxlMemRead (hpa : BitVec 64) (cache : Nat) (first again : BitVec 288) (s : State) :
    Host.Outcome State Fault Refusal :=
  run (hostAccess false hpa 0 0 cache first again) s

/-- CXL_MEM_WRITE: a host write gets its sector code and is written, merged or discarded (12 R426, R428; 06 R203). -/
def execCxlMemWrite (hpa : BitVec 64) (data : BitVec 512) (mask : BitVec 64) (cache : Nat) (s : State) :
    Host.Outcome State Fault Refusal :=
  run (hostAccess true hpa data mask cache 0 0) s

/-! ### Back-invalidate snoops (12 R429, R430) -/

/-- A snooped line leaves the filter, and whatever waited on it proceeds. -/
def snoopDone (line : Nat) (s : State) : State :=
  let waiters := s.host.snoopWait.filter fun p => p.1 == line
  let s := { s with host := { s.host with
    snoop := s.host.snoop.filter fun p => p.1 != line,
    snoopWait := s.host.snoopWait.filter fun p => p.1 != line,
    snoopSent := s.host.snoopSent.filter fun p => p.1 != line } }
  let s := forEach waiters (fun p s => match p.2 with
    | some a => admitHost a 0 0 s
    | none => s) s
  contributeReady (releaseAccesses false s)

/-- BACK_INVALIDATE_ANSWER: the host answers a snoop, with the line when it had modified it, and the waiting access proceeds
(12 R429). -/
def execBackInvalidateAnswer (line : Nat) (data : Option (BitVec 512)) (s : State) : Host.Outcome State Fault Refusal :=
  run (fun s =>
    if (s.host.snoopWait.any fun p => p.1 == line) = false then s
    else
      let s := match data with
        | some d => serveHostWrite (64 * line) d (BitVec.ofNat 64 (2 ^ 64 - 1)) s
        | none => s
      snoopDone line s) s

/-- A snoop of a line has been unanswered for BI_TIMEOUT (12 R430). -/
def snoopLate (line : Nat) (s : State) : Bool :=
  s.host.snoopSent.any fun p => p.1 == line && decide (p.2 + rd Obj.BI_TIMEOUT s * 10 ^ 6 ≤ s.clk.ticks)

/-- BI_SNOOP_TIMEOUT: a snoop unanswered for BI_TIMEOUT drops its line and the access proceeds (12 R430). -/
def execBiSnoopTimeout (line : Nat) (s : State) : Host.Outcome State Fault Refusal :=
  run (fun s =>
    if (s.host.snoopWait.any fun p => p.1 == line) = false ∨ snoopLate line s = false then s
    else snoopDone line (emit 0x6006 0 (64 * line) (bump Obj.BI_TIMEOUTS s))) s

/-- HOST_REQUEST_LATE: a host request waited longer than 50 ms (12 R435). -/
def execHostRequestLate (s : State) : Host.Outcome State Fault Refusal :=
  run (fun s => emit 0x6007 0 0 (bump Obj.HOST_LATE s)) s

/-! ### Queues (12 R425, R437, R445) -/

/-- The queue whose doorbell lies at an offset of BAR0, of the doorbells that begin at `first` (12 R425). -/
def doorbellQueue (first offset : Nat) : Option Nat :=
  if first ≤ offset ∧ offset < first + 128 ∧ (offset - first) % 8 = 0 then some ((offset - first) / 8) else none

/-- SQ_DOORBELL: the doorbell of a queue takes the new tail index; that of a disabled queue discards it (12 R425). -/
def execSqDoorbell (offset tail : Nat) (s : State) : Host.Outcome State Fault Refusal :=
  run (fun s => match doorbellQueue 0x1000 offset with
    | none => s
    | some q =>
      if s.host.up ∧ rd (Obj.QUEUE_ENABLE q) s = 1 ∧ tail < rd (Obj.SQ_SIZE q) s then
        modQueue q (fun x => { x with tail := tail }) s
      else s) s

/-- CQ_HEAD_DOORBELL: the host has consumed completions up to an index (12 R425). -/
def execCqHeadDoorbell (offset head : Nat) (s : State) : Host.Outcome State Fault Refusal :=
  run (fun s => match doorbellQueue 0x1004 offset with
    | none => s
    | some q =>
      if s.host.up ∧ rd (Obj.QUEUE_ENABLE q) s = 1 ∧ head < rd (Obj.CQ_SIZE q) s then
        modQueue q (fun x => { x with cqHead := head }) s
      else s) s

/-- The completions a queue's buffer holds are posted as far as its ring has room (12 R437). -/
def drainQueue (q : Nat) (s : State) : State := drainBuffer q (queueOf q s).buf.length s

/-- COMPLETION_DRAIN: completions held in the buffer are posted as ring space frees (12 R437). -/
def execCompletionDrain (q : Nat) (s : State) : Host.Outcome State Fault Refusal :=
  run (drainQueue q) s

/-- COALESCE_TIMEOUT: COALESCE_TIME after the first completion the vector fires (12 R445). -/
def execCoalesceTimeout (q : Nat) (s : State) : Host.Outcome State Fault Refusal :=
  run (fun s =>
    let x := queueOf q s
    if x.timer ∧ q < 16 ∧ x.firstAt + fld (rd (Obj.COALESCE q) s) 15 0 * 1000 ≤ s.clk.ticks then fireVector q s else s) s

/-! ### The host link (12 R421 to R423) -/

/-- The host link goes down: no entry is taken, completions wait, and a staging area that CXL owns is freed
(12 R421, R422; 13 R460). -/
def hostLinkDown (s : State) : State :=
  if s.host.up = false then s
  else
    let s := { s with host := { s.host with up := false, downAt := some s.pow.opTime, cancelled := false } }
    let s := emit 0x6002 0 0 (wr Obj.LINK_RATE 0 (wr Obj.LINK_WIDTH 0 s))
    match s.dict.owner with
    | some w => if w.via = .cxl then releaseStaging s else s
    | none => s

/-- CXL_LANE_FAILURE: lanes fail; the port retrains to x8 on the half that is still whole, or the link is down (12 R421). -/
def execCxlLaneFailure (lanes : BitVec 16) (s : State) : Host.Outcome State Fault Refusal :=
  run (fun s =>
    let before := s.host.badLanes
    let bad := before ||| lanes
    if s.host.up = false ∨ bad = before then s
    else
      let s := { s with host := { s.host with badLanes := bad } }
      if bad.toNat % 256 = 0 ∨ bad.toNat / 256 = 0 then
        (if before = 0 then emit 0x6001 0 8 (wr Obj.LINK_WIDTH 8 s) else s)
      else if before ≠ 0 ∧ ((before.toNat % 256 = 0 ∧ lanes.toNat % 256 = 0) ∨ (before.toNat / 256 = 0 ∧ lanes.toNat / 256 = 0)) then s
      else hostLinkDown s) s

/-- HOST_LINK_DOWN (12 R422). -/
def execHostLinkDown (s : State) : Host.Outcome State Fault Refusal := run hostLinkDown s

/-- The link trains at a width and a rate, and waiting completions are posted (12 R421, R422). -/
def hostLinkUp (width rate : Nat) (s : State) : State :=
  let w := if width = 16 then 16 else 8
  let r := if rate = 64 ∨ rate = 32 then rate else 16
  let s := { s with host := { s.host with up := true, downAt := none, badLanes := 0 } }
  let s := wr Obj.LINK_RATE r (wr Obj.LINK_WIDTH w s)
  let s := onlyIf (w == 8) (emit 0x6001 0 8) s
  forEach (List.range 16) drainQueue s

/-- HOST_LINK_UP: after bring-up step 4 (12 R422; 18 R582). -/
def execHostLinkUp (width rate : Nat) (s : State) : Host.Outcome State Fault Refusal :=
  run (fun s => if s.host.up ∨ s.boot.stepDone < 4 then s else hostLinkUp width rate s) s

/-- LINKDOWN_CANCEL: the taken tasks that have not begun are cancelled (12 R423). -/
def execLinkdownCancel (s : State) : Host.Outcome State Fault Refusal :=
  run (fun s => match s.host.downAt with
    | none => s
    | some at_ =>
      let lim := rd Obj.LINKDOWN_CANCEL s
      if s.host.cancelled ∨ lim = 0 ∨ s.pow.opTime < at_ + 16 * lim then s
      else
        let s := { s with host := { s.host with cancelled := true } }
        forEach (s.tasks.filter fun t => t.state == .waiting) (fun t s =>
          abortTask t 5 0x6009 true (emit 0x6009 0 t.key s)) s) s

/-! ### HDM decoders (12 R427) -/

/-- Bytes of HDM-DB capacity: 1,280.25 GiB (12 R426). -/
def hdmCapacity : Nat := 0x14010000000

/-- A decoder may be committed: one-way, in multiples of 256 MiB, inside the capacity, apart from the others. -/
def decoderOk (i base size dpa ways : Nat) (s : State) : Bool :=
  ways == 1 && size != 0 && base % 2 ^ 28 == 0 && size % 2 ^ 28 == 0 && dpa % 2 ^ 28 == 0 &&
  decide (dpa + size ≤ hdmCapacity) &&
  (List.range 4).all fun j =>
    let d := nth Decoder.init s.host.decoders j
    j == i || !d.committed || decide (base + size ≤ d.base ∨ d.base + d.size ≤ base)

/-- HDM_DECODER_COMMIT: a decoder maps a host range, or its commit fails (12 R427). -/
def execHdmDecoderCommit (i : Nat) (base size : BitVec 64) (dpa ways : Nat) (s : State) : Host.Outcome State Fault Refusal :=
  run (fun s =>
    if s.host.up = false then s
    else
      let d : Decoder :=
        if decoderOk i base.toNat size.toNat dpa ways s then ⟨true, base.toNat, size.toNat, dpa, false⟩
        else ⟨false, 0, 0, 0, true⟩
      { s with host := { s.host with decoders := s.host.decoders.set i d } }) s

end Sys2Proof.Machine
end

