-- ==== Sys2Proof/Machine/Faults.lean ====
section
/-! DEFINITION. The error handler, the causes of Sit-out and halt, firmware restarts and extraction (14 Faults, containment and
Sit-out). -/

namespace Sys2Proof.Machine

open Sys2Proof

/-! ### The error handler (14 R483, R485) -/

/-- The ordinary entry the handler would take: the highest severity, the oldest of it (14 R483). -/
def firstEntry : List ErrEntry → Option ErrEntry
  | [] => none
  | e :: es => match firstEntry es with
    | none => some e
    | some f => if e.sev < f.sev then some f else some e

/-- The entry the handler takes next, the overflow entry among the others by its SEV and the Count of its first event
(14 R483, R485). -/
def nextEntry (s : State) : Option ErrEntry :=
  match firstEntry s.flt.queue, s.flt.overflow with
  | none, o => o
  | some e, none => some e
  | some e, some o => if e.sev < o.sev ∨ (e.sev = o.sev ∧ o.count.toNat < e.count.toNat) then some o else some e

/-- HANDLING shows the severity in hand, 0xFF for none. -/
def showHandling (s : State) : State := wr Obj.HANDLING ((s.flt.hand.map ErrEntry.sev).getD 0xFF) s

/-- An entry leaves the queue for the handler; the overflow entry is cleared by handling it (14 R485). -/
def takeError (e : ErrEntry) (s : State) : State :=
  let f := s.flt
  let f := if f.overflow = some e then { f with overflow := none }
    else { f with queue := dropFirst (fun x => x == e) f.queue }
  showHandling { s with flt := { f with hand := some e, aside := f.hand.toList ++ f.aside } }

/-- Nothing of the severity `sev` or above is in hand (14 R483). -/
def handBelow (sev : Nat) (s : State) : Bool :=
  match s.flt.hand with
  | none => true
  | some h => decide (h.sev < sev)

/-- HANDLER_ENTRY: the handler takes the highest-severity entry; an entry of lower severity in hand is set aside, and one of
equal or higher severity is kept (14 R483). -/
def execHandlerEntry (s : State) : Host.Outcome State Fault Refusal :=
  run (fun s => match nextEntry s with
    | none => s
    | some e => if s.boot.fwRunning && handBelow e.sev s then takeError e s else s) s

/-- HANDLER_ENTRY_DONE: the entry in hand has been handled and the one set aside last is taken up again (14 R483). -/
def execHandlerEntryDone (s : State) : Host.Outcome State Fault Refusal :=
  run (fun s =>
    if s.flt.hand.isNone then s
    else showHandling { s with flt := { s.flt with hand := s.flt.aside.head?, aside := s.flt.aside.tail } }) s

/-! ### Causes of Sit-out (14 R488, R500, R503) -/

/-- A core without power: nothing of it is kept but what its status reads and its store (log entry 41). -/
def darkCore (k : Core) : Core :=
  { Core.init with status := k.status, outcome := k.outcome, pc := k.pc }

/-- SITOUT_POWER_DOWN: the cores, arrays, vector units, stream engines and update units are powered down, and the operating
point becomes Sit-out, which ends any change in progress (14 R489; 16 R535). -/
def execSitoutPowerDown (s : State) : Host.Outcome State Fault Refusal :=
  run (fun s =>
    if inSitout s = false ∨ s.flt.powerDown then s
    else
      let s := { s with
        cores := s.cores.map darkCore
        upd := { s.upd with units := [] }
        flt := { s.flt with powerDown := true }
        pow := { s.pow with change := none, passHold := false, samples := [], throttling := false } }
      emit 0x5101 0 3 (bump Obj.POINT_CHANGES (setPoint 3 s))) s

/-- SITOUT_REQUEST takes 0x5A only (14 R488). -/
def writeSitout (_v : Nat) (s : State) : Nat × State := (0, faultS3 0x9405 0 0 s)

/-- SITOUT_REQUEST (14 R488). -/
def execSitoutRequest (w : Writer) (v : BitVec 8) (s : State) : Host.Outcome State Fault Refusal :=
  run (command w 0xA010 1 v.toNat (writeSitout v.toNat)) s

/-- WATCHDOG_EXPIRE: outside Sit-out the module enters Sit-out and firmware restarts; in Sit-out it halts (14 R500). -/
def execWatchdogExpire (s : State) : Host.Outcome State Fault Refusal :=
  run (fun s =>
    if s.boot.fwRunning = false then s
    else if inSitout s then haltModule 0x9404 0 0 s
    else faultS3 0x9403 0 0 { s with boot := { s.boot with fwRunning := false } }) s

/-- FIRMWARE_RESTART_DONE: the dictionary answers again (14 R500). -/
def execFirmwareRestartDone (s : State) : Host.Outcome State Fault Refusal :=
  run (fun s => if inSitout s then { s with boot := { s.boot with fwRunning := true } } else s) s

/-- CONTROL_PARITY_ERROR in a control array (14 R503). -/
def execControlParityError (array : Nat) (s : State) : Host.Outcome State Fault Refusal := run (faultS3 0x2902 0 array) s

/-- DIE_NETWORK_HEADER_FAIL at a mesh node (14 R503). -/
def execDieNetworkHeaderFail (node : Nat) (s : State) : Host.Outcome State Fault Refusal := run (faultS3 0x2903 0 node) s

/-- TCXO_STOPPED (14 R503). -/
def execTcxoStopped (s : State) : Host.Outcome State Fault Refusal := run (faultS3 0x4901 0 0) s

/-! ### Optical engines (14 R504) -/

/-- OPTICAL_ENGINE_FAULT: code 0x3901, and the engine's eight links go down with reason 6 (14 R504; 10 R374). -/
def execOpticalEngineFault (engine : Nat) (s : State) : Host.Outcome State Fault Refusal :=
  run (fun s =>
    if 8 ≤ engine ∨ (engineOf engine s).faulted then s
    else
      let s := emit 0x3901 engine engine (modEngine engine (fun e => { e with faulted := true }) s)
      forEach (engineLinks engine) (fun k => darken k 6) s) s

/-! ### Extraction (14 R495, R496) -/

/-- The objects that set up an extraction take writes in Sit-out only (14 R495). -/
def writeExtract (r : RegId) (v : Nat) (s : State) : Nat × State :=
  if inSitout s then (0, wr r v s) else (0x03000004, s)

/-- The end sector of the extraction the objects name. -/
def extractEnd (s : State) : Nat :=
  if rd Obj.EXTRACT_LENGTH s = 0 then (tensorOf (rd Obj.EXTRACT_TENSOR s % 2 ^ 24) s).size
  else rd Obj.EXTRACT_START s + rd Obj.EXTRACT_LENGTH s

/-- An extraction may start: in Sit-out, with none running, from a resident source that has the sectors asked for (14 R495,
R496). -/
def extractOk (s : State) : Bool :=
  let e := tensorOf (rd Obj.EXTRACT_TENSOR s % 2 ^ 24) s
  inSitout s && s.flt.extract.isNone && e.state != 0 && decide (extractEnd s ≤ e.size) &&
    decide (rd Obj.EXTRACT_START s < extractEnd s)

/-- An extraction begins: its counts are cleared and a transfer to the destination tensor is opened (14 R495, R496). -/
def beginExtract (s : State) : State :=
  let t := rd Obj.EXTRACT_TENSOR s % 2 ^ 24
  let first := rd Obj.EXTRACT_START s
  let dest := rd Obj.EXTRACT_DEST s
  let x : Extract := { Extract.init with
    tensor := t, first := first, next := first, last := extractEnd s, xfer := s.net.xferNo }
  let s := forEach [Obj.EXTRACT_SENT, Obj.EXTRACT_BAD, Obj.EXTRACT_MISSING, Obj.EXTRACT_FIRST_BAD] (fun r => wr r 0) s
  let s := wr Obj.EXTRACT_STATE 1 { s with flt := { s.flt with extract := some x } }
  openTransfer (dest % 2 ^ 24) (descBits 5 (fld dest 63 40) 0 0 first (x.last - first) 0) [] t 0 0 s

/-- EXTRACT_CONTROL = 1 (14 R495, R496). -/
def startExtract (s : State) : Nat × State := if extractOk s = false then (0x03000004, s) else (0, beginExtract s)

/-- EXTRACT_CONTROL = 2: the extraction ends. The spec gives no EXTRACT_STATE for it: idle or failed, a free value (log
entry 42). -/
def cancelExtract (s : State) : Nat × State :=
  if inSitout s = false then (0x03000004, s)
  else match s.flt.extract with
    | none => (0, s)
    | some x =>
      let (k, s) := drawFree s
      (0, endExtract (if bitOf (Config.freeWord k).toNat 0 then 3 else 0) (dropTx x.xfer s))

/-- EXTRACT_CONTROL (14 R495). -/
def writeExtractControl (v : Nat) (s : State) : Nat × State := if v = 1 then startExtract s else cancelExtract s

/-- EXTRACT_START (14 R495). -/
def execExtractStart (w : Writer) (s : State) : Host.Outcome State Fault Refusal :=
  run (command w 0xA020 5 1 (writeExtractControl 1)) s

/-- EXTRACT_CANCEL (14 R495). -/
def execExtractCancel (w : Writer) (s : State) : Host.Outcome State Fault Refusal :=
  run (command w 0xA020 5 2 (writeExtractControl 2)) s

/-- The running extraction changed. -/
def modExtract (f : Extract → Extract) (s : State) : State :=
  { s with flt := { s.flt with extract := s.flt.extract.map f } }

/-- A sector of a unit that is gone. -/
def sectorGone (n : Nat) (s : State) : Bool :=
  match unitOf n with
  | some u => unitGone u s
  | none => false

/-- A sector of the extraction as it is sent: corrected, or as stored and counted; none in a lost unit or behind one within
the same DATA flit (14 R496; log entry 43). -/
def extractSector (x : Extract) (n : Nat) (s : State) : Option Sector × State :=
  if sectorGone n s = true ∨ x.cut = true then (none, bump Obj.EXTRACT_MISSING s)
  else
    match consumeClean n s with
    | (some d, t) => (some (encodeSector d), bump Obj.EXTRACT_SENT t)
    | (none, t) =>
      (some (readOverlay n s), bump Obj.EXTRACT_SENT (bump Obj.EXTRACT_BAD
        (onlyIf (rd Obj.EXTRACT_BAD t == 0) (wr Obj.EXTRACT_FIRST_BAD x.next) t)))

/-- The DATA flit being filled is sent: `foff` counts groups of eight sectors from START (10 R366). -/
def sendExtract (x : Extract) (s : State) : State :=
  let t := s.net.txX.find? fun y => y.no == x.xfer
  let s := match t with
    | some y =>
      if x.buf.isEmpty then s
      else sendTo (mkFlit 1 2 y.peer (nodeId s) x.xfer ((x.next - x.first - 1) / 8) x.buf) s
    | none => s
  modExtract (fun y => { y with buf := [], cut := false }) s

/-- The extraction goes on by one sector: it is buffered corrected or as stored, or counted as missing; a full flit is sent, and
after the last sector the extraction is done (14 R496). -/
def extractNext (x : Extract) (s : State) : State :=
  let (y, s) := extractSector x ((tensorOf x.tensor s).home + x.next) s
  let x := { x with
    next := x.next + 1, buf := x.buf ++ y.toList, cut := x.cut || y.isNone, missing := x.missing || y.isNone }
  let s := modExtract (fun _ => x) s
  let s := onlyIf (decide ((x.next - x.first) % 8 = 0 ∨ x.last ≤ x.next)) (sendExtract x) s
  if x.last ≤ x.next then endExtract 2 (onlyIf x.missing (dropTx x.xfer) s) else s

/-- EXTRACT_SECTOR: the next sector is sent once the far end has opened the transfer and firmware runs (14 R496). -/
def execExtractSector (s : State) : Host.Outcome State Fault Refusal :=
  run (fun s => match s.flt.extract with
    | none => s
    | some x =>
      if (s.net.txX.any fun y => y.no == x.xfer && y.opened) = false ∨ s.boot.fwRunning = false then s
      else extractNext x s) s

/-! ### Alerts (14 R506) -/

/-- ALERT_CLEAR: every bit of ALERT_LATCH clears but bit 3 in Sit-out and bit 4 in halt (14 R506). -/
def writeAlertClear (s : State) : Nat × State :=
  let keep := match rd Obj.FAULT_STATE s with
    | 0 => 0
    | 1 => 8
    | _ => 16
  (0, wr Obj.ALERT_LATCH (rd Obj.ALERT_LATCH s &&& keep) s)

/-- ALERT_CLEAR (14 R506). -/
def execAlertClear (w : Writer) (s : State) : Host.Outcome State Fault Refusal :=
  run (command w 0xA002 2 1 writeAlertClear) s

end Sys2Proof.Machine
end

