-- ==== Sys2Proof/Machine/Power.lean ====
section
/-! DEFINITION. Operating points, budgets and throttling, the over-current clamp, temperature limits, coolant and the wear
ledger (16 Power, thermal limits and wear). -/

namespace Sys2Proof.Machine

open Sys2Proof

/-- The power state changed by `f`. -/
def modPow (f : Power → Power) (s : State) : State := { s with pow := f s.pow }

/-! ### Changes of operating point (16 R534, R535) -/

/-- A change toward a point begins, replacing one that has not switched the clock; a slower point needs no higher rail
first. In Sit-out the point stays (16 R534, R535). -/
def startChange (target cause : Nat) (s : State) : State :=
  let p := rd Obj.OP_POINT s
  if p = 3 then s
  else if p = target then modPow (fun x => { x with change := none, passHold := false }) s
  else
    let slower := decide (p < target)
    modPow (fun x => { x with change := some ⟨target, slower, cause⟩, passHold := slower }) s

/-- Surge ends for a cause of 16 R544: code 0x5103, and the change to Full or Reduced begins. -/
def endSurge (cause target : Nat) (s : State) : State :=
  if rd Obj.OP_POINT s ≠ 0 ∨ (s.pow.change.any fun c => c.target != 0) then s
  else
    let s := wr Obj.LAST_SURGE_END cause (wr Obj.OP_REQUEST 0 s)
    let s := modPow (fun x => { x with surgeEndAt := some x.opTime }) s
    startChange target cause (emit 0x5103 0 cause s)

/-- No array has a pass in flight. -/
def noPass (s : State) : Bool := s.cores.all fun k => k.arrays.all fun a => a.flight.isEmpty

/-- CORE_RAIL_RAISED: the rail of a faster point is up, and no new PASS issues (16 R534 steps 1 and 2). -/
def execCoreRailRaised (s : State) : Host.Outcome State Fault Refusal :=
  run (fun s => match s.pow.change with
    | none => s
    | some c => modPow (fun x => { x with change := some { c with railUp := true }, passHold := true }) s) s

/-- POINT_CLOCK_SWITCH: with no pass in flight the clock switches and PASS issue is released; the window begins afresh
(16 R534 steps 3 and 4, R536). -/
def execPointClockSwitch (s : State) : Host.Outcome State Fault Refusal :=
  run (fun s => match s.pow.change with
    | none => s
    | some c =>
      if c.railUp = false ∨ noPass s = false then s
      else
        let s := modPow (fun x => { x with
          change := none, passHold := false, samples := [], lowMs := 0, idleFreeMs := 0, surgeAt := s.clk.ticks }) s
        emit 0x5101 0 c.target (bump Obj.POINT_CHANGES (setPoint c.target s))) s

/-! ### Requests (16 R543, R544) -/

/-- The signed value of a 16-bit reading. -/
def reading (r : RegId) (s : State) : Int := toSigned 16 (rd r s)

/-- Surge seconds of the last 24 hours (16 R554). -/
def surgeUsed (s : State) : Nat := sumNat s.pow.ledger.surgeBins

/-- The first reason of 16 R543 to refuse Surge, 0 for none. -/
def surgeRefusal (s : State) : Nat :=
  if rd Obj.SURGE_ALLOWANCE s ≤ surgeUsed s then 1
  else if rd Obj.POWER_BUDGET s < 1800 then 2
  else if s.pow.surgeEndAt.any fun t => decide (s.pow.opTime < t + 960) then 3
  else if 320 < reading Obj.COOLANT_IN s then 4
  else if 736 ≤ reading Obj.DIE_HOTSPOT s then 5
  else if s.pow.ledger.ahead then 6
  else if s.pow.voltOut then 7
  else 0

/-- A write of OP_REQUEST. A Surge request that is refused is taken, recorded with its reason, and reads back 0; Surge that
ends by a write reads back 0 too (16 R534, R543, R544). -/
def writeOpRequest (v : Nat) (s : State) : Nat × State :=
  let surge := rd Obj.OP_POINT s == 0
  if v = 1 then
    match surgeRefusal s with
    | 0 => (0, startChange 0 0 (wr Obj.OP_REQUEST 1 (modPow (fun x => { x with softReduced := false }) s)))
    | r => (0, emit 0x5102 0 r (wr Obj.OP_REQUEST 0 s))
  else
    let s := modPow (fun x => { x with softReduced := v == 2 }) s
    let target := if v = 2 then 2 else 1
    if surge then (0, endSurge 5 target s) else (0, startChange target 0 (wr Obj.OP_REQUEST v s))

/-- OP_REQUEST = 0 (16 R544). -/
def execOpRequestFull (w : Writer) (s : State) : Host.Outcome State Fault Refusal :=
  run (command w 0xC000 2 0 (writeOpRequest 0)) s

/-- OP_REQUEST = 1 (16 R543). -/
def execOpRequestSurge (w : Writer) (s : State) : Host.Outcome State Fault Refusal :=
  run (command w 0xC000 2 1 (writeOpRequest 1)) s

/-- OP_REQUEST = 2 (16 R534). -/
def execOpRequestReduced (w : Writer) (s : State) : Host.Outcome State Fault Refusal :=
  run (command w 0xC000 2 2 (writeOpRequest 2)) s

/-- SURGE_MAX_CONTINUOUS: the longest continuous Surge has been reached (16 R544 cause 1). -/
def execSurgeMaxContinuous (s : State) : Host.Outcome State Fault Refusal :=
  run (fun s => onlyIf (decide (s.pow.surgeAt + 1000000000 * rd Obj.SURGE_MAX_CONTINUOUS s ≤ s.clk.ticks)) (endSurge 1 1) s) s

/-! ### The budget (16 R536 to R540) -/

/-- POWER_SAMPLE: the input power of 10 µs enters the window of 1 s since the last change of point (16 R536). -/
def execPowerSample (watts : BitVec 16) (s : State) : Host.Outcome State Fault Refusal :=
  run (fun s =>
    let xs := (watts.toNat :: s.pow.samples).take 100000
    wr Obj.WINDOW_POWER (sumNat xs / xs.length) (modPow (fun x => { x with samples := xs }) s)) s

/-- The effective budget: POWER_BUDGET lowered by the deratings of 16 R551 (R540). -/
def effectiveBudget (s : State) : Nat :=
  let flow := if s.pow.flowDerate then 1400 else 65535
  let hot := if s.pow.inlet45 then max 1000 (1500 - 100 * ((reading Obj.COOLANT_IN s - 360) / 8).toNat) else 65535
  min (rd Obj.POWER_BUDGET s) (min flow hot)

/-- Throttling has kept array activity low, or has not been needed, for another millisecond (16 R538). -/
def countThrottle (gap : Nat) (activityLow : Bool) (s : State) : State :=
  let low := gap != 0 && activityLow && rd Obj.OP_POINT s == 1
  let free := gap == 0 && decide (10 * rd Obj.WINDOW_POWER s < 8 * rd Obj.POWER_BUDGET s) && rd Obj.OP_POINT s == 2
  modPow (fun x => { x with lowMs := if low then x.lowMs + 1 else 0, idleFreeMs := if free then x.idleFreeMs + 1 else 0 }) s

/-- The changes to Reduced and back that throttling causes (16 R538). -/
def throttleChange (s : State) : State :=
  if 2000 ≤ s.pow.lowMs then startChange 2 0 (emit 0x5105 0 0 (modPow (fun x => { x with lowMs := 0 }) s))
  else if 10000 ≤ s.pow.idleFreeMs ∧ s.pow.softReduced = false then
    startChange 1 0 (modPow (fun x => { x with idleFreeMs := 0 }) s)
  else s

/-- The gap of a control period is set: code 0x5104 as throttling for power begins (16 R536, R537). -/
def setGap (gap : Nat) (s : State) : State :=
  let budget := effectiveBudget s
  let s := wr Obj.EFFECTIVE_BUDGET budget s
  let hot := decide (800 < reading Obj.DIE_HOTSPOT s)
  let s := onlyIf (gap != 0 && !s.pow.throttling && !hot) (emit 0x5104 0 budget) s
  wr Obj.THROTTLE_GAP gap (modPow (fun x => { x with throttling := gap != 0 && (x.throttling || !hot) }) s)

/-- Surge ends where the window has passed its budget (16 R539, R544 cause 4). -/
def surgeOver (s : State) : State := onlyIf (decide (rd Obj.SURGE_BUDGET s < rd Obj.WINDOW_POWER s)) (endSurge 4 1) s

/-- THROTTLE_PERIOD: each 1 ms the controller takes the budgets in force and sets THROTTLE_GAP. Which gap it sets is its own
choice, an operand (log entry 44); `activityLow` tells that array activity lies below 70% of its unthrottled value
(16 R536 to R540, R544 cause 4). -/
def execThrottlePeriod (gap : BitVec 16) (activityLow : Bool) (s : State) : Host.Outcome State Fault Refusal :=
  run (fun s => surgeOver (throttleChange (countThrottle gap.toNat activityLow (setGap gap.toNat s)))) s

/-! ### The over-current clamp (16 R541, R542; 04 R154) -/

/-- CLAMP_ENGAGE: input power above 2,075 W stops the arrays' west input (16 R541). -/
def execClampEngage (watts : BitVec 16) (s : State) : Host.Outcome State Fault Refusal :=
  run (fun s =>
    if s.pow.clamp ∨ watts.toNat ≤ 2075 then s
    else modPow (fun x => { x with clamp := true, clampAt := s.clk.ticks, clampCyc := coreClock s }) s) s

/-- Nanoseconds of clamp stalls within the second before tick `t`. -/
def clampTotal (t : Nat) (ws : List (Nat × Nat)) : Nat :=
  sumNat (ws.map fun (e, n) => min n (e + 1000000000 - t))

/-- The clamp of `ns` nanoseconds is released: the passes resume, the stall and its length are counted, and 10 ms of stalls
within 1 s end Surge (16 R541, R544 cause 6; 04 R154). -/
def clampEnds (ns : Nat) (s : State) : State :=
  let cycles := (coreClock s - s.pow.clampCyc) / 1000
  let ws := (s.clk.ticks, ns) :: s.pow.clampWin.filter fun p => decide (s.clk.ticks < p.1 + 1000000000)
  let s := modPow (fun x => { x with clamp := false, clampWin := ws }) s
  let s := emit 0x2207 0 cycles (bumpBy cycles Obj.CLAMP_CYCLES (bump Obj.CLAMP_STALLS s))
  onlyIf (decide (10000000 ≤ clampTotal s.clk.ticks ws)) (endSurge 6 1) s

/-- CLAMP_RELEASE: input power below 1,950 W (16 R541). -/
def execClampRelease (watts : BitVec 16) (s : State) : Host.Outcome State Fault Refusal :=
  run (fun s => if s.pow.clamp = false ∨ 1950 ≤ watts.toNat then s else clampEnds (s.clk.ticks - s.pow.clampAt) s) s

/-! ### Temperatures and supply (16 R547, R549, R552) -/

/-- The die's hot spot is above 100 °C: code 0x5110 once, THROTTLE_GAP is raised to a value of the controller's choice (log entry
44), and 100 ms of it change the module to Reduced (16 R544, R547). -/
def hotspotOver (temp gap : Nat) (s : State) : State :=
  let s := onlyIf (!s.pow.hot100Noted) (emit 0x5110 0 temp) s
  let s := wr Obj.THROTTLE_GAP (max gap (rd Obj.THROTTLE_GAP s)) s
  let s := modPow (fun x => { x with hot100 := x.hot100 + 1, hot100Noted := true }) s
  onlyIf (decide (1000 ≤ s.pow.hot100 ∧ rd Obj.OP_POINT s = 1)) (startChange 2 0) s

/-- HOTSPOT_READING: every 100 µs the die hot spot is held against its limits; at 97 °C it ends Surge (16 R544 cause 2, R547). -/
def execHotspotReading (temp gap : BitVec 16) (s : State) : Host.Outcome State Fault Refusal :=
  run (fun s =>
    let t := toSigned 16 temp.toNat
    let s := modPow (fun x => { x with hot105 := if 840 < t then x.hot105 + 1 else 0 }) (wr Obj.DIE_HOTSPOT temp.toNat s)
    let s := onlyIf (decide (776 ≤ t)) (endSurge 2 1) s
    if t ≤ 800 then modPow (fun x => { x with hot100 := 0, hot100Noted := false }) s
    else hotspotOver temp.toNat gap.toNat s) s

/-- HOTSPOT_SITOUT: above 105 °C for 1 ms, ten readings in a row and this one (16 R547). -/
def execHotspotSitout (temp : BitVec 16) (s : State) : Host.Outcome State Fault Refusal :=
  run (fun s => onlyIf (decide (840 < toSigned 16 temp.toNat ∧ 10 ≤ s.pow.hot105)) (faultS3 0x5901 0 temp.toNat) s) s

/-- HOTSPOT_HALT: the comparator at 115 °C (16 R547). -/
def execHotspotHalt (s : State) : Host.Outcome State Fault Refusal := run (haltModule 0x5902 0 0) s

/-- An engine's temperature `t` in eighths of a degree: code 0x5111 once above 80 °C; below 75 °C an engine turned off for its
temperature gives light again (16 R549). -/
def engineRead (engine : Nat) (t : Int) (s : State) : State :=
  let e := engineOf engine s
  let s := onlyIf (decide (640 < t) && !e.hotNoted) (emit 0x5111 engine engine) s
  let s := modEngine engine (fun e => { e with
    hotNoted := decide (640 < t), hot90At := if 720 < t then some (e.hot90At.getD s.clk.ticks) else none }) s
  if e.hotOff ∧ t < 600 then lightLinks (modEngine engine (fun e => { e with hotOff := false }) s) else s

/-- OPTICAL_ENGINE_TEMP_READING (16 R549). -/
def execOpticalEngineTempReading (engine : Nat) (temp : BitVec 16) (s : State) : Host.Outcome State Fault Refusal :=
  run (engineRead engine (toSigned 16 temp.toNat)) s

/-- OPTICAL_ENGINE_OVERTEMP: above 90 °C for 100 ms the engine's lasers are turned off and its links go dark with reason 6
(16 R549). -/
def execOpticalEngineOvertemp (engine : Nat) (s : State) : Host.Outcome State Fault Refusal :=
  run (fun s =>
    let long := (engineOf engine s).hot90At.any fun a => decide (a + 100000000 ≤ s.clk.ticks)
    if 8 ≤ engine ∨ (engineOf engine s).hotOff ∨ long = false then s
    else
      let s := emit 0x5112 engine engine (modEngine engine (fun e => { e with hotOff := true }) s)
      forEach (engineLinks engine) (fun k => darken k 6) s) s

/-- VOLTAGE_OUT_OF_RANGE: input outside 48-58 V but inside 45-60 V for 10 ms (16 R552, R544 cause 7). -/
def execVoltageOutOfRange (volts : BitVec 16) (s : State) : Host.Outcome State Fault Refusal :=
  run (fun s =>
    let v := volts.toNat
    if (4800 ≤ v ∧ v ≤ 5800) ∨ v < 4500 ∨ 6000 < v then s
    else
      let s := onlyIf (!s.pow.voltOut) (emit 0x5115 0 v) s
      endSurge 7 1 (modPow (fun x => { x with voltOut := true }) s)) s

/-! ### Coolant (16 R551) -/

/-- The flow estimate in 0.01 L/min, or none: 0.95 x input power / (4,180 x temperature rise) kg/s of water (16 R551). -/
def flowEstimate (watts : Nat) (rise : Int) : Option Nat :=
  if rise < 16 then none else some (min 0xFFFE (45600 * watts / (4180 * rise.toNat)))

/-- The flow derating: 10 s below 1.6 L/min begin it, 60 s at 1.8 L/min or more end it (16 R551). -/
def flowRule (flow : Nat) (s : State) : State :=
  let s := modPow (fun x => { x with
    flowLowSecs := if flow < 160 then x.flowLowSecs + 1 else 0
    flowOkSecs := if 180 ≤ flow ∧ x.flowDerate then x.flowOkSecs + 1 else 0 }) s
  if 10 ≤ s.pow.flowLowSecs ∧ s.pow.flowDerate = false then
    emit 0x5113 0 flow (modPow (fun x => { x with flowDerate := true, flowOkSecs := 0 }) s)
  else if 60 ≤ s.pow.flowOkSecs then modPow (fun x => { x with flowDerate := false, flowOkSecs := 0 }) s
  else s

/-- The inlet's rules: derating and code 0x5904 above 45 °C, code 0x5114 below 20 °C (16 R551; 14 R504). -/
def inletRule (inlet : BitVec 16) (s : State) : State :=
  let t := toSigned 16 inlet.toNat
  let hot := decide (360 < t)
  let cold := decide (t < 160)
  let s := onlyIf (hot && !s.pow.inlet45) (emit 0x5904 0 inlet.toNat) s
  let s := onlyIf (cold && !s.pow.inlet20) (emit 0x5114 0 inlet.toNat) s
  modPow (fun x => { x with inlet45 := hot, inlet20 := cold }) s

/-- The coolant readings are stored, and the flow they show; none where a reading is not valid (16 R551). -/
def coolantRead (inlet outlet : BitVec 16) (flow : Option Nat) (s : State) : State :=
  wr Obj.FLOW_ESTIMATE (flow.getD 0xFFFF) (wr Obj.COOLANT_IN inlet.toNat (wr Obj.COOLANT_OUT outlet.toNat s))

/-- The budget in force is shown (16 R540). -/
def showBudget (s : State) : State := wr Obj.EFFECTIVE_BUDGET (effectiveBudget s) s

/-- FLOW_ESTIMATE: each second flow is estimated from the input power and the coolant temperatures, and the budget is derated
(16 R540, R551). -/
def execFlowEstimate (watts inlet outlet : BitVec 16) (valid : Bool) (s : State) : Host.Outcome State Fault Refusal :=
  run (fun s =>
    match (if valid then flowEstimate watts.toNat (toSigned 16 outlet.toNat - toSigned 16 inlet.toNat) else none) with
    | some f => showBudget (inletRule inlet (flowRule f (coolantRead inlet outlet (some f) s)))
    | none => showBudget (coolantRead inlet outlet none s)) s

/-! ### The wear ledger (16 R553 to R556) -/

/-- The largest number of `b` bits or fewer above `m` whose 80th power is at most `x`. -/
def root80 (x : Nat) : Nat → Nat → Nat
  | 0, m => m
  | b + 1, m => root80 x b (if (m + 2 ^ b) ^ 80 ≤ x then m + 2 ^ b else m)

/-- 2^((T - 85) / 10), clamped between 0.25 and 4, in units of 2^-64, rounded down; T in 1/8 °C (16 R553; log entry 45). -/
def wearTerm (t : Int) : Nat :=
  let n := max (-160) (min 160 (t - 680))
  root80 (2 ^ (64 * 80 + 160 + n).toNat) 69 0 / 4

/-- Ten times the wear factor of a point (16 R532). -/
def wearFactor (point : Nat) : Nat :=
  match point with
  | 0 => 80
  | 1 => 10
  | 2 => 5
  | _ => 1

/-- The ledger is ahead of schedule: its units exceed 1.25 x the operating seconds (16 R556). -/
def aheadOf (l : Ledger) : Bool := decide (5 * l.seconds * 2 ^ 64 < 4 * l.units)

/-- The ledger after a second at a point with a mean hot spot (16 R553, R554, R556). -/
def wearSecond (point : Nat) (temp : Int) (old : Ledger) : Ledger :=
  let l : Ledger := { old with
    units := old.units + wearFactor point * wearTerm temp / 10
    seconds := old.seconds + 1
    surgeBins := if point = 0 then upd (· + 1) old.surgeBins 0 else old.surgeBins }
  { l with ahead := aheadOf l }

/-- The ledger is kept; code 0x5121 as it comes ahead of schedule (16 R553, R556). -/
def keepLedger (l : Ledger) (s : State) : State :=
  onlyIf (l.ahead && !s.pow.ledger.ahead) (emit 0x5121 0 (l.units / 2 ^ 80)) (modPow (fun x => { x with
    ledger := l, ledgerSecs := x.ledgerSecs + 1 }) s)

/-- Surge ends where its allowance is used (16 R544 cause 3, R554). -/
def surgeSpent (s : State) : State := onlyIf (decide (rd Obj.SURGE_ALLOWANCE s ≤ surgeUsed s)) (endSurge 3 1) s

/-- WEAR_CHARGE: each second the ledger adds wear units for the mean hot spot of the second, and counts a Surge second
(16 R553, R554, R556; R544 cause 3). -/
def execWearCharge (temp : BitVec 16) (s : State) : Host.Outcome State Fault Refusal :=
  run (fun s => surgeSpent (keepLedger (wearSecond (rd Obj.OP_POINT s) (toSigned 16 temp.toNat) s.pow.ledger) s)) s

/-- LEDGER_WRITE: every 60 s, and on entry into Sit-out, the ledger is written to flash, after a power-fail flush and a
pending saved image. One failed write is retried; a second failure is recorded (16 R555; 15 R524). -/
def execLedgerWrite (failures : Nat) (s : State) : Host.Outcome State Fault Refusal :=
  run (fun s =>
    let first := !s.pins.pwrFailN && ((s.rcd.flush.any fun f => f.powerFail) || s.boot.saveDirty)
    if s.pow.ledgerSecs < 60 ∨ first then s
    else
      let s := modPow (fun x => { x with ledgerSecs := 0 }) s
      if failures < 2 then { s with flash := { s.flash with ledger := s.pow.ledger } } else emit 0x5120 0 0 s) s

end Sys2Proof.Machine
end

