-- ==== Sys2Proof/Machine/Security.lean ====
section
/-! DEFINITION. Firmware slots and their checks, fuses, attestation, measurement and debug unlock (17 Boot integrity, identity
and attestation). -/

namespace Sys2Proof.Machine

open Sys2Proof

/-- Bytes of a context string (17 R559, R570, R572). -/
def ascii (s : String) : List Byte := s.toList.map fun c => BitVec.ofNat 8 c.toNat

/-- `n` bytes from address `a` of a sparse memory whose unlisted bytes are 0. -/
def cellBytes (m : List Host.Cell) (a n : Nat) : List Byte := (List.range n).map fun i => spGet 0#8 m (a + i)

/-- The little-endian number of `n` bytes at `a`. -/
def cellNum (m : List Host.Cell) (a n : Nat) : Nat := ofLeBytes (cellBytes m a n)

/-! ### Firmware slots (17 R558 to R562) -/

/-- The bytes of a firmware slot. -/
def slotCells (k : Nat) (s : State) : List Host.Cell := if k = 0 then s.flash.fw0 else s.flash.fw1

/-- A firmware slot's bytes replaced. -/
def setSlotCells (k : Nat) (m : List Host.Cell) (s : State) : State :=
  { s with flash := if k = 0 then { s.flash with fw0 := m } else { s.flash with fw1 := m } }

/-- BODY_LENGTH of an image is one the layout allows (17 R560). -/
def bodyLengthOk (n : Nat) : Bool := n % 4096 == 0 && decide (4096 ≤ n ∧ n ≤ 8380416)

/-- The first check of 17 R559 that an image fails, 0 for none. -/
def imageReason (m : List Host.Cell) (s : State) : Nat :=
  let len := cellNum m 16 4
  let key := cellNum m 6 2
  let pk := cellBytes m 128 1952
  if cellNum m 0 4 ≠ 0x4A534657 ∨ cellNum m 4 2 ≠ 1 ∨ bodyLengthOk len = false then 1
  else if 3 < key ∨ shake512 pk ≠ Config.fusedKeyDigest key then 2
  else if bitOf s.fuse.revoked.toNat key then 3
  else if Config.mldsaVerify pk (cellBytes m 0 2080) (ascii "JZ2-FW") (cellBytes m 2080 3309) = false then 4
  else if shake512 (cellBytes m 8192 len) ≠ cellBytes m 64 64 then 5
  else if cellNum m 12 2 < s.fuse.svn then 6
  else 0

/-- The abort code of a rejection reason (17, abort codes). -/
def reasonCode (r : Nat) : Nat :=
  match r with
  | 1 => 0x06000001
  | 3 => 0x06000003
  | 6 => 0x06000004
  | _ => 0x06000002

/-- The slot software loads: the one that did not boot; slot 0 in recovery (17 R561, R563). -/
def inactiveSlot (s : State) : Nat := if s.pow.phase = .recovery then 0 else 1 - s.boot.bootSlot

/-- A pending mark is cleared (17 R562). -/
def clearPending (s : State) : State := { s with flash := { s.flash with pendingSlot := none } }

/-- A write of FW_OFFSET (17 R562). -/
def writeFwOffset (v : Nat) (s : State) : Nat × State := (0, wr Obj.FW_OFFSET v (clearPending s))

/-- A write of FW_DATA: 8 bytes at FW_OFFSET, which advances. Bytes past the slot are refused (17 R561; log entry 46). -/
def writeFwData (v : Nat) (s : State) : Nat × State :=
  let off := rd Obj.FW_OFFSET s
  if 0x800000 < off + 8 then (0x03000004, s)
  else
    let k := inactiveSlot s
    let s := setSlotCells k (putBytes off (leBytes 8 v) (slotCells k s)) (clearPending s)
    (0, wr Obj.FW_STATE 1 (wr Obj.FW_OFFSET (off + 8) s))

/-- The frame of the loading commands, which the ROM takes in recovery too (17 R563). -/
def runFw (f : State → State) (s : State) : Host.Outcome State Fault Refusal :=
  .next (if alive s || s.pow.phase == .recovery then { f s with pending := s.pending, clk := s.clk, fuse := s.fuse } else s)

/-- FW_DATA (17 R561). -/
def execFwData (w : Writer) (v : BitVec 64) (s : State) : Host.Outcome State Fault Refusal :=
  runFw (command w 0xD010 2 v.toNat (writeFwData v.toNat)) s

/-- BODY_LENGTH of the image at a memory address. -/
def floorLength (v : Nat) (s : State) : Nat := ofLeBytes (rdBytes (v + 16) 4 s)

/-- The abort code of a copy that is refused before it reads: an address outside the Floor, or a BODY_LENGTH no image has; 0 for
none (17 R561; log entry 46). -/
def floorRefusal (v : Nat) (s : State) : Nat :=
  if regionOf v ≠ .floor ∨ regionOf (v + 19) ≠ .floor then 0x02000001
  else if bodyLengthOk (floorLength v s) = false then 0x06000001
  else if regionOf (v + 8191 + floorLength v s) ≠ .floor then 0x02000001
  else 0

/-- What was read goes into the inactive slot; nothing where a sector could not be read (17 R561; log entry 46). -/
def floorTaken (v len : Nat) : Option (List Byte) × State → Nat × State
  | (none, t) => (0x03000004, t)
  | (some bs, t) =>
    let k := inactiveSlot t
    (0, wr Obj.FW_STATE 1
      (setSlotCells k (putBytes 0 ((bs.drop (v % 32)).take (8192 + len)) (slotCells k t)) (clearPending t)))

/-- FW_FROM_FLOOR: 8,192 + BODY_LENGTH bytes are copied from a Floor address into the inactive slot (17 R561). -/
def writeFwFromFloor (v : Nat) (s : State) : Nat × State :=
  match floorRefusal v s with
  | 0 => floorTaken v (floorLength v s)
      (readSectors (v / 32) ((v + 8192 + floorLength v s + 31) / 32 - v / 32) s)
  | c => (c, s)

/-- FW_FROM_FLOOR (17 R561). -/
def execFwFromFloor (w : Writer) (v : BitVec 64) (s : State) : Host.Outcome State Fault Refusal :=
  run (command w 0xD010 3 v.toNat (writeFwFromFloor v.toNat)) s

/-- The ROM has a slot it may boot: it resets the module and boots slot 0 (17 R563). -/
def leaveRecovery (s : State) : State :=
  { s with
    flash := { s.flash with currentSlot := 0, pendingSlot := none, recoveryMark := true }
    pow := { s.pow with phase := .active } }

/-- A write of FW_CONTROL: 1 checks the inactive slot and makes it pending, 2 clears the pending mark. A refused image shows
in FW_STATE (17 R561 to R563). -/
def writeFwControl (v : Nat) (s : State) : Nat × State :=
  if v = 2 then (0, wr Obj.FW_STATE 0 (clearPending s))
  else
    let k := inactiveSlot s
    match imageReason (slotCells k s) s with
    | 0 =>
      if s.pow.phase = .recovery then (0, leaveRecovery s)
      else
        let svn := cellNum (slotCells k s) 12 2
        (0, emit 0x7004 0 svn (wr Obj.FW_STATE 3 { s with flash := { s.flash with pendingSlot := some k, pendTried := false } }))
    | r => (reasonCode r, wr Obj.FW_STATE 4 s)

/-- FW_CONTROL = 1 (17 R561). -/
def execFwVerify (w : Writer) (s : State) : Host.Outcome State Fault Refusal :=
  runFw (command w 0xD010 4 1 (writeFwControl 1)) s

/-- FW_CONTROL = 2 (17 R562). -/
def execFwClearPending (w : Writer) (s : State) : Host.Outcome State Fault Refusal :=
  runFw (command w 0xD010 4 2 (writeFwControl 2)) s

/-! ### Fuses (17 R564, R565) -/

/-- A write of FUSE_SVN: the fused version rises to v, which IMAGE_SVN of the running and of a pending image must reach
(17 R564). -/
def writeFuseSvn (v : Nat) (s : State) : Nat × State :=
  let pendingOk := s.flash.pendingSlot.all fun k => decide (v ≤ cellNum (slotCells k s) 12 2)
  if v ≤ s.fuse.svn ∨ rd Obj.IMAGE_SVN s < v ∨ pendingOk = false then (0x06000005, s)
  else (0, emit 0x7005 0 v { s with fuse := { s.fuse with svn := v } })

/-- FUSE_SVN (17 R564). -/
def execFuseSvn (w : Writer) (v : BitVec 8) (s : State) : Host.Outcome State Fault Refusal :=
  runFuse (command w 0xD010 6 v.toNat (writeFuseSvn v.toNat)) s

/-- A write of REVOKE_KEY: signing key k is revoked, unless the running image is signed with it or no other key is left
(17 R565). -/
def writeRevokeKey (k : Nat) (s : State) : Nat × State :=
  let others := (List.range 4).filter fun j => j != k
  if k = s.boot.runKey ∨ (others.all fun j => bitOf s.fuse.revoked.toNat j) then (0x06000005, s)
  else (0, emit 0x7006 0 k { s with fuse := { s.fuse with revoked := s.fuse.revoked ||| BitVec.ofNat 4 (2 ^ k) } })

/-- REVOKE_KEY (17 R565). -/
def execRevokeKey (w : Writer) (k : BitVec 8) (s : State) : Host.Outcome State Fault Refusal :=
  runFuse (command w 0xD010 7 k.toNat (writeRevokeKey k.toNat)) s

/-! ### Attestation (17 R568 to R570) -/

/-- The items a selected object stands for, in order (13 R451). -/
def selItems (idx sub : Nat) : List Nat :=
  if selected idx sub = false then [0]
  else match idx with
    | 0x7001 => List.range 16
    | 0x7002 => List.range 256
    | 0x7003 => List.range 2048
    | 0x7130 => List.range 577 ++ (List.range 577).map (32768 + ·)
    | 0x8005 => List.range 64
    | 0x8010 => List.range 4352
    | 0x8100 => List.range 255
    | 0x9010 => List.range 16
    | 0xB020 => List.range 65536
    | 0xB110 => List.range 16
    | _ => [0]

/-- The indices and subindices a row of the dictionary tables stands for. -/
def rowObjects (r : ObjRow) : List (Nat × Nat) :=
  (List.range (r.idx1 + 1 - r.idx0)).flatMap fun i =>
    (List.range (r.sub1 + 1 - r.sub0)).map fun j => (r.idx0 + i, r.sub0 + j)

/-- The objects whose Save is yes, in ascending index and subindex order (13 R469; 17 R568). -/
def savedObjects : List (Nat × Nat) :=
  sortBy (fun p => p.1 * 256 + p.2) ((objRows.filter ObjRow.save).flatMap rowObjects)

/-- What M2 digests: index, subindex, length and value of every saved object, each item of a selected one in turn
(17 R568; log entry 47). -/
def savedBytes (s : State) : List Byte :=
  savedObjects.flatMap fun p =>
    match findObj p.1 p.2 with
    | .error _ => []
    | .ok r => (selItems p.1 p.2).flatMap fun i =>
      leBytes 2 p.1 ++ leBytes 1 p.2 ++ leBytes 1 r.size ++ leBytes r.size (rd (regOf r p.1 p.2 i) s)

/-- M1: the digest of bytes 0-2,079 of the booted image (17 R568). -/
def m1 (s : State) : List Byte := shake512 (cellBytes (slotCells s.boot.bootSlot s) 0 2080)

/-- BOOT_FLAGS of a report (17 R570). -/
def bootFlags (s : State) : Nat :=
  s.fuse.revoked.toNat + s.boot.bootSlot * 2 ^ 8 + b2n s.boot.fromPending * 2 ^ 9 + s.sec.scopesSeen.toNat * 2 ^ 10 +
    b2n s.boot.prevRecovery * 2 ^ 13

/-- Bytes 0-327 of a report (17 R570). -/
def reportBody (s : State) : List Byte :=
  leBytes 4 0x4A534154 ++ leBytes 4 1 ++ leBytes 8 Config.serial.toNat ++ leBytes 4 (rd Obj.FW_VERSION s) ++
  leBytes 2 (rd Obj.IMAGE_SVN s) ++ leBytes 2 s.fuse.svn ++ leBytes 4 (bootFlags s) ++ leBytes 4 (rd Obj.EXTEND_COUNT s) ++
  leBytes 8 (now s) ++ (List.range 4).flatMap (fun i => leBytes 8 (rd (Obj.NONCE_W (2 + i)) s)) ++
  Config.romMeasurement ++ m1 s ++ shake512 (savedBytes s) ++ s.sec.m3

/-- Nonces are not taken while a report is built (17 R569). -/
def writeNonce (r : RegId) (v : Nat) (s : State) : Nat × State :=
  if rd Obj.ATTEST_STATE s = 1 then (0x06000006, s) else (0, wr r v s)

/-- A write of ATTEST_CONTROL: the report's contents are taken; it is refused while one is built, and after a debug unlock,
which ATTEST_STATE shows (17 R569, R573). -/
def writeAttest (s : State) : Nat × State :=
  if rd Obj.ATTEST_STATE s = 1 then (0x06000006, s)
  else if s.sec.keyErased then (0x06000007, wr Obj.ATTEST_STATE 3 s)
  else (0, wr Obj.ATTEST_STATE 1 { s with sec := { s.sec with attest := some (reportBody s) } })

/-- ATTEST (17 R569). -/
def execAttest (w : Writer) (s : State) : Host.Outcome State Fault Refusal := run (command w 0xD020 6 1 writeAttest) s

/-- REPORT_BUILT: the report is signed with the identity key and readable (17 R569, R570). -/
def execReportBuilt (s : State) : Host.Outcome State Fault Refusal :=
  run (fun s => match s.sec.attest with
    | none => s
    | some b =>
      let report := b ++ Config.mldsaSign b (ascii "JZ2-ATT")
      emit 0x7010 0 0 (wr Obj.ATTEST_STATE 2 { s with sec := { s.sec with attest := none, report := report } })) s

/-! ### Measurement (17 R571) -/

/-- A write of MEASURE_TENSOR: the tensor waits its turn with a reference held; one that is not resident is refused
(17 R571). -/
def writeMeasure (v : Nat) (s : State) : Nat × State :=
  let t := v % 2 ^ 24
  if (tensorOf t s).state ≠ 1 then (0x0600000A, s)
  else
    let s := takeRef t s
    let first := s.sec.measuring.isEmpty
    (0, wr Obj.MEASURE_STATE 1 { s with sec := { s.sec with
      measuring := s.sec.measuring ++ [t], measWritten := !first && s.sec.measWritten } })

/-- MEASURE_TENSOR (17 R571). -/
def execMeasureTensor (w : Writer) (v : BitVec 32) (s : State) : Host.Outcome State Fault Refusal :=
  run (command w 0xD030 1 v.toNat (writeMeasure v.toNat)) s

/-- M3 extended by a tensor's digest (17 R571). -/
def extendM3 (t : Nat) (d : BitVec 128) (s : State) : State :=
  let m := shake512 (s.sec.m3 ++ leBytes 3 t ++ leBytes 16 d.toNat)
  wr Obj.MEASURE_STATE 2 (bump Obj.EXTEND_COUNT { s with sec := { s.sec with m3 := m } })

/-- A measurement has ended: with a digest M3 is extended, without one code 0x7011 is written; its reference is dropped and the
next tensor's turn comes (17 R571; log entry 48). -/
def measured (t : Nat) (rest : List Nat) (d : Option (BitVec 128)) (s : State) : State :=
  let s := match d with
    | some d => extendM3 t d s
    | none => emit 0x7011 0 t (wr Obj.MEASURE_STATE 3 s)
  onlyIf (!rest.isEmpty) (wr Obj.MEASURE_STATE 1)
    (dropRef t { s with sec := { s.sec with measuring := rest, measWritten := false } })

/-- MEASUREMENT_DONE: M3 is extended; a tensor written during its digest, or one that cannot be read, leaves M3 as it is with
code 0x7011 (17 R571; 09 R332; log entry 48). -/
def execMeasurementDone (s : State) : Host.Outcome State Fault Refusal :=
  run (fun s => match s.sec.measuring with
    | [] => s
    | t :: rest =>
      let e := tensorOf t s
      if frozenAt 7 e.home s ∨ rangeHeld e.home e.size s then s
      else if s.sec.measWritten then measured t rest none s
      else afterSnoops false [(e.home, e.size)] (fun s =>
        let r := homeDigest e.home e.size s
        measured t rest r.1 r.2) s) s

/-! ### Debug unlock (17 R572, R573) -/

/-- A write of TOKEN_DATA: 8 bytes at TOKEN_OFFSET, which advances (17 R572). -/
def writeTokenData (v : Nat) (s : State) : Nat × State :=
  let s := { s with sec := { s.sec with token := putBytes (rd Obj.TOKEN_OFFSET s) (leBytes 8 v) s.sec.token } }
  (0, bumpBy 8 Obj.TOKEN_OFFSET s)

/-- TOKEN_DATA (17 R572). -/
def execTokenData (w : Writer) (v : BitVec 64) (s : State) : Host.Outcome State Fault Refusal :=
  run (command w 0xD040 3 v.toNat (writeTokenData v.toNat)) s

/-- DEBUG_CHALLENGE (17 R572). -/
def challengeBytes (s : State) : List Byte := (List.range 32).map fun i => Config.randomByte s.sec.challenge i

/-- The token loaded is accepted (17 R572). -/
def tokenOk (s : State) : Bool :=
  let m := s.sec.token
  cellNum m 0 4 == 0x4A534454 && cellNum m 8 8 == Config.serial.toNat && cellBytes m 16 32 == challengeBytes s &&
    Config.mldsaVerify Config.debugKey (cellBytes m 0 64) (ascii "JZ2-DBG") (cellBytes m 64 3309)

/-- The scopes of an accepted token open; scope 1 or 2 erases the identity key (17 R573). -/
def openScopes (scope : Nat) (s : State) : State :=
  let all := rd Obj.DEBUG_SCOPE s ||| scope
  emit 0x7020 0 scope (wr Obj.DEBUG_SCOPE all { s with sec := { s.sec with
    scopesSeen := s.sec.scopesSeen ||| BitVec.ofNat 3 scope, keyErased := s.sec.keyErased || scope / 2 != 0 } })

/-- DEBUG_CONTROL = 1: a token is checked. Each submission draws a new challenge; the fourth after three refusals is not
considered (17 R572). -/
def submitToken (s : State) : Nat × State :=
  if 3 ≤ s.sec.refusals then (0x06000009, s)
  else
    let ok := tokenOk s
    let s := { s with sec := { s.sec with challenge := s.sec.challenge + 1 } }
    if ok then (0, openScopes (cellNum s.sec.token 4 4 % 8) s)
    else
      let s := { s with sec := { s.sec with refusals := s.sec.refusals + 1 } }
      (0x06000008, emit 0x7021 0 s.sec.refusals s)

/-- The instruction the test access port takes: while no debug scope is open, BYPASS in place of any other than IDCODE (20 R623;
log entry 122). -/
def tapTakes (i : TapInstr) (s : State) : TapInstr := if i = .other ∧ rd Obj.DEBUG_SCOPE s = 0 then .bypass else i

/-- The test access port takes an instruction. -/
def loadTap (i : TapInstr) (s : State) : State := { s with sec := { s.sec with tap := tapTakes i s } }

/-- A write of DEBUG_CONTROL; closing the scopes leaves the test access port no other instruction (17 R572, R573; 20 R623). -/
def writeDebugControl (v : Nat) (s : State) : Nat × State :=
  if v = 1 then submitToken s
  else
    let t := wr Obj.DEBUG_SCOPE 0 s
    (0, loadTap t.sec.tap t)

/-- DEBUG_SUBMIT (17 R573). -/
def execDebugSubmit (w : Writer) (s : State) : Host.Outcome State Fault Refusal :=
  run (command w 0xD040 4 1 (writeDebugControl 1)) s

/-- DEBUG_CLOSE (17 R573). -/
def execDebugClose (w : Writer) (s : State) : Host.Outcome State Fault Refusal :=
  run (command w 0xD040 4 2 (writeDebugControl 2)) s

end Sys2Proof.Machine
end

