-- ==== Sys2Proof/Machine/Arbiter.lean ====
section
/-! DEFINITION. The 400 rank arbiters and the freezing of classes (19 System guarantees and arbitration). -/

namespace Sys2Proof.Machine

open Sys2Proof

/-- The FREEZE_SCOPE value that names an arbiter: 96 Floor slices, then 256 channels, then 48 sub-channels (19 R590, object
0x6202). -/
def arbScope (a : Nat) : Nat := if a < 96 then 1 else if a < 352 then 2 else 3

/-- The channel or sub-channel behind an arbiter. -/
def arbUnit (a : Nat) : Option Nat := if a < 96 then none else some (a - 96)

/-- A BACKGROUND request of a figure's own activity during its window: the tier's patrol in a SCRUB figure (requester 0), the
digest port in a DIGEST figure (requester 1) (19 R591, R596). -/
def inFigureNow (r : ArbReq) (s : State) : Bool :=
  r.cls == 7 && ((r.requester == 0 && scrubOpen (arbScope r.arb == 3) s) ||
    (r.requester == 1 && s.col.slots.any fun c => c.kind == 6))

/-- The class a request is granted under. -/
def arbClass (r : ArbReq) (s : State) : Nat := if inFigureNow r s then 8 else r.cls

/-- The object that holds a class's rank (19 R591). -/
def rankReg (c : Nat) : RegId :=
  match c with
  | 1 => Obj.RANK_COLLECTIVE
  | 2 => Obj.RANK_UPDATE
  | 3 => Obj.RANK_STREAM_READ
  | 4 => Obj.RANK_STREAM_WRITE
  | 5 => Obj.RANK_MOVER
  | 6 => Obj.RANK_HOST
  | 7 => Obj.RANK_BACKGROUND
  | _ => Obj.RANK_BACKGROUND_IN_FIGURE

/-- The rank of a request: its class's object, but for HOST in a HOST_WINDOW and the ranks of Sit-out (19 R596, R597). -/
def arbRank (r : ArbReq) (s : State) : Nat :=
  let c := arbClass r s
  if inSitout s then (match c with
    | 6 => 6
    | 5 => 5
    | 7 | 8 => 7
    | _ => rd (rankReg c) s)
  else if c = 6 then (hostWindowRank s).getD (rd Obj.RANK_HOST s)
  else rd (rankReg c) s

/-- A class is frozen at an arbiter by software or by a commit; an update step that has begun goes on (19 R598, R599, R601). -/
def arbFrozen (r : ArbReq) (s : State) : Bool :=
  let c := arbClass r s
  let soft := bitOf (rd Obj.FREEZE s) (c - 1) && [0, arbScope r.arb].contains (rd Obj.FREEZE_SCOPE s)
  c != 8 && !(c == 2 && r.stepStarted) && (soft || bitOf s.arb.commitFreeze.toNat (c - 1))

/-- Entries of a command queue that must be free for a rank (19 R594). -/
def entriesFor (rank : Nat) : Nat := if rank = 7 then 1 else if rank = 6 then 17 else 33

/-- The channel behind an arbiter is capped: its stack or package is in the Capped state (07 R252). -/
def arbCapped (a : Nat) (s : State) : Bool :=
  match arbUnit a with
  | none => false
  | some u => nth 0 s.mo.thermal (if u < 256 then u / 32 else 8 + (u - 256) / 4) == 2

/-- Sectors the arbiter has granted in this window of 1,024 ticks. -/
def windowGrants (a : Nat) (s : State) : Nat :=
  match s.arb.capWin.find? fun p => p.1 == a with
  | some (_, w, n) => if w = s.clk.ticks / 1024 then n else 0
  | none => 0

/-- A capped channel has granted its 1,024 sectors of the window (07 R252, R253). -/
def capReached (a : Nat) (s : State) : Bool := arbCapped a s && decide (1024 ≤ windowGrants a s)

/-- The requests an arbiter may grant now, with `room` entries of its command queue free. -/
def grantable (a room : Nat) (s : State) : List ArbReq :=
  if capReached a s then []
  else s.arb.waiting.filter fun r =>
    r.arb == a && !arbFrozen r s && (arbUnit a == none || decide (entriesFor (arbRank r s) ≤ room))

/-- A number for each requester: its class and its number within the class. -/
def reqKey (r : ArbReq) : Nat := r.cls * 256 + r.requester

/-- The requester next in rotation after the one last granted at a rank (19 R592). -/
def nextRequester (last : Nat) (ks : List Nat) : Option Nat :=
  match (ks.filter fun k => decide (last ≤ k)).min? with
  | some k => some k
  | none => ks.min?

/-- The request a grant slot goes to: the oldest of the next requester in rotation among those of the highest rank
(19 R592). -/
def grantOf (a room : Nat) (s : State) : Option ArbReq :=
  let rs := grantable a room s
  match (rs.map fun r => arbRank r s).max? with
  | none => none
  | some top =>
    let at_ := rs.filter fun r => arbRank r s == top
    match nextRequester (spGet 0 s.arb.rot (a * 8 + top)) (at_.map reqKey) with
    | none => none
    | some k => at_.find? fun r => reqKey r == k

/-- A request is granted: it leaves the arbiter, stays outstanding, and is counted (19 R592, object 0x6202). -/
def grant (r : ArbReq) (s : State) : State :=
  let a := s.arb
  let top := arbRank r s
  let cap := (r.arb, s.clk.ticks / 1024, windowGrants r.arb s + 1) :: a.capWin.filter fun p => p.1 != r.arb
  let s := bump (Obj.GRANTS (1 + arbClass r s) r.arb) s
  { s with arb := { a with
      waiting := dropFirst (fun x => x == r) a.waiting
      granted := a.granted ++ [r]
      rot := spSet 0 (r.arb * 8 + top) (reqKey r + 1) a.rot
      capWin := if (arbUnit r.arb).isSome then cap else a.capWin } }

/-- ARBITER_GRANT: one grant slot of an arbiter. `done` are granted requests that have completed since, `raised` the requests
raised since (class, requester, number, whether of an update step already begun), `room` the free entries of its command queue
(19 R590 to R599; 07 R252). -/
def execArbiterGrant (arb room : Nat) (raised : List (Nat × Nat × Nat × Bool)) (done : List Nat) (s : State) :
    Host.Outcome State Fault Refusal :=
  run (fun s =>
    if 400 ≤ arb then s
    else
      let new := (raised.filter fun x => decide (1 ≤ x.1 ∧ x.1 ≤ 7)).map fun x =>
        ({ arb := arb, cls := x.1, requester := x.2.1 % 256, id := x.2.2.1, stepStarted := x.2.2.2 } : ArbReq)
      let s := { s with arb := { s.arb with
        waiting := s.arb.waiting ++ new
        granted := s.arb.granted.filter fun r => !(r.arb == arb && done.contains r.id) } }
      match grantOf arb room s with
      | some r => grant r s
      | none => s) s

/-- Bit n - 1: no granted request of class n is outstanding in the scope (19 R598). -/
def drainedBits (s : State) : Nat :=
  let scope := rd Obj.FREEZE_SCOPE s
  let open_ := s.arb.granted.filter fun r => scope == 0 || arbScope r.arb == scope
  sumNat ((List.range 7).map fun i => if open_.any fun r => r.cls == i + 1 then 0 else 2 ^ i)

/-- The requests a commit's freeze waits for have drained: STREAM_READ and STREAM_WRITE, or UPDATE (19 R601). -/
def classDrained (c : Nat) (s : State) : Bool := !s.arb.granted.any fun r => r.cls == c

/-- What a frozen class held goes on where it is frozen no more (19 R598). -/
def afterThaw (s : State) : State := contributeReady (releaseAccesses false s)

/-- A write of FREEZE; the COLLECTIVE bit is refused while a collective slot is held (19 R598, R600). -/
def writeFreeze (v : Nat) (s : State) : Nat × State :=
  if bitOf v 0 ∧ s.col.slots.isEmpty = false then (0x03000004, s) else (0, afterThaw (wr Obj.FREEZE v s))

/-- A write of FREEZE_SCOPE (19 R598). -/
def writeFreezeScope (v : Nat) (s : State) : Nat × State := (0, afterThaw (wr Obj.FREEZE_SCOPE v s))

/-- FREEZE (19 R598). -/
def execFreeze (w : Writer) (v : BitVec 8) (s : State) : Host.Outcome State Fault Refusal :=
  run (command w 0x6201 1 v.toNat (writeFreeze v.toNat)) s

end Sys2Proof.Machine
end

