-- ==== Sys2Proof/Machine/Recorder.lean ====
section
/-! DEFINITION. The event recorder and telemetry: records, rate limits, the error queue an event enters, flushes to flash,
samples and snapshots (15 Event recorder and telemetry; 14 R482 to R485). -/

namespace Sys2Proof.Machine

open Sys2Proof

/-- The recorder works while 54 V is present and the module is out of reset, in halt too (14 R499, 15 R525). -/
def recorderAlive (s : State) : Bool := s.pow.phase == .active || s.pow.phase == .halted

/-! ### Rate limits (15 R515) -/

/-- RATE and BURST of a code: its override, or the default of its severity; none is unlimited (15 R515). -/
def rateOf (code : Nat) (s : State) : Option (Nat × Nat) :=
  let v := rd (Obj.RATE_LIMIT code) s
  if v = 0xFFFFFFFF then none
  else if v ≠ 0 then some (v / 65536, v % 65536)
  else match severity code with
    | 0 => some (16, 64)
    | 1 => some (256, 256)
    | _ => none

/-- One token of a code's bucket is taken; false where the bucket is empty. Buckets hold sixteenths of a token and refill
with operating time (15 R515, R633). -/
def takeToken (code : Nat) (s : State) : Bool × State :=
  match rateOf code s with
  | none => (true, s)
  | some (rate, burst) =>
    let full := burst * 16
    let have_ := match s.rcd.buckets.find? fun b => b.1 == code with
      | none => full
      | some (_, t, since) => min full (t + rate * (s.pow.opTime - since))
    let ok := decide (16 ≤ have_)
    let left := if ok then have_ - 16 else have_
    let rest := s.rcd.buckets.filter fun b => b.1 != code
    (ok, { s with rcd := { s.rcd with buckets := rest ++ [(code, left, s.pow.opTime)] } })

/-! ### The error queue (14 R482 to R485) -/

/-- A collapse into the overflow entry; the first one creates it with code 0x9401 (14 R484). -/
def collapse (e : ErrEntry) (s : State) : State :=
  let s := bump Obj.COLLAPSED s
  match s.flt.overflow with
  | none => emit 0x9401 0 0 { s with flt := { s.flt with overflow := some ⟨0x9401, e.sev, e.source, 1, e.count⟩ } }
  | some o =>
    let o := { o with value := min (2 ^ 32 - 1) (o.value + 1), sev := max o.sev e.sev }
    { s with flt := { s.flt with overflow := some o } }

/-- An event enters the error queue, dropping or collapsing entries when 63 ordinary entries are held (14 R484). -/
def enqueueError (e : ErrEntry) (s : State) : State :=
  let q := s.flt.queue
  if q.length < 63 then { s with flt := { s.flt with queue := q ++ [e] } }
  else if q.any fun x => x.sev == 0 then
    bump Obj.DROPPED_S0 { s with flt := { s.flt with queue := dropFirst (fun x => x.sev == 0) q ++ [e] } }
  else if e.sev ≤ 1 then collapse e s
  else match q.find? fun x => x.sev == 1 with
    | some o => collapse o { s with flt := { s.flt with queue := dropFirst (fun x => x.sev == 1) q ++ [e] } }
    | none => collapse e s

/-! ### Records (15 R507 to R514) -/

/-- The histogram bin of a value (15 R509). -/
def histBin (v : Nat) : Nat := if v = 0 then 0 else if v < 16384 then Nat.log2 v + 1 else 15

/-- A new record of an event, before it is counted. -/
def newRec (e : Event) (source seq cycles : Nat) : Rec :=
  { Rec.init with
      code := e.code, source := source, min := e.value, max := e.value,
      firstHours := e.hours, firstCycles := cycles, firstSeq := seq }

/-- One event counted in a record (15 R508, R509). -/
def countRec (e : Event) (seq cycles : Nat) (r : Rec) : Rec :=
  { r with
      count := min (2 ^ 32 - 1) (r.count + 1), min := min r.min e.value, max := max r.max e.value,
      hist := upd (fun n => min 4095 (n + 1)) r.hist (histBin e.value),
      lastHours := e.hours, lastCycles := cycles, lastSeq := seq }

/-- An order of two LAST stamps: cycles, hours, sequence (15 R510). -/
def stamp (r : Rec) : Nat := (r.lastCycles * 2 ^ 36 + r.lastHours) * 2 ^ 32 + r.lastSeq

/-- The place of the oldest record of severity `a` to `b` (15 R513). -/
def oldestRec (a b : Nat) (rs : List Rec) : Option Nat :=
  ((List.range rs.length).filter fun i =>
      let v := severity (nth Rec.init rs i).code
      decide (a ≤ v ∧ v ≤ b)).foldl
    (fun acc i => match acc with
      | none => some i
      | some j => if stamp (nth Rec.init rs i) < stamp (nth Rec.init rs j) then some i else some j) none

/-- The place of the record of a pair. -/
def recAt (code source : Nat) (rs : List Rec) : Option Nat :=
  rs.findIdx? fun r => r.code == code && r.source == source

/-- A place for a new record: a fresh one, or the one overwritten with code 0x9505; none when only S3 and S4 records
remain (15 R513). -/
def placeRec (r : Rec) (s : State) : Option Nat × State :=
  let rs := s.rcd.records
  if rs.length < 2048 then (some rs.length, { s with rcd := { s.rcd with records := rs ++ [r] } })
  else
    let victim := match oldestRec 0 1 rs with
      | some i => some i
      | none => oldestRec 2 2 rs
    match victim with
    | none => (none, s)
    | some i =>
      let old := nth Rec.init rs i
      (some i, emit 0x9505 0 old.code (bump Obj.OVERWRITES
        { s with rcd := { s.rcd with records := rs.set i { r with gen := old.gen } } }))

/-- One event counted in the record at place `i` under a new sequence number (15 R510). -/
def countAt (e : Event) (i : Nat) (s : State) : State :=
  let seq := (rd Obj.SEQUENCE s + 1) % 2 ^ 32
  let s := wr Obj.SEQUENCE seq s
  { s with rcd := { s.rcd with records := upd (countRec e seq s.pow.cycles.toNat) s.rcd.records i } }

/-- An event of a pair that has a record updates it; without one it creates it (15 R507). -/
def countPair (e : Event) (source : Nat) (s : State) : State :=
  match recAt e.code source s.rcd.records with
  | some i => countAt e i s
  | none =>
    let r := newRec e source ((rd Obj.SEQUENCE s + 1) % 2 ^ 32) s.pow.cycles.toNat
    match placeRec r s with
    | (some i, s) => countAt e i s
    | (none, s) => s

/-- The class of a code (15 R526). -/
def codeClass (code : Nat) : Nat := code / 4096

/-- The reports of an event that is not held: its error-queue entry and its vector (14 R482; 12 R444). -/
def notify (e : Event) (s : State) : State :=
  let s := enqueueError ⟨e.code, severity e.code, e.source, e.value, e.count⟩ s
  match vectorOf e.code with
  | some v => signalLimited v s
  | none => s

/-- An S2 event asks for a flush, at most once in each S2_FLUSH_INTERVAL (15 R518). -/
def s2Flush (e : Event) (s : State) : State :=
  if severity e.code ≠ 2 then s
  else
    let due := match s.rcd.lastS2 with
      | none => true
      | some t => decide (t + rd Obj.S2_FLUSH_INTERVAL s ≤ opSec s)
    if due then requestFlush e.code e.value false { s with rcd := { s.rcd with lastS2 := some (opSec s) } } else s

/-- One event is reported, whether or not the recorder is Stopped: class total, alert latch, token, notification (15 R514 to R516;
14 R482, R506). -/
def reportEvent (e : Event) (s : State) : Event × State :=
  let s := bump (Obj.CLASS_TOTAL (codeClass e.code)) s
  let s := latchAlert (severity e.code) s
  let (ok, s) := takeToken e.code s
  let s := s2Flush e s
  if ok then (e, notify e s)
  else ({ e with bare := true },
    bump Obj.HELD_NOTIFICATIONS { s with rcd := { s.rcd with heldSec := s.rcd.heldSec + 1 } })

/-- The events of a pair are reported, in order. -/
def reportAll : List Event → State → List Event × State
  | [], s => ([], s)
  | e :: es, s =>
    let (e, s) := reportEvent e s
    let (es, s) := reportAll es s
    (e :: es, s)

/-- One reported event enters its record; without one and without a token, the catch-all of its code (15 R507, R516). -/
def storeEvent (e : Event) (s : State) : State :=
  countPair e (if e.bare && (recAt e.code e.source s.rcd.records).isNone then 0xFFF else e.source) s

/-- One update of the records of a pair and of its catch-all: GEN rises by 2 in each record it changed (15 R511, R512). -/
def applyPair (es : List Event) (s : State) : State :=
  match es with
  | [] => s
  | e :: _ =>
    let t := es.foldl (fun t a => storeEvent a t) s
    let moved (r : Rec) : Bool :=
      r.code == e.code && (r.source == e.source || r.source == 0xFFF) &&
        !(s.rcd.records.any fun o => o.code == r.code && o.source == r.source && o.lastSeq == r.lastSeq)
    { t with rcd := { t.rcd with records := mapIf moved (fun r => { r with gen := (r.gen + 2) % 65536 }) t.rcd.records } }

/-- Events of a pair enter the hold queue while the recorder is Stopped (15 R517). -/
def holdPair (es : List Event) (s : State) : State :=
  match es with
  | [] => s
  | e :: _ =>
    let same (l : List Event) : Bool := l.any fun x => x.code == e.code && x.source == e.source
    if s.rcd.hold.any same then
      { s with rcd := { s.rcd with hold := mapIf same (· ++ es) s.rcd.hold } }
    else if s.rcd.hold.length < 256 then { s with rcd := { s.rcd with hold := s.rcd.hold ++ [es] } }
    else forEach es (fun _ => bump Obj.HOLD_OVERFLOW) s

/-- The hold queue is applied in the order of arrival (15 R517). -/
def applyHold (s : State) : State :=
  let q := s.rcd.hold
  forEach q applyPair { s with rcd := { s.rcd with hold := [] } }

/-- RECORD_UPDATE: the waiting events of the oldest pair are reported and combined into one update (15 R511), or are held while the
recorder function is Stopped (15 R517). -/
def recordUpdate (s : State) : State :=
  match s.rcd.batch with
  | [] => s
  | e :: _ =>
    let (mine, rest) := s.rcd.batch.partition fun x => x.code == e.code && x.source == e.source
    let (mine, s) := reportAll mine { s with rcd := { s.rcd with batch := rest } }
    if runOf 6 s = .stopped ∧ s.pow.phase = .active then holdPair mine s else applyPair mine s

/-- What the recorder held while it was Stopped is applied first once it runs (15 R517). -/
def heldFirst (s : State) : State := onlyIf (running 6 s && !s.rcd.hold.isEmpty) applyHold s

/-- The meaning of RECORD_UPDATE (15 R511). -/
def execRecordUpdate (s : State) : Host.Outcome State Fault Refusal :=
  runAny (fun s => if recorderAlive s then recordUpdate (heldFirst s) else heldFirst s) s

/-! ### Flushing to flash (15 R518 to R523) -/

/-- The 512 bits of a record (15 R508). -/
def recBits (r : Rec) : Nat :=
  r.code * 2 ^ 496 + severity r.code * 2 ^ 493 + r.source * 2 ^ 481 + r.gen * 2 ^ 465 + r.count * 2 ^ 433 +
  r.min * 2 ^ 401 + r.max * 2 ^ 369 +
  ((List.range 16).foldl (fun a b => a + nth 0 r.hist b * 2 ^ (177 + 12 * b)) 0) +
  r.firstHours % 2 ^ 36 * 2 ^ 141 + r.firstCycles * 2 ^ 121 + r.firstSeq * 2 ^ 89 +
  r.lastHours % 2 ^ 36 * 2 ^ 53 + r.lastCycles * 2 ^ 33 + r.lastSeq * 2

/-- The image of a flush as its snapshot finds the recorder (15 R519, R520). -/
def snapshot (f : FlushRun) (s : State) : RecImage :=
  ⟨s.flash.imageSeq + 1, f.cause, f.value, s.clk.count, s.pow.opTime, s.pow.cycles,
   (List.range 9).map (fun n => rd (Obj.CLASS_TOTAL (n + 1)) s), s.rcd.records.map fun r => BitVec.ofNat 512 (recBits r)⟩

/-- The first erased slot of the recorder region. -/
def erasedSlot (s : State) : Option Nat := s.flash.recSlots.findIdx? fun x => x.state == .erased

/-- A flush runs on in a PERST_N reset (20 R625). -/
def flushAlive (s : State) : Bool := recorderAlive s || s.pow.phase == .held

/-- FLUSH_SNAPSHOT: every record is copied into the snapshot buffer, and an erased slot is taken (15 R519). A flush of a
reset recorder function then empties the records (18 R579). -/
def flushSnapshot (s : State) : State :=
  match s.rcd.flush with
  | none => s
  | some f =>
    if f.snap.isSome then s
    else match erasedSlot s with
      | none => s
      | some k =>
        let g := { f with snap := some (snapshot f s), slot := k }
        { s with rcd := { s.rcd with flush := some g, records := if f.emptyAfter then [] else s.rcd.records } }

/-- The meaning of FLUSH_SNAPSHOT (15 R519). -/
def execFlushSnapshot (s : State) : Host.Outcome State Fault Refusal :=
  runAny (fun s => if flushAlive s then flushSnapshot s else s) s

/-- The running flush ends and a pending one takes its place (15 R522). -/
def nextFlush (s : State) : State :=
  { s with rcd := { s.rcd with flush := s.rcd.flushPend, flushPend := none } }

/-- A recorder slot of the flash. -/
def setSlot (k : Nat) (x : RecSlot) (s : State) : State :=
  { s with flash := { s.flash with recSlots := s.flash.recSlots.set k x } }

/-- FLUSH_COMPLETE: programming ends. When it failed, the next erased slot is tried once; a second failure writes code
0x9503 (15 R519, R523). -/
def flushComplete (ok : Bool) (s : State) : State :=
  match s.rcd.flush with
  | none => s
  | some f => match f.snap with
    | none => s
    | some img =>
      if ok then
        let s := setSlot f.slot ⟨.used, some img⟩ s
        let s := { s with flash := { s.flash with imageSeq := img.seq } }
        nextFlush (emit 0x9501 0 f.cause (bump Obj.FLUSHES s))
      else
        let s := setSlot f.slot ⟨.invalid, none⟩ s
        match f.retried, erasedSlot s with
        | false, some k => { s with rcd := { s.rcd with flush := some { f with retried := true, slot := k } } }
        | _, _ => nextFlush (emit 0x9503 0 f.slot s)

/-- The meaning of FLUSH_COMPLETE (15 R519, R523). -/
def execFlushComplete (ok : Bool) (s : State) : Host.Outcome State Fault Refusal :=
  runAny (fun s => if flushAlive s then flushComplete ok s else s) s

/-- Slots that hold one of the two newest images whose CAUSE is S3 or S4 (15 R521). -/
def protectedSlots (s : State) : List Nat :=
  let withSev := (List.range 7).filter fun k => match (nth RecSlot.init s.flash.recSlots k).image with
    | some i => decide (3 ≤ severity i.cause)
    | none => false
  let seqOf (k : Nat) : Nat := match (nth RecSlot.init s.flash.recSlots k).image with
    | some i => i.seq
    | none => 0
  ((sortBy seqOf withSev).reverse).take 2

/-- SLOT_ERASE: while fewer than two slots are erased and no flush runs, the slot with the lowest IMAGE_SEQ that is not
protected is erased; an invalid slot counts as the lowest (15 R521). -/
def slotErase (s : State) : State :=
  let slots := s.flash.recSlots
  let erased := (slots.filter fun x => x.state == .erased).length
  let running := match s.rcd.flush with | some f => f.snap.isSome | none => false
  if 2 ≤ erased ∨ running = true then s
  else
    let cand := (List.range 7).filter fun k =>
      (nth RecSlot.init slots k).state != .erased && !(protectedSlots s).contains k
    let seqOf (k : Nat) : Nat := match (nth RecSlot.init slots k).image with
      | some i => i.seq
      | none => 0
    match sortBy seqOf cand with
    | [] => s
    | k :: _ => setSlot k RecSlot.init s

/-- The meaning of SLOT_ERASE (15 R521). -/
def execSlotErase (s : State) : Host.Outcome State Fault Refusal := run slotErase s

/-- The meaning of FLUSH: FLUSH_CONTROL = 1 requests a flush with CAUSE 0 (15 R518, R520). -/
def execFlush (w : Writer) (s : State) : Host.Outcome State Fault Refusal :=
  run (command w 0xB030 1 1 fun s => (0, requestFlush 0 0 false s)) s

/-- The effect of a write of FIND: RECORD_SELECT of the writer's transport names the record of the pair, or 0xFFFF
(15 FIND). -/
def findRecord (w : Writer) (v : Nat) (s : State) : Nat × State :=
  let i := (recAt (v / 65536) (v % 4096) s.rcd.records).getD 0xFFFF
  (0, setSelector w.via 0xB010 i s)

/-- The meaning of FIND (15 R508, object 0xB010 sub 10). -/
def execFind (w : Writer) (v : BitVec 32) (s : State) : Host.Outcome State Fault Refusal :=
  run (command w 0xB010 10 v.toNat (findRecord w v.toNat)) s

/-! ### Telemetry (15 R527 to R530) -/

/-- The 60 channels of a sample: supply readings and engine temperatures are given, the rest stand in registers
(15 R528). -/
def sampleChannels (volts amps watts : BitVec 16) (engines : List (BitVec 16)) (s : State) : List Nat :=
  [volts.toNat, amps.toNat, watts.toNat, rd Obj.WINDOW_POWER s, rd Obj.DIE_HOTSPOT s, rd Obj.COOLANT_IN s,
   rd Obj.COOLANT_OUT s, rd Obj.OP_POINT s] ++
  (List.range 8).map (fun n => rd (Obj.STACK_TEMP (n + 1)) s) ++
  (List.range 12).map (fun n => rd (Obj.PACKAGE_TEMP (n + 9)) s) ++
  (List.range 8).map (fun n => (nth 0#16 engines n).toNat) ++ List.replicate 24 0

/-- A sample: the Count in bytes 0 to 7, channel c at bytes 8 + 2c (15 R527). -/
def sampleBits (count : Nat) (ch : List Nat) : Nat :=
  count + (List.range 60).foldl (fun a c => a + nth 0 ch c % 65536 * 2 ^ (64 + 16 * c)) 0

/-- TELEMETRY_SAMPLE: the one sample of a millisecond is taken within 5 µs after its Count value, a multiple of 1,000,000; the last
1,024 are kept (15 R527). -/
def telemetrySample (volts amps watts : BitVec 16) (engines : List (BitVec 16)) (s : State) : State :=
  let sampled := s.tel.samples.getLast?.any fun x => x.toNat % 2 ^ 64 / 1000000 == now s / 1000000
  if now s % 1000000 ≤ 5000 ∧ s.boot.fwRunning ∧ sampled = false then
    let x := BitVec.ofNat 1024 (sampleBits (now s) (sampleChannels volts amps watts engines s))
    let ring := s.tel.samples ++ [x]
    bump Obj.SAMPLE_INDEX { s with tel := { s.tel with samples := ring.drop (ring.length - 1024) } }
  else s

/-- The meaning of TELEMETRY_SAMPLE; an input voltage read inside 48-58 V ends the state of 16 R552 (15 R527). -/
def execTelemetrySample (volts amps watts : BitVec 16) (engines : List (BitVec 16)) (s : State) :
    Host.Outcome State Fault Refusal :=
  run (fun s =>
    let inRange := decide (4800 ≤ volts.toNat ∧ volts.toNat ≤ 5800)
    telemetrySample volts amps watts engines (onlyIf inRange (fun s => { s with pow := { s.pow with voltOut := false } }) s)) s

end Sys2Proof.Machine
end

