-- ==== Sys2Proof/Machine/Servo.lean ====
section
/-! DEFINITION. The Count and its servo: ticks, steps and holds, PTP and PPS sources, holdover, TIME_PPS_OUT and the arming of a
rejoin (02 R26 to R43, R632; 10 R369 to R373). -/

namespace Sys2Proof.Machine

open Sys2Proof

/-- The timing state changed by `f`. -/
def modTim (f : Timing → Timing) (s : State) : State := { s with tim := f s.tim }

/-! ### The Count (02 R26, R32, R632) -/

/-- The servo slews toward its source: it has one, and is not free-running (02 R32 and the servo table). -/
def maySlew (slew : Slew) (s : State) : Bool :=
  let t := s.tim
  t.servo != .unset && !t.lost &&
  (match slew with
   | .none => false
   | .ahead => decide (0 < t.offset)
   | .behind => decide (t.offset < 0)) &&
  -- while the Caller fires, at most 10 ppm: one slewed tick in 100,000
  (!s.cal.firing || decide (t.lastSlew + 100000 ≤ s.clk.ticks)) &&
  -- a tick of two steps over no boundary of the grid and over no second (log entry 3)
  (slew != .ahead || (decide ((now s + 1) % 1024 ≠ 0) && decide ((now s + 1) % 1000000000 ≠ 0)))

/-- The Count moves forward by `n` ticks (02 R26). -/
def moveCount (n : Nat) (s : State) : State :=
  { s with clk := { s.clk with count := s.clk.count + BitVec.ofNat 64 n } }

/-- One tick: a held Count keeps its value while the source's time comes nearer; else it advances by one, or by two or none
where the servo slews it (02 R26, R32, R632). -/
def tick (slew : Slew) (s : State) : State :=
  let s := { s with clk := { s.clk with ticks := s.clk.ticks + 1 } }
  if s.clk.held then { s with clk := { s.clk with heldUntil := s.clk.heldUntil - 1 } }
  else if maySlew slew s then
    let ahead := slew == .ahead
    let s := modTim (fun t => { t with
      lastSlew := s.clk.ticks, offset := if ahead then t.offset - 1 else t.offset + 1 }) s
    moveCount (if ahead then 2 else 0) s
  else moveCount 1 s

/-- TICK (02 R26). -/
def execTick (slew : Slew) (s : State) : Host.Outcome State Fault Refusal := runClk (tick slew) s

/-- The Count goes to the source's time: forward, or held for a source more than 1 µs behind it (02 R33, R632). -/
def stepCount (s : State) : State :=
  let d := s.tim.offset
  if 0 < d then
    let n := d.toNat
    let s := modTim (fun t => { t with offset := 0 }) s
    moveCount n { s with clk := { s.clk with everSet := true } }
  else if d < -1000 then
    let s := emit 0x4004 0 (min (d.natAbs / 1000) (2 ^ 32 - 1)) s
    modTim (fun t => { t with ppsOut := false })
      { s with clk := { s.clk with everSet := true, held := true, heldUntil := d.natAbs } }
  else { s with clk := { s.clk with everSet := true } }

/-- COUNT_STEP: in the first tick after the Caller has stopped the Count is stepped and the servo enters ACQUIRING
(02 R33). -/
def execCountStep (s : State) : Host.Outcome State Fault Refusal :=
  runClk (fun s =>
    if s.tim.stepDue = false ∨ s.cal.firing then s
    else stepCount (setServo .acquiring (modTim (fun t => { t with stepDue := false }) s))) s

/-- COUNT_HOLD_RELEASE: the source's time has reached the held Count (02 R632). -/
def execCountHoldRelease (s : State) : Host.Outcome State Fault Refusal :=
  runClk (fun s =>
    if s.clk.held ∧ s.clk.heldUntil = 0 then
      modTim (fun t => { t with offset := 0 }) { s with clk := { s.clk with held := false } }
    else s) s

/-! ### The servo (02 R31 to R34, R38) -/

/-- The estimated error: the source's bound added to the size of the filtered offset, with the offset's sign (02). -/
def estError (offset : Int) (bound : Nat) : Int := if offset < 0 then offset - bound else offset + bound

/-- One more interval within ±100 ns, or the count of them begins afresh (02). -/
def countGood (e : Int) (s : State) : State :=
  modTim (fun t => { t with good := if e.natAbs ≤ 100 then t.good + 1 else 0 }) s

/-- The servo locks after 16 good intervals (02 R34). -/
def lockIfGood (s : State) : State := if 16 ≤ s.tim.good then enterLocked s else s

/-- A time from the source moves the servo: it steps or holds the Count, counts good intervals, locks, or enters HOLDOVER
(02 R31 to R34, R38, R632). -/
def servoSample (offset : Int) (bound : Nat) (freq : Int) (s : State) : State :=
  let e := estError offset bound
  let s := modTim (fun t => { t with
    offset := offset, bound := bound, lost := false }) s
  let s := wr Obj.EST_ERROR (ofSigned 32 e) (wr Obj.FREQ_ADJUST (ofSigned 32 freq) s)
  match s.tim.servo with
  | .unset => stepCount (setServo .acquiring s)
  | .acquiring =>
    if s.clk.held then
      { s with clk := { s.clk with heldUntil := (-offset).toNat } }
    else if 1000 < offset.natAbs then stepCount (modTim (fun t => { t with good := 0 }) s)
    else lockIfGood (countGood e s)
  | .locked => if 500 < e.natAbs then enterHoldover s else s
  | .holdover =>
    if offset.natAbs ≤ 1000 then lockIfGood (countGood e s)
    else if s.cal.firing then
      { modTim (fun t => { t with stepDue := true, good := 0 }) s with cal := { s.cal with stopDue := some .step } }
    else stepCount (setServo .acquiring s)

/-- The path's receive delay in ticks: (RTT + LINK_ASYM) / 2 (10 R371). -/
def rxDelay (k : Nat) (s : State) : Int :=
  (1000 * (rd (Obj.RTT k) s : Int) + toSigned 32 (rd (Obj.LINK_ASYM k) s)) / 2000

/-- The stamps of the frame that delivered a PTP flit: its TX_STAMP and its local arrival (10 R370). -/
def ptpStamps (k : Nat) (f : Flit) (s : State) : Option (Nat × Nat) :=
  ((linkOf k s).ptpRx.find? fun p => p.1 == f).map (·.2)

/-- PTP_SYNC: a PTP flit that reached this module is taken. A valid Sync of PTP_DOMAIN on the slave port gives the servo a time: the TX_STAMP of
the frame that delivered it, that frame's arrival corrected for its residence time on the die, the error bound it carries, and what
the servo's filter adds (02 R31 to R34; 10 R369 to R373; log entry 49). -/
def execPtpSync (link : Nat) (flit : Flit) (valid : Bool) (domain : Nat) (residence : Int) (bound : Nat) (filter freq : Int)
    (s : State) : Host.Outcome State Fault Refusal :=
  runClk (fun s => takeLocal link flit (isPtp flit) (fun s =>
    let stamps := ptpStamps link flit s
    let s := modLink link (fun l => { l with ptpRx := dropFirst (fun p => p.1 == flit) l.ptpRx }) s
    if valid = false ∨ domain ≠ rd Obj.PTP_DOMAIN s ∨ rd Obj.TIME_MODE s ≠ 0 ∨ rd Obj.PTP_LINK s ≠ link ∨ rd (Obj.ASYM_VALID link) s = 0 then s
    else match stamps with
      | none => s
      | some (stamp, arrival) =>
        let offset := (stamp : Int) + rxDelay link s - ((arrival : Int) + residence) + filter
        servoSample offset bound freq (modTim (fun t => { t with syncAt := s.clk.ticks }) s)) s) s

/-- The time an edge of TIME_PPS_IN stands for: the last write before a first edge; the write since the previous edge; or the
previous edge's time plus one second where that is known (02 R30). -/
def edgeTime (s : State) : Option Nat :=
  match s.tim.tod with
  | some (v, _) => some v
  | none => s.tim.ppsTime.map (· + 1000000000)

/-- TIME_PPS_IN_EDGE: an edge whose time is known gives the servo a time (02 R30 to R34). -/
def execTimePpsInEdge (filter freq : Int) (s : State) : Host.Outcome State Fault Refusal :=
  runClk (fun s =>
    let t := edgeTime s
    let s := modTim (fun x => { x with ppsSeen := true, ppsEdge := s.clk.ticks, ppsTime := t, tod := none }) s
    if rd Obj.TIME_MODE s ≠ 1 then s
    else match t with
      | none => s
      | some t => servoSample ((t : Int) - (now s : Int) + filter) 10 freq s) s

/-- A write of TOD_NEXT_PPS counts before the first edge, and else between 100 ms and 900 ms after the preceding one
(02 R30), in time that passes while the Count is held too. -/
def writeTod (v : Nat) (s : State) : Nat × State :=
  let late := decide (s.tim.ppsEdge + 900000000 < s.clk.ticks)
  let early := decide (s.clk.ticks < s.tim.ppsEdge + 100000000)
  if s.tim.ppsSeen && (late || early) then (0, s)
  else (0, modTim (fun t => { t with tod := some (v, now s) }) s)

/-- TOD_NEXT_PPS (02 R30). -/
def execTodNextPps (w : Writer) (v : BitVec 64) (s : State) : Host.Outcome State Fault Refusal :=
  run (command w 0x3004 1 v.toNat (writeTod v.toNat)) s

/-- The sync interval in ticks (02, LOG_SYNC_INTERVAL). -/
def syncInterval (s : State) : Nat :=
  1000000000 / 2 ^ (-(toSigned 8 (rd Obj.LOG_SYNC_INTERVAL s))).toNat

/-- SYNC_INTERVAL_TIMEOUT: three intervals have passed without a valid Sync (02 R31). -/
def execSyncIntervalTimeout (s : State) : Host.Outcome State Fault Refusal :=
  run (fun s =>
    if rd Obj.TIME_MODE s = 0 ∧ s.tim.syncAt + 3 * syncInterval s ≤ s.clk.ticks then sourceLost s else s) s

/-- PPS_MISSING_TIMEOUT: no edge within 2,100 ms of the last one; before a first edge there is no last one, and the source is not
lost by time (02 R31; log entry 106). -/
def execPpsMissingTimeout (s : State) : Host.Outcome State Fault Refusal :=
  run (fun s =>
    if rd Obj.TIME_MODE s = 1 ∧ s.tim.ppsSeen ∧ s.tim.ppsEdge + 2100000000 ≤ s.clk.ticks then sourceLost s
    else s) s

/-- HOLDOVER_LIMIT: after 10 s of HOLDOVER the Caller is to stop at the next measure boundary (02 R39). -/
def execHoldoverLimit (s : State) : Host.Outcome State Fault Refusal :=
  run (fun s =>
    if s.tim.servo = .holdover ∧ s.cal.firing ∧ (s.tim.holdoverAt.any fun c => decide (c + 10000000000 ≤ now s)) then
      (if s.cal.stopDue.isNone then { s with cal := { s.cal with stopDue := some .holdover } } else s)
    else s) s

/-! ### TIME_PPS_OUT (02 R29, R632) -/

/-- PPS_OUT_RISE: at a Count that is a multiple of 10^9, once the Count has been set (02 R29). -/
def execPpsOutRise (s : State) : Host.Outcome State Fault Refusal :=
  run (fun s =>
    if s.clk.everSet ∧ s.clk.held = false ∧ now s % 1000000000 = 0 ∧ s.tim.ppsOut = false then
      modTim (fun t => { t with ppsOut := true, ppsOutAt := now s }) s
    else s) s

/-- PPS_OUT_FALL: 100 ms after the rise (02 R29). -/
def execPpsOutFall (s : State) : Host.Outcome State Fault Refusal :=
  run (fun s =>
    if s.tim.ppsOut ∧ s.tim.ppsOutAt + 100000000 ≤ now s then modTim (fun t => { t with ppsOut := false }) s else s) s

/-! ### PTP from this module (10 R369, R373) -/

/-- The master ports: the links PTP_MASTER_LINKS names that carry frames (10 R369). -/
def masterPorts (s : State) : List Nat :=
  (bitList 64 (rd Obj.PTP_MASTER_LINKS s)).filter fun k => linkLive k s

/-- A PTP message leaves every master port as a VL3 flit of KIND 0x5 (10 R369). -/
def sendPtp (sync : Bool) (s : State) : State :=
  let m := Config.ptpMessage sync (rd Obj.PTP_DOMAIN s) (rd Obj.EST_ERROR s)
  let f := mkFlit 3 5 0xFFFFFF (nodeId s) 0 0 (bytesToSectors (m.take 256))
  forEach (masterPorts s) (fun k => queueFlit k f) s

/-- A message is due: `n` ticks have passed since it left last, or it has not left yet. -/
def ptpDue (last : Option Nat) (n : Nat) (s : State) : Bool := last.all fun t => decide (t + n ≤ s.clk.ticks)

/-- PTP_SYNC_SEND: Sync leaves the master ports at the interval of LOG_SYNC_INTERVAL, and only in LOCKED and HOLDOVER (10 R369,
R373). -/
def execPtpSyncSend (s : State) : Host.Outcome State Fault Refusal :=
  run (fun s =>
    if (s.tim.servo = .locked ∨ s.tim.servo = .holdover) ∧ ptpDue s.tim.syncSent (syncInterval s) s = true then
      sendPtp true (modTim (fun t => { t with syncSent := some s.clk.ticks }) s)
    else s) s

/-- ANNOUNCE_SEND: Announce leaves them once per second (10 R369). -/
def execAnnounceSend (s : State) : Host.Outcome State Fault Refusal :=
  run (fun s =>
    if ptpDue s.tim.announced 1000000000 s then
      sendPtp false (modTim (fun t => { t with announced := some s.clk.ticks }) s)
    else s) s

/-! ### Rejoining (02 R42, R43) -/

/-- A write of REJOIN_MEASURE arms a rejoin; a measure that has begun is refused (02 R43). -/
def writeRejoin (v : Nat) (s : State) : Nat × State :=
  if v ≤ measureAt (beatB s) (now s) then (0x03000004, s)
  else (0, wr Obj.REJOIN_MEASURE v { s with cal := { s.cal with rejoinArmed := true } })

/-- REJOIN_MEASURE (02 R43). -/
def execRejoinMeasure (w : Writer) (v : BitVec 64) (s : State) : Host.Outcome State Fault Refusal :=
  run (command w 0x3020 2 v.toNat (writeRejoin v.toNat)) s

end Sys2Proof.Machine
end

