-- ==== Sys2Proof/Machine/Validate.lean ====
section
/-! DEFINITION. What the staged values of a commit must satisfy as they would stand after it: stream shares, update settings and
their programs, phase images, collective plans, link and time settings, the Caller table and the telemetry sets (13 R462; 02 R49;
05 R186; 08 R269, R276; 09 R312, R335; 10 R354, R361, R371; 11 R385, R416; 15 R531). -/

namespace Sys2Proof.Machine

open Sys2Proof

/-! ### Keys (13 R447) -/

/-- The key of an object's item. -/
def keyOf (idx sub sel : Nat) : Nat := (idx * 256 + sub) * 65536 + sel

/-- A key's object as COMMIT_FAILED_AT shows it (13 R461). -/
def keyAt (k : Nat) : Nat := keyIdx k * 65536 + keySub k * 256

/-- A failure: the abort code and its object. -/
abbrev Failure := Nat × Nat

/-- The first failure of a list of checks. -/
def firstFailure : List (Option Failure) → Option Failure
  | [] => none
  | some f :: _ => some f
  | none :: l => firstFailure l

/-- A check that fails with `code` at the first of the values concerned, when there is one. -/
def checkOn (vs : List Staged) (concerned : Nat → Bool) (code : Nat) (ok : Bool) : Option Failure :=
  match vs.find? fun x => concerned x.key with
  | none => none
  | some x => if ok then none else some (code, keyAt x.key)

/-! ### Streams (05 R186) -/

/-- The three shares are multiples of 5 from 5 to 90 and sum to 100. -/
def sharesOk (s : State) : Bool :=
  let l := [rd Obj.READ_SHARE s, rd Obj.WRITE_SHARE s, rd Obj.REMOTE_SHARE s]
  (l.all fun x => decide (5 ≤ x ∧ x ≤ 90) && x % 5 == 0) && sumNat l == 100

/-! ### Update programs (08 R270 to R276) -/

/-- The sections an operation may stand in: 0 step, 1 and 2 moment prologue and body, 3 and 4 master prologue and body (08 R272). -/
def opSections (op : Nat) : List Nat :=
  if 1 ≤ op ∧ op ≤ 9 then [0, 1, 2, 3, 4]
  else if op = 0x0A ∨ op = 0x10 ∨ op = 0x11 then [2, 4]
  else if op = 0x12 ∨ op = 0x14 then [2]
  else if op = 0x13 then [4]
  else []

/-- An operand code may be read in a section (08 R271). -/
def readable (sec code : Nat) : Bool :=
  decide (code ≤ 0x1F) || (decide (0x20 ≤ code ∧ code ≤ 0x23) && sec == 0) || decide (0x24 ≤ code ∧ code ≤ 0x2C) ||
  (code == 0x2D && (sec == 1 || sec == 2)) || code == 0x2E

/-- An operand code may be written in a section: f everywhere, s and t in the step section (08 R271, R276). -/
def writable (sec code : Nat) : Bool :=
  decide (code ≤ 0x0F) || (sec == 0 && decide (0x20 ≤ code ∧ code ≤ 0x2B) )

/-- An instruction is legal in a section of a program used with `n` state slots per block there; fields it does not use are 0
(08 R273, R276). -/
def instrOk (sec n : Nat) (i : UpdInstr) : Bool :=
  (opSections i.op).contains sec &&
  (let d := writable sec i.d
   let a := readable sec i.a
   let b := readable sec i.b
   let c := readable sec i.c
   match i.op with
   | 0x01 | 0x09 => d && a && b && c
   | 0x02 | 0x03 => d && a && b && i.c == 0 && i.mod % 2 == 0
   | 0x04 | 0x07 | 0x08 => d && a && b && i.c == 0 && i.mod == 0
   | 0x05 | 0x06 => d && a && i.b == 0 && i.c == 0 && i.mod == 0
   | 0x0A => d && a && (i.b == 0 || i.b == 1 || decide (3 ≤ i.b ∧ i.b ≤ 7)) &&
       (if i.b = 0 then decide (8 ≤ i.c ∧ i.c ≤ 24) else i.c == 0) && decide (i.mod ≤ 1)
   | 0x10 => d && decide (i.a < n) && i.b == 0 && i.c == 0 && i.mod == 0
   | 0x11 => i.d == 0 && a && decide (i.b < n) && i.c == 0 && i.mod == 0
   | 0x12 | 0x13 => d && i.a == 0 && i.b == 0 && i.c == 0 && i.mod == 0
   | 0x14 => i.d == 0 && a && i.b == 0 && i.c == 0 && i.mod == 0
   | _ => false)

/-- The program of slot `q` is legal for sets with S and SM state slots: its lengths fit, every instruction is legal in its section,
the moment body ends in its only EMIT, and both bodies hold something (08 R270, R276). -/
def programOk (q slots masterSlots : Nat) (s : State) : Bool :=
  let h := rd (Obj.PROG_HEADER q) s
  let p := progOf q s
  let ins (k : Nat) : List UpdInstr := (List.range (p.len k)).map fun i => updInstrOf (progInstr q (p.start k + i) s)
  let moment := ins 2
  fld h 33 0 == 0 && decide (sumNat p.lens ≤ 64) && decide (0 < p.len 2) && decide (0 < p.len 4) &&
  ((List.range 5).all fun k =>
    (ins k).all (instrOk k (if k ≤ 2 then slots else masterSlots))) &&
  (moment.filter fun i => i.op == 0x14).length == 1 && (moment.getLast?.map (·.op)) == some 0x14

/-! ### Update sets (08 R267 to R269; 09 R312) -/

/-- A tensor exists with a format, tier, role and number of elements (06 R215). -/
def tensorIs (t fmt tier role elements : Nat) (s : State) : Bool :=
  let d := tensorOf t s
  (d.state == 1 || d.state == 2) && d.fmt == fmt && d.tier == tier && d.role == role && d.elements == elements

/-- A valid set obeys the table of 08 R269 and the rules after it. -/
def setOk (n : Nat) (s : State) : Bool :=
  let e := setEntry n s
  let land := tensorOf e.landing s
  let blocks := blocksOf land.elements
  let tier := if e.mirror then 1 else 0
  let role (r : Nat) : Nat := if e.mirror then 5 else r
  let w := tensorOf e.working s
  (e.slots == 1 || e.slots == 2) && (e.masterSlots == 1 || e.masterSlots == 2) && e.reserved == 0 &&
  tensorIs e.landing 8 tier (role 4) land.elements s &&
  tensorIs e.stateT 0 tier (role 3) (32 * e.slots * blocks) s &&
  tensorIs e.masterT 0 1 (role 2) (32 * e.masterSlots * blocks) s &&
  (if e.mirror then e.working == 0
   else (w.fmt == 1 || decide (3 ≤ w.fmt ∧ w.fmt ≤ 7)) && tensorIs e.working w.fmt 0 1 land.elements s) &&
  (tensorOf e.stateT s).home % 8 == 0 && (tensorOf e.masterT s).home % 8 == 0 &&
  rd (Obj.PROG_HEADER e.prog) s != 0 && programOk e.prog e.slots e.masterSlots s

/-- The update settings hold together: every valid set, no LANDING named twice, no two mirror sets with one KEY and ELEM_BASE, and
every program of the staged slots (08 R269, R276; 09 R312). -/
def updateOk (vs : List Staged) (s : State) : Bool :=
  let sets := validSets s
  let landings := sets.map fun n => (setEntry n s).landing
  let mirrors := (sets.filter fun n => (setEntry n s).mirror).map fun n => ((setEntry n s).keyT, (setEntry n s).elemBase)
  let progs := ((vs.filter fun x => keyIdx x.key == 0x7001).map fun x => keySel x.key).dedup
  (sets.all fun n => setOk n s) && landings.dedup.length == landings.length && mirrors.dedup.length == mirrors.length &&
  progs.all fun q => rd (Obj.PROG_HEADER q) s == 0 || programOk q 2 2 s

/-! ### Plans (11 R382 to R385) -/

/-- A plan as the engine reads it. -/
def planColl (p : Nat) (s : State) : Coll := { Coll.init with plan := planOf p s }

/-- A slot holds a stored plan. -/
def planStored (p : Nat) (s : State) : Bool := decide (p < 255) && collStages (planColl p s) != 0

/-- The stage kinds an OP takes: reduce stages and then as many gather stages for one that reduces, gather stages for ALL_GATHER and
DIGEST_GATHER, TREE_DOWN for BROADCAST (11 R384). -/
def kindsOk (c : Coll) : Bool :=
  let n := collStages c
  let kind (i : Nat) : Nat := stKind (stageBits c i)
  if collReduces c then
    n % 2 == 0 && (List.range n).all fun i => if i < n / 2 then kind i == 1 || kind i == 3 else kind i == 2 || kind i == 4
  else if collOp c = 4 then (List.range n).all fun i => kind i == 4
  else (List.range n).all fun i => kind i == 2 || kind i == 4

/-- A stage the member runs: its reserved bits, N and POS, and no spare equal to its link (11 R383, R385). -/
def stageOk (x : Nat) : Bool :=
  fld x 107 0 == 0 && stN x != 0 && decide (stPos x < stN x) &&
  !((stSend x).isSome && stSend x == stSendSpare x) && !((stRecv x).isSome && stRecv x == stRecvSpare x)

/-- The gather stage `y` is the mate of the reduce stage `x` (11 R384). -/
def mateOk (x y : Nat) : Bool :=
  stN x == stN y && stPos x == stPos y && stFirst x == stFirst y && stCount x == stCount y &&
  (if stKind x = 1 then
    stKind y == 2 && stSend x == stSend y && stSendSpare x == stSendSpare y && stRecv x == stRecv y && stRecvSpare x == stRecvSpare y
   else
    stKind y == 4 && stRecv y == stSend x && stRecvSpare y == stSendSpare x && stChildren x == stChildren y)

/-- A plan passes every check of 11 R385. -/
def planOk (c : Coll) : Bool :=
  let h := planHdr c
  let op := collOp c
  let n := collStages c
  let p := collP c
  let r := reduceStages c
  let st (i : Nat) : Nat := stageBits c i
  decide (1 ≤ op ∧ op ≤ 7) && fld h 153 0 == 0 && n != 0 && kindsOk c &&
  (if op = 1 ∨ op = 3 ∨ op = 5 then decide (1 ≤ p ∧ p ≤ 2 ^ 24) else p == 0) &&
  !((op == 1 || op == 3) && fld h 189 166 == 0) && !decide (64 ≤ collFlag c ∧ collFlag c ≤ 254) &&
  ((List.range n).all fun i => !runsStage c i || stageOk (st i)) &&
  ((List.range r).all fun i => stKind (st (n - 1 - i)) == stKind (st i) + 1 &&
    (!runsStage c i || mateOk (st i) (st (n - 1 - i)))) &&
  ((List.range r).all fun i => i == 0 || !runsStage c i ||
    (let (a, b) := ownRange (st (i - 1)); stFirst (st i) == a && stCount (st i) == b - a))

/-- A spare plan agrees with its primary (11 R416). -/
def sparePlanOk (a b : Coll) : Bool :=
  collOp a == collOp b && collP a == collP b && fld (planHdr a) 213 162 == fld (planHdr b) 213 162 &&
  collStages a == collStages b &&
  (List.range (collStages a)).all fun i =>
    let x := stageBits a i
    let y := stageBits b i
    stKind x == stKind y && stN x == stN y && stPos x == stPos y && stFirst x == stFirst y && stCount x == stCount y

/-! ### Links and time (10 R354, R361, R371) -/

/-- The link buffers total at most 81,920 flits (10 R354). -/
def buffersOk (s : State) : Bool :=
  let l := (List.range 64).map fun k => rd (Obj.LINK_BUFFER (k + 1)) s
  (l.all fun x => decide (256 ≤ x ∧ x ≤ 16384)) && decide (sumNat l ≤ 81920)

/-- NODE_ID has bits [15:12] zero and is not 0xFF_FFFF (10 R361). -/
def nodeIdOk (s : State) : Bool := fld (rd Obj.NODE_ID s) 15 12 == 0 && rd Obj.NODE_ID s % 2 ^ 24 != 0xFFFFFF

/-- In mode 0 a PTP_LINK that the commit names has its asymmetry calibrated (10 R371). -/
def ptpLinkOk (s : State) : Bool := rd Obj.TIME_MODE s != 0 || rd (Obj.ASYM_VALID (rd Obj.PTP_LINK s)) s != 0

/-- The master ports do not include PTP_LINK (10 R371). -/
def ptpMastersOk (s : State) : Bool := !bitOf (rd Obj.PTP_MASTER_LINKS s) (rd Obj.PTP_LINK s)

/-! ### The Caller table (02 R46 to R49; 11 R416; 15 R531) -/

/-- DESC of entry `n`. -/
def entryDesc (n : Nat) (s : State) : Nat := rd (Obj.ENTRY_DESC n) s

/-- PARAM of entry `n`. -/
def entryParam (n : Nat) (s : State) : Nat := rd (Obj.ENTRY_PARAM n) s

/-- VALID. -/
def dValid (d : Nat) : Bool := bitOf d 63

/-- TYPE. -/
def dType (d : Nat) : Nat := fld d 59 56

/-- BEAT. -/
def dBeat (d : Nat) : Nat := fld d 55 44

/-- DEADLINE_MEASURES. -/
def dMeasures (d : Nat) : Nat := fld d 43 40

/-- DEADLINE_BEAT. -/
def dDeadline (d : Nat) : Nat := fld d 39 28

/-- MODULUS. -/
def dModulus (d : Nat) : Nat := fld d 27 16

/-- PHASE. -/
def dPhase (d : Nat) : Nat := fld d 15 4

/-- A valid entry breaks none of the rules that concern it alone (02 R49; 11 R416; 15 R531). -/
def entryOk (n : Nat) (s : State) : Bool :=
  let d := entryDesc n s
  let p := entryParam n s
  let ty := dType d
  let window := (dMeasures d * 4096 + dDeadline d - dBeat d) * 2 ^ beatB s
  let plan := fld p 63 56
  let spare := fld p 31 24
  decide (ty ≤ 0xC) && dModulus d != 0 && decide (dPhase d < dModulus d) &&
  (dMeasures d != 0 || decide (dBeat d < dDeadline d)) &&
  (!(ty == 0 || ty == 1 || ty == 6) || planStored plan s) &&
  (!(ty == 0 && spare != 0xFF) || (planStored spare s && sparePlanOk (planColl plan s) (planColl spare s))) &&
  (!(ty == 2 || ty == 3) || decide (32000 ≤ window)) &&
  (!(ty == 11) || decide (plan ≤ 15))

/-- Two entries at one BEAT fire in a common measure (02 R49). -/
def commonMeasure (a b : Nat × Nat) : Bool :=
  let g := Nat.gcd a.1 b.1
  a.2 % g == b.2 % g

/-- `need` of the entries `l` fire in one measure together with all of `chosen`; congruences that agree in pairs have a common
solution. -/
def fireTogether : Nat → List (Nat × Nat) → List (Nat × Nat) → Bool
  | need, _, [] => need == 0
  | need, chosen, e :: l =>
    if need = 0 then true
    else if (e :: l).length < need then false
    else (chosen.all (commonMeasure e) && fireTogether (need - 1) (e :: chosen) l) || fireTogether need chosen l

/-- Entry `n` stands 17th or later among the valid entries that fire at its BEAT in some measure (02 R49). -/
def seventeenth (n : Nat) (s : State) : Bool :=
  let d := entryDesc n s
  let me := (dModulus d, dPhase d)
  let lower := ((List.range n).map fun k => entryDesc k s).filter fun x =>
    dValid x && dBeat x == dBeat d && commonMeasure me (dModulus x, dPhase x)
  fireTogether 16 [me] (lower.map fun x => (dModulus x, dPhase x))

/-- The lowest-numbered valid entry that breaks a rule (02 R49). -/
def badEntry (s : State) : Option Nat :=
  (List.range 512).find? fun n => dValid (entryDesc n s) && (!entryOk n s || seventeenth n s)

/-! ### Telemetry sets (15 R531) -/

/-- No item of snapshot set `n` names a string or a domain. -/
def snapshotOk (n : Nat) (s : State) : Bool :=
  (List.range 64).all fun i =>
    let x := rd (Obj.SET_ITEM (2 + i) n) s
    x == 0 || (match findObj (fld x 31 16) (fld x 15 8) with
      | .ok r => r.size != 0
      | .error _ => true)

/-! ### The rules of each function (13 R462 step 4) -/

/-- A key's index lies in a range. -/
def inRange (a b : Nat) (k : Nat) : Bool := decide (a ≤ keyIdx k ∧ keyIdx k ≤ b)

/-- Every rule over the settings `s` as they would stand with the values `vs`, in ascending order of the functions' bits; `images` is
what the phase images' own check found (13 R462). -/
def settingsCheck (images : Option Failure) (vs : List Staged) (s : State) : Option Failure :=
  let caller := vs.any fun x => inRange 0x3010 0x3010 x.key || inRange 0x3100 0x32FF x.key
  firstFailure
    [checkOn vs (inRange 0x5001 0x5001) 0x04000020 (sharesOk s),
     checkOn vs (inRange 0x7001 0x7003) 0x04000030 (updateOk vs s),
     images,
     (vs.find? fun x => keyIdx x.key == 0x8100 && !planOk (planColl (keySel x.key) s)).map fun x => (0x04000040, keyAt x.key),
     checkOn vs (inRange 0x8004 0x8004) 0x04000041 (buffersOk s),
     checkOn vs (inRange 0x8001 0x8001) 0x04000042 (nodeIdOk s),
     (if caller then (badEntry s).map fun n => (0x04000010, (0x3100 + n) * 65536 + 256) else none),
     checkOn vs (fun k => keyIdx k == 0x3001 && (keySub k == 1 || keySub k == 2)) 0x04000012 (ptpLinkOk s),
     checkOn vs (fun k => (keyIdx k == 0x3001 && keySub k == 2) || (keyIdx k == 0x8020 && keySub k == 1)) 0x04000012 (ptpMastersOk s),
     (vs.find? fun x => keyIdx x.key == 0xB110 && !snapshotOk (keySel x.key) s).map fun x => (0x04000050, keyAt x.key)]

end Sys2Proof.Machine
end

