-- ==== Sys2Proof/Machine/Writes.lean ====
section
/-! DEFINITION. What a value does when it takes effect, by a write or by a commit: the objects with a rule of their own, phase images
as lists of values, and the whole validation of a commit (13 R455 to R462, R467; 08 R634; 09 R335; 10 R371, R374). -/

namespace Sys2Proof.Machine

open Sys2Proof

/-! ### Objects with a rule of their own -/

/-- A register of a submission queue: bases and sizes are refused while it is enabled; enabling begins with empty rings
(12 R436, R443; log entry 50). -/
def writeQueue (q sub v : Nat) (s : State) : Nat × State :=
  let on := rd (Obj.QUEUE_ENABLE q) s == 1
  if on ∧ 2 ≤ sub ∧ sub ≤ 5 then (0x03000004, s)
  else
    let t := applyKey (keyOf 0x9010 sub q) v s
    if sub = 8 ∧ v = 1 ∧ on = false then
      (0, modQueue q (fun x => { x with head := 0, tail := 0, cqTail := 0, cqHead := 0, cqPhase := true, heldFull := false }) t)
    else (0, t)

/-- RATE_LIMIT of a code: 0 restores the default, a 257th override is refused (15, object 0xB020). -/
def writeRate (code v : Nat) (s : State) : Nat × State :=
  let k := keyOf 0xB020 2 code
  let others := s.regs.filter fun p => keyIdx p.1 == 0xB020 && keySub p.1 == 2 && p.1 != k
  if v ≠ 0 ∧ 256 ≤ others.length then (0x02000001, s) else (0, applyKey k v s)

/-- NODE_ID: a new one takes every link down once with reason 5 (10 R361, R374). -/
def writeNodeId (v : Nat) (s : State) : State :=
  let t := applyKey (keyOf 0x8001 1 0) v s
  if v = rd Obj.NODE_ID s then t else forEach (List.range 64) (fun k => dropLink k 5) t

/-- TIME_MODE: the new source's timing starts afresh (02 R30, R31). -/
def writeTimeMode (v : Nat) (s : State) : State :=
  let t := applyKey (keyOf 0x3001 1 0) v s
  if v = rd Obj.TIME_MODE s then t
  else modTim (fun x => { x with
    syncAt := t.clk.ticks, ppsSeen := if v = 1 then false else x.ppsSeen, ppsTime := if v = 1 then none else x.ppsTime }) t

/-- PARTNER_NODE: the header keeps it too (09 R308). -/
def writePartner (v : Nat) (s : State) : State := writeHeader (applyKey (keyOf 0x8400 2 0) v s)

/-- LINK_ASYM: a commit of it makes ASYM_VALID 1 (10 R371). -/
def writeLinkAsym (k v : Nat) (s : State) : State :=
  applyKey (keyOf 0x8005 12 k) 1 (applyKey (keyOf 0x8005 11 k) v s)

/-- A value takes effect under its object's own rule; the abort code of a refusal, or 0 (13 R455, R457). -/
def applyValue (k v : Nat) (s : State) : Nat × State :=
  let idx := keyIdx k
  let sub := keySub k
  let sel := keySel k
  if idx = 0x8002 then writeLinkControl (sub - 1) v s
  else if idx = 0x3020 ∧ sub = 2 then writeRejoin v s
  else if idx = 0xE100 ∧ 2 ≤ sub ∧ sub ≤ 6 then tgSet sel sub v s
  else if idx = 0x9010 then writeQueue sel sub v s
  else if idx = 0xB020 ∧ sub = 2 then writeRate sel v s
  else if idx = 0xC000 ∧ sub = 2 then writeOpRequest v s
  else if idx = 0x6201 ∧ sub = 1 then writeFreeze v s
  else if idx = 0x6201 ∧ sub = 2 then writeFreezeScope v s
  else if idx = 0xD020 ∧ 2 ≤ sub ∧ sub ≤ 5 then writeNonce (regOfKey k) v s
  else if idx = 0xA020 then writeExtract (regOfKey k) v s
  else if idx = 0xD010 ∧ sub = 1 then writeFwOffset v s
  else if idx = 0x8005 ∧ sub = 11 then (0, writeLinkAsym sel v s)
  else if idx = 0x8001 then (0, writeNodeId v s)
  else if idx = 0x3001 ∧ sub = 1 then (0, writeTimeMode v s)
  else if idx = 0x8400 ∧ sub = 2 then (0, writePartner v s)
  else (0, applyKey k v s)

/-- Values take effect one after another; the first refusal ends it as a range rule refused at commit (13 R477). -/
def applyValues : List Staged → State → Option Failure × State
  | [], s => (none, s)
  | x :: l, s => match applyValue x.key x.value.toNat s with
    | (0, t) => applyValues l t
    | (_, t) => (some (0x04000050, keyAt x.key), t)

/-! ### What follows the values of a commit -/

/-- RESET_SCALARS of a set whose entry the commit wrote (08 R634). -/
def resetScalars (n : Nat) (s : State) : State :=
  let e := setEntry n s
  if e.valid ∧ e.resetScalars then
    let k := (bankConsts e.cbank s).drop 12
    setRec n { recOf n s with pend := k, scal := k } s
  else s

/-- After the values of a commit: scalars are reset, and a step may now be confirmed (08 R634; 09 R317). -/
def afterValues (vs : List Staged) (s : State) : State :=
  let sets := ((vs.filter fun x => keyIdx x.key == 0x7003).map fun x => keySel x.key).dedup
  confirmStep (forEach sets resetScalars s)

/-! ### Phase images (09 R335) -/

/-- IMAGE_SELECT of entry `e` of image `im`. -/
def imageSel (im e : Nat) : Nat := im * 32768 + e

/-- The values of an image, in the order of its entries; an entry of a selector chooses the item of later entries of its index in
the image. None where an entry names no object a value can be written to, or a value outside its range (09 R335; log entry 51). -/
def imageValues (im : Nat) (s : State) : List Nat → List (Nat × Nat) → List Staged → Option (List Staged)
  | [], _, vs => some vs
  | e :: es, sels, vs =>
    let a := rd (Obj.IMAGE_ADDR (imageSel im e)) s
    let v := rd (Obj.IMAGE_VALUE (imageSel im e)) s
    let idx := fld a 31 16
    let sub := fld a 15 8
    if a = 0 then imageValues im s es sels vs
    else match findObj idx sub with
      | .error _ => none
      | .ok r =>
        if r.access ≠ .rw ∨ valueCheck r v ≠ 0 ∨ v / 2 ^ (8 * r.size) ≠ 0 then none
        else if isSelector idx sub then imageValues im s es (spInsert idx v sels) vs
        else
          let sel := if selected idx sub then spGet 0 sels idx else 0
          imageValues im s es sels (vs ++ [⟨keyOf idx sub sel, BitVec.ofNat 64 v⟩])

/-- The values of an image. -/
def imageList (im : Nat) (s : State) : Option (List Staged) := imageValues im s (List.range 512) [] []

/-- The update run state an image names: 0 Stopped, 2 Running, as RUN_STATE shows it (09 R335; log entry 51). -/
def imageRunState (im : Nat) (s : State) : Nat := rd (Obj.IMAGE_VALUE (imageSel im 576)) s

/-- The moves of an image, its entries 512 to 575 that name a tensor: tensor, tier, DEST (09 R335). -/
def imageMoves (im : Nat) (s : State) : List (Nat × Nat × Nat) :=
  ((List.range 64).map fun i => rd (Obj.IMAGE_VALUE (imageSel im (512 + i))) s).filterMap fun x =>
    if fld x 63 40 = 0 then none else some (fld x 63 40, fld x 38 37, fld x 36 0)

/-- How many values an image holds (09 R335). -/
def imageCount (im : Nat) (s : State) : Nat := ((imageList im s).getD []).length

/-- The values of an image as they would be applied now, and whether every rule holds of them. -/
def imageState (im : Nat) (s : State) : Option Failure × State :=
  match imageList im s with
  | none => (some (0x04000031, keyAt (keyOf 0x7130 3 0)), s)
  | some vs => match applyValues vs s with
    | (some f, _) => (some f, s)
    | (none, t) =>
      -- a new B takes effect only on a boundary of both grids (02 R45)
      if beatB t ≠ beatB s ∧ onMeasure (max (beatB s) (beatB t)) (now s) = false then (some (0x04000011, keyAt (keyOf 0x3010 1 0)), s)
      else match settingsCheck none vs t with
        | some f => (some f, s)
        | none => (none, afterValues vs t)

/-- An image may be stored: its values obey every rule, and the generate image leaves the update function Stopped (09 R335). -/
def imageOk (im : Nat) (s : State) : Bool :=
  let r := imageRunState im s
  (r == 0 || (im == 1 && r == 2)) &&
  match imageList im s with
  | none => false
  | some vs => match applyValues vs s with
    | (some _, _) => false
    | (none, t) => (settingsCheck none vs t).isNone

/-- The images a commit changes obey 09 R335. -/
def imagesCheck (vs : List Staged) (s : State) : Option Failure :=
  (vs.find? fun x => keyIdx x.key == 0x7130 && !imageOk (keySel x.key / 32768) s).map fun x => (0x04000031, keyAt x.key)

/-! ### Validation (13 R462 step 4) -/

/-- The values `vs` as they would stand: the first failure, or the state with them in effect (13 R462). -/
def validated (vs : List Staged) (s : State) : Option Failure × State :=
  match applyValues vs s with
  | (some f, _) => (some f, s)
  | (none, t) => match settingsCheck (imagesCheck vs t) vs t with
    | some f => (some f, s)
    | none => (none, afterValues vs t)

end Sys2Proof.Machine
end

