-- ==== Sys2Proof/Machine/Functions.lean ====
section
/-! DEFINITION. Functions and their run states: stopping, safe boundaries and starting, by run control and by a commit
(13 R452 to R454; 19 R601). -/

namespace Sys2Proof.Machine

open Sys2Proof

/-- A function runs again: links route what they held, the recorder takes what it held; tasks resume, kept triggers begin and late
figures start by their own commands (13 R454). -/
def startFn (f : Nat) (s : State) : State :=
  let s := setRun f .running s
  if f = 4 then routeWaiting s else if f = 6 then applyHold s else s

/-- Every running task with a non-zero SPILL is pre-empted (13 R452). -/
def preemptAll (s : State) : State :=
  forEach (s.tasks.filter fun t => t.state == .running && t.spill != 0) (fun t => requestPreempt t none) s

/-- A function begins to stop; the collective engine, the links and the recorder are at their safe boundary at once
(13 R452). -/
def stopFn (f : Nat) (s : State) : State :=
  if running f s = false then s
  else if f ≤ 1 then preemptAll (setRun f .stopping s)
  else if f = 2 then setRun f .stopping s
  else setRun f .stopped s

/-- The safe boundary of a function (13 R452): no task runs, with the requests of its streams drained for a commit; every update unit
is at a step boundary and every set that staged settings change has reached APPLIED. -/
def atSafe (f : Nat) (s : State) : Bool :=
  let held (c : Nat) : Bool := !bitOf s.arb.commitFreeze.toNat (c - 1) || classDrained c s
  match f with
  | 0 | 1 => s.tasks.all (fun t => t.state != .running) && held 3 && held 4
  | 2 => s.upd.units.all (fun p => p.2.step.isEmpty) && setsSettled s && held 2
  | _ => true

/-- Whether a commit past its armed state stopped a function. -/
def commitHolds (f : Nat) (s : State) : Bool :=
  match s.dict.commit with
  | none => false
  | some c => c.phase != .armed && c.stopped.contains f

/-- A write of RUN_CONTROL of function `f` (13 R454, R457; 18 R585; log entry 52). -/
def writeRunControl (f v : Nat) (s : State) : Nat × State :=
  if f ≤ 2 ∧ inSitout s then (0x03000003, s)
  else if s.boot.ready = false ∨ commitHolds f s then (0x03000004, s)
  else if v = 1 then
    (if f = 5 then (0x03000004, s)
     else if f = 6 ∧ running 6 s then (0x03000004, s)
     else if running f s then (0, s)
     else (0, startFn f s))
  else if f = 6 then (0x03000004, s)
  else if f = 5 then
    (if s.cal.firing then
      (0, setRun 5 .stopping { s with cal := { s.cal with stopDue := some (s.cal.stopDue.getD .runControl) } })
     else (0, s))
  else (0, stopFn f s)

/-- RUN_CONTROL_START (13 R454). -/
def execRunControlStart (w : Writer) (f : Nat) (s : State) : Host.Outcome State Fault Refusal :=
  run (command w 0x2001 (f + 1) 1 (writeRunControl f 1)) s

/-- RUN_CONTROL_STOP (13 R454). -/
def execRunControlStop (w : Writer) (f : Nat) (s : State) : Host.Outcome State Fault Refusal :=
  run (command w 0x2001 (f + 1) 2 (writeRunControl f 2)) s

/-- FUNCTION_SAFE_BOUNDARY: a Stopping function other than the Caller has reached its safe boundary and is Stopped (13 R452). -/
def execFunctionSafeBoundary (f : Nat) (s : State) : Host.Outcome State Fault Refusal :=
  run (fun s => if f ≠ 5 ∧ runOf f s = .stopping ∧ atSafe f s then setRun f .stopped s else s) s

end Sys2Proof.Machine
end

