-- ==== Sys2Proof/Machine/Reads.lean ====
section
/-! DEFINITION. What a read of each object returns: stored registers, and the objects whose value is taken from the rest of the state
at the moment of the read (13 R447 to R451, R478). -/

namespace Sys2Proof.Machine

open Sys2Proof

/-! ### Parts of status words -/

/-- STACK_STATE of stack `i`, and a package's state nibble (07, object 0x6101). -/
def thermalNibble (i lost : Nat) (s : State) : Nat := if lostReason lost s ≠ 0 then 3 else nth 0 s.mo.thermal i

/-- STACK_STATE_n and BUFFER_STATE_n (07, object 0x6101). -/
def memoryState (n : Nat) (s : State) : Nat :=
  if n ≤ 8 then thermalNibble (n - 1) (n - 1) s * 2 ^ 28 + lostReason (n - 1) s * 2 ^ 24
  else
    let b := n - 9
    let r := lostReason (8 + b) s
    (if r ≠ 0 then 3 else 0) * 2 ^ 28 + r * 2 ^ 24 +
    thermalNibble (8 + 2 * b) (14 + 2 * b) s * 2 ^ 20 + thermalNibble (9 + 2 * b) (15 + 2 * b) s * 2 ^ 16

/-- CORE_STATUS of core `c` (04, object 0x4001). -/
def coreStatus (c : Nat) (s : State) : Nat :=
  let k := coreOf c s
  k.status * 2 ^ 28 + k.outcome * 2 ^ 24 + k.pc

/-- ENGINE_STATUS of engine `e` of core `c` (05, object 0x5010). -/
def engineStatus (c e : Nat) (s : State) : Nat :=
  let k := coreOf c s
  let g := nth Engine.init k.engines e
  -- the stream of a task whose pre-emption is under way, or that lies saved while the engine is idle (05 R190)
  let saved := (s.tasks.flatMap (·.saved)).findSome? fun p =>
    if p.1 = c then (nth Engine.init p.2.engines e).run else none
  let g := if g.run.isNone && !g.faulted then { g with run := saved } else g
  let x := g.run.getD Stream.init
  let st :=
    if g.faulted then 4
    else if g.run.isNone then 0
    else if x.suspended || k.preempting then 3
    else if x.held then 5
    else if g.queued.isSome then 2 else 1
  let moved := if x.write then x.accepted else x.filled
  st * 2 ^ 28 + (if g.run.isSome then min moved (2 ^ 28 - 1) else 0)

/-- MOVER_STATUS of mover `m` (06, object 0x6031). -/
def moverStatus (m : Nat) (s : State) : Nat :=
  match (s.jobs.filter fun j => j.phase != .queued)[m]? with
  | none => 0
  | some j =>
    let st := match j.phase with
      | .queued => 0
      | .waitRefs => 1
      | .copying => 2
      | .digesting => 3
    st * 2 ^ 28 + j.tensor

/-- A number for a link state (10, object 0x8003). -/
def linkStateCode : LinkState → Nat
  | .dark => 0
  | .training => 1
  | .up => 2
  | .hold => 3
  | .down => 4
  | .lockedOut => 5

/-- LINK_STATE of link `k` (10, object 0x8003). -/
def linkStatus (k : Nat) (s : State) : Nat :=
  let l := linkOf k s
  linkStateCode l.state * 2 ^ 60 + l.reason * 2 ^ 56 + b2n l.farTransitOff * 2 ^ 55 + l.farLink * 2 ^ 48 + l.farNode

/-- NEED of a link: flits for full rate, ceil(0.17371 x (RTT + 1,700)) (10 R354). -/
def linkNeed (k : Nat) (s : State) : Nat := (17371 * (rd (Obj.RTT k) s + 1700) + 99999) / 100000

/-- SLOT_n of the collective engine (11, object 0x8101). -/
def slotStatus (i : Nat) (s : State) : Nat :=
  match s.col.slots[i]? with
  | none => 0
  | some c =>
    let st := match c.phase with
      | .waiting => 1
      | .running => 2
      | .ending => 3
    st * 2 ^ 28 + c.round * 2 ^ 23 + c.tag

/-- QUEUE_STATE of queue `q` (12, object 0x9010 sub 9). -/
def queueStatus (q : Nat) (s : State) : Nat :=
  let x := queueOf q s
  let st := if rd (Obj.QUEUE_ENABLE q) s = 0 then 0 else if x.heldFull then 3 else if x.waiting then 2 else 1
  st * 2 ^ 28 + x.head

/-- RUN_STATE of function `f` (13, object 0x2000). -/
def runStateCode (f : Nat) (s : State) : Nat :=
  match runOf f s with
  | .stopped => 0
  | .starting => 1
  | .running => 2
  | .stopping => 3

/-- COMMIT_STATE (13 R461). -/
def commitStateCode (s : State) : Nat :=
  match s.dict.commit with
  | none => 0
  | some c => match c.phase with
    | .armed => 1
    | .waitTime => 2
    | .stopping => 3
    | .validating => 4
    | .waitBoundary => 5
    | .applying => 6
    | .restarting => 7

/-- STAGE_OWNER (13, object 0x2011 sub 2). -/
def stageOwnerCode (s : State) : Nat :=
  match s.dict.owner with
  | none => 0
  | some w => (transportNum w.via + 1) * 2 ^ 30 + w.src % 2 ^ 24

/-- The 128 bits of an error-queue entry (14 R482). -/
def errorBits (overflow : Bool) (e : ErrEntry) : Nat :=
  e.code * 2 ^ 112 + e.sev * 2 ^ 109 + b2n overflow * 2 ^ 108 + e.source * 2 ^ 96 + e.value * 2 ^ 64 + e.count.toNat

/-- The entries of the error queue, oldest first, with the overflow entry last (14 R482). -/
def errorEntries (s : State) : List Nat :=
  s.flt.queue.map (errorBits false) ++ (s.flt.overflow.map (errorBits true)).toList

/-- PIN_INPUTS but for TIME_PPS_IN (20, object 0xC030). -/
def pinInputs (s : State) : Nat :=
  b2n s.pins.perstN + b2n s.pins.pwrFailN * 2 + b2n s.pins.laserEn * 4 + s.pins.slotId.toNat * 16 + b2n s.pins.role * 1024

/-- The identity objects of at most 8 bytes (13, object 0x1000; log entry 14). -/
def identity (sub : Nat) (s : State) : Nat :=
  match sub with
  | 1 => Config.vendorId.toNat
  | 2 => 0x2128
  | 4 => b2n Config.longReach
  | 5 => Config.serial.toNat
  | 6 => Config.hwRevision.toNat
  | 7 => rd Obj.FW_VERSION s
  | _ => 1

/-- FLUSH_STATE (15 R519, object 0xB030 sub 2). A slot is erased in one command, so no read sees an erase. -/
def flushStateCode (s : State) : Nat :=
  match s.rcd.flush with
  | none => 0
  | some f => if f.snap.isSome then 2 else 1

/-! ### Objects computed at the read -/

/-- The readings of a link's optics and line code that no rule computes: RX_POWER, TX_POWER and PREFEC_BER
(10, object 0x8005 sub 4 to 6; log entries 16 and 80). -/
def lineReading (idx sub : Nat) : Bool := idx == 0x8005 && decide (4 ≤ sub) && decide (sub ≤ 6)

/-- A traffic generator's object; with every unit selected it shows none in particular (07 R258). -/
def tgObject (sel sub : Nat) (s : State) : Option Nat :=
  if 304 ≤ sel then none
  else
    let t := tgOf sel s
    some (match sub with
      | 2 => t.pattern
      | 3 => t.mode
      | 4 => t.start
      | 5 => t.count
      | 6 => t.seed
      | 8 => t.status
      | 9 => t.errors
      | _ => t.first.toNat)

/-- The step times of a set, whose selector is SET_SELECT of 0x7003 (08, object 0x7004). -/
def stepTimes (t : Transport) (sub : Nat) (s : State) : Nat :=
  let e := setEntry (selectorOf t 0x7003 s) s
  if sub = 1 then bankStepBlocks e s else lomlekStepIssues e s

/-- The free part of a word: bits [hi:lo] of it are open (log entry 6). -/
def withFree (x hi lo : Nat) (s : State) : Nat × State :=
  let (k, s) := drawFree s
  (setFld x hi lo (Config.freeWord k).toNat, s)

/-- The objects of at most 8 bytes whose value is taken at the read; none for a stored register. -/
def computed (t : Transport) (idx sub sel : Nat) (s : State) : Option Nat :=
  match idx with
  | 0x1000 => some (identity sub s)
  | 0x2000 => some (runStateCode (sub - 1) s)
  | 0x2010 => if sub = 4 then some (commitStateCode s) else none
  | 0x2011 =>
    if sub = 1 then some s.dict.staged.length
    else if sub = 2 then some (stageOwnerCode s)
    else if sub = 3 then some (b2n (nth false s.dict.stageMode (transportNum t)))
    else none
  | 0x2041 => if sub = 2 then some (s.boot.stepDone + 1) else none
  | 0x3000 => some (now s)
  | 0x3002 => if sub = 3 then some (match s.tim.holdoverAt with | some a => (now s - a) / 1000000 | none => 0) else none
  | 0x3011 => some (if sub = 1 then measureAt (beatB s) (now s) else beatAt (beatB s) (now s))
  | 0x4001 => some (coreStatus (sub - 1) s)
  | 0x4100 => if sub = 2 then some (stepSeed s).toNat else none
  | 0x5010 => some (engineStatus ((sub - 1) / 4) ((sub - 1) % 4) s)
  | 0x6010 =>
    if sub = 1 then none else some (fld (entryBits (tensorOf (selectorOf t 0x6010 s) s)) (64 * (sub - 2) + 63) (64 * (sub - 2)))
  | 0x6031 => some (moverStatus (sub - 1) s)
  | 0x6101 => some (memoryState sub s)
  | 0x6130 =>
    if sub = 5 then some s.mo.patrolFast.pointer else if sub = 6 then some s.mo.patrolSlow.pointer else none
  | 0x6150 =>
    if sub = 2 then some (hourTotal (spGet HourCount.init s.mo.ce sel))
    else if sub = 3 then some (hourTotal (spGet HourCount.init s.mo.ue sel)) else none
  | 0x6201 =>
    if sub = 3 then some (drainedBits s) else if sub = 4 then some s.arb.commitFreeze.toNat else none
  | 0x7000 => some (if sub = 1 then s.upd.sets.length else (keptTriggers s).length)
  | 0x7004 => some (stepTimes t sub s)
  | 0x8003 => some (linkStatus (sub - 1) s)
  | 0x8005 => if sub = 3 then some (linkNeed sel s) else none
  | 0x8101 => some (if sub = 1 then s.col.slots.length else slotStatus (sub - 2) s)
  | 0x9010 => if sub = 9 then some (queueStatus sel s) else none
  | 0xA001 =>
    if sub = 1 then some (errorEntries s).length
    else if sub = 4 then some (nth 0 (errorEntries s) (selectorOf t 0xA001 s) / 2 ^ 64)
    else if sub = 5 then some (nth 0 (errorEntries s) (selectorOf t 0xA001 s) % 2 ^ 64)
    else none
  | 0xB000 =>
    if sub = 1 then some s.rcd.records.length
    else if sub = 4 then some s.pow.cycles.toNat
    else if sub = 5 then some s.pow.opTime
    else none
  | 0xB010 =>
    if 2 ≤ sub ∧ sub ≤ 9 then
      some (match s.rcd.records[selectorOf t 0xB010 s]? with
        | some r => fld (recBits r) (64 * (sub - 2) + 63) (64 * (sub - 2))
        | none => 0)
    else none
  | 0xB030 => if sub = 2 then some (flushStateCode s) else none
  | 0xB020 =>
    if sub = 2 then some (match rateOf sel s with | some (r, b) => r * 65536 + b | none => 0xFFFFFFFF) else none
  | 0xC020 =>
    if sub = 1 then some (s.pow.ledger.units / 2 ^ 64) else if sub = 4 then some (sumNat s.pow.ledger.surgeBins) else none
  | 0xD000 =>
    if sub = 1 then some s.boot.bootSlot
    else if sub = 2 then some (setFld (rd Obj.BOOT_STATUS s) 0 0 (b2n s.boot.prevRecovery))
    else if sub = 3 then some s.fuse.svn
    else if sub = 5 then some s.fuse.revoked.toNat
    else none
  | _ => none

/-- The bits of PARAM that a figure type names; DONE_FLAG always (02 R50). -/
def paramMask (type : Nat) : Nat :=
  let bits (h l : Nat) : Nat := 2 ^ (h + 1) - 2 ^ l
  255 + (match type with
    | 0 => bits 63 24
    | 1 | 5 | 11 => bits 63 56
    | 2 => bits 63 59
    | 3 | 8 => bits 63 61
    | 4 | 10 => bits 63 63
    | 6 => bits 63 30
    | 9 => bits 63 48
    | _ => 0)

/-- The value that stands for a key on a transport: the staged one where the transport stages, else the applied one
(13 R458). -/
def shownAt (t : Transport) (k : Nat) (s : State) : Nat :=
  match (if nth false s.dict.stageMode (transportNum t) then s.dict.staged.find? fun x => x.key == k else none) with
  | some x => x.value.toNat
  | none => rd (regOfKey k) s

/-- The bits of PARAM that its entry's TYPE does not name read as 0 (02 R50). -/
def maskParam (t : Transport) (idx sub v : Nat) (s : State) : Nat :=
  if 0x3100 ≤ idx ∧ idx ≤ 0x32FF ∧ sub = 2 then v &&& paramMask (fld (shownAt t (keyOf idx 1 0) s) 59 56) else v

/-- The value an object of at most 8 bytes reads as on a transport. A staged value shows where the transport stages
(13 R458). Some objects, or bits of them, have no stated value: they are free. -/
def objValue (t : Transport) (r : ObjRow) (idx sub sel : Nat) (s : State) : Nat × State :=
  let k := keyOf idx sub sel
  let stagedHere :=
    if r.access == .rw && nth false s.dict.stageMode (transportNum t) then s.dict.staged.find? fun x => x.key == k else none
  match stagedHere with
  | some x => (maskParam t idx sub x.value.toNat s, s)
  | none =>
    if isSelector idx sub then (selectorOf t idx s, s)
    else if idx = 0xE100 then
      (match tgObject sel sub s with
       | some v => (v, s)
       | none => withFree 0 (8 * r.size - 1) 0 s)
    else if idx = 0xC030 then
      (if sub = 1 then withFree (pinInputs s) 3 3 s else withFree 0 0 0 s)
    else if idx = 0xC020 ∧ sub = 5 then withFree 0 31 0 s
    else if lineReading idx sub then withFree 0 (8 * r.size - 1) 0 s
    else match computed t idx sub sel s with
      | some v => (v, s)
      | none => (maskParam t idx sub (rd (regOf r idx sub sel) s) s, s)

/-! ### Strings and domains (13 R448) -/

/-- The 1,024 bits of an image header without its CRC (15 R520). -/
def imageHeader (m : RecImage) : Nat :=
  m.seq * 2 ^ 992 + m.cause * 2 ^ 976 + m.causeValue * 2 ^ 944 + m.count.toNat * 2 ^ 880 + m.hours * 2 ^ 844 +
  m.cycles.toNat * 2 ^ 824 + m.records.length * 2 ^ 812 +
  ((List.range 9).foldl (fun a i => a + nth 0 m.classTotals i % 2 ^ 64 * 2 ^ (748 - 64 * i)) 0)

/-- An image as bytes: its header, with the CRC over its other bytes and the records, then the records (15 R520;
log entry 53). -/
def imageBytes (m : RecImage) : List Byte :=
  let recs := m.records.flatMap fun r => leBytes 64 r.toNat
  let head := leBytes 124 (imageHeader m / 2 ^ 32)
  leBytes 4 (crc32 (head ++ recs)) ++ head ++ recs

/-- The bytes of a string or domain object (13 R448). -/
def domainBytes (t : Transport) (idx sub : Nat) (s : State) : List Byte :=
  match idx with
  | 0x1000 => ascii (if Config.longReach then "JZ2-1280-WL" else "JZ2-1280-WS")
  | 0xB030 =>
    (match (nth RecSlot.init s.flash.recSlots (selectorOf t 0xB030 s)).image with
     | some m => imageBytes m
     | none => [])
  | 0xB100 => s.tel.samples.flatMap fun x => leBytes 128 x.toNat
  | 0xB110 =>
    let mine := (s.tel.snaps.filter fun p => p.1 == selectorOf t 0xB110 s).map (·.2)
    mine.reverse.flatMap fun x => leBytes 8 x.count.toNat ++ x.values.flatMap fun v => leBytes 8 v.toNat
  | 0xD020 => if sub = 1 then Config.certChain else s.sec.report
  | 0xD040 => challengeBytes s
  | _ => []

/-- The value of an object as a read returns it (13 R448). -/
def readBytes (t : Transport) (r : ObjRow) (idx sub : Nat) (s : State) : List Byte × State :=
  if r.size = 0 then (domainBytes t idx sub s, s)
  else
    let (v, s) := objValue t r idx sub (selOf t idx sub s) s
    (leBytes r.size v, s)

end Sys2Proof.Machine
end

