-- ==== Sys2Proof/Machine/Commit.lean ====
section
/-! DEFINITION. The commit: its control object, its stopping, validation, application and end, and the saved image
(13 R458 to R471). -/

namespace Sys2Proof.Machine

open Sys2Proof

/-- A key belongs to a function of a set (13 R478). -/
def inSet (m k : Nat) : Bool :=
  match ownerFn (keyIdx k) with
  | some f => bitOf m f
  | none => false

/-- A function set is allowed: no reserved bit, and the cores whenever the streams (13 R453). -/
def setLegal (m : Nat) : Bool := fld m 14 7 == 0 && (!bitOf m 1 || bitOf m 0)

/-- The staged values of a function set, in the order they were staged. -/
def stagedIn (m : Nat) (s : State) : List Staged := s.dict.staged.filter fun x => inSet m x.key

/-- B as it would stand after the commit. -/
def nextB (m : Nat) (s : State) : Nat := if bitOf m 5 then stagedOr (keyOf 0x3010 1 0) s else beatB s

/-- The grid a commit of the Caller applies on: a boundary of the old and of the new B (02 R45). -/
def commitGrid (m : Nat) (s : State) : Nat := max (beatB s) (nextB m s)

/-- The commit in progress changed by `f`. -/
def modCommit (f : Commit → Commit) (s : State) : State := { s with dict := { s.dict with commit := s.dict.commit.map f } }

/-- A commit succeeds: what it stopped runs again, and its figure ends with outcome 0 (13 R462, R465, R468). -/
def succeedCommit (c : Commit) (s : State) : State :=
  let s := { s with dict := { s.dict with commit := none }, arb := { s.arb with commitFreeze := 0 } }
  let s := forEach c.stopped startFn s
  let s := bump Obj.COMMITS (wr Obj.COMMIT_RESULT 0 (wr Obj.LAST_APPLIED (now s) s))
  let s := endCommit (emit 0x9301 0 c.fset.toNat s)
  match c.figure with
  | some e => endFigure e 0 s
  | none => s

/-- Step 5: every staged value of the named functions takes effect, or none where one fails (13 R462). -/
def applyCommit (c : Commit) (s : State) : State :=
  match validated (stagedIn c.fset.toNat s) s with
  | (some (code, at_), _) => failCommit code at_ s
  | (none, t) => succeedCommit c (unstage (fun x => inSet c.fset.toNat x.key) t)

/-- Step 4: the values are validated and take effect, at a measure boundary when the Caller is named; before bring-up step 6 at once
(13 R462, R463, R468; 18 R585). -/
def validateCommit (c : Commit) (s : State) : State :=
  match validated (stagedIn c.fset.toNat s) s with
  | (some (code, at_), _) => failCommit code at_ s
  | (none, _) =>
    if bitOf c.fset.toNat 5 = false ∨ s.boot.stepDone < 6 then applyCommit c s
    else
      let at_ := c.applyAt.getD (nextMeasure (commitGrid c.fset.toNat s) (now s + 1))
      if c.figure.isSome ∧ c.deadline ≤ at_ then failCommit 0x04000006 0 s
      else if at_ < now s then failCommit 0x04000006 0 s
      else modCommit (fun c => { c with phase := .waitBoundary, applyAt := some at_ }) s

/-- No function of a commit's set is Running or on its way to Stopped, and no set that the staged values change stands between
BEGUN and APPLIED, whoever stopped the functions (13 R452, R462; 08 R269, R634). -/
def commitSafe (m : Nat) (s : State) : Bool :=
  ([0, 1, 2, 3, 4, 6].all fun f => !bitOf m f || (!running f s && runOf f s != .stopping)) && (!bitOf m 2 || setsSettled s)

/-- The functions of a commit reach their safe boundaries; once all are Stopped it goes on (13 R462 step 3). -/
def tryCommit (s : State) : State :=
  match s.dict.commit with
  | none => s
  | some c =>
    if c.phase ≠ .stopping then s
    else
      let fs := [0, 1, 2, 3, 4, 6].filter fun f => bitOf c.fset.toNat f
      let s := forEach fs (fun f s => onlyIf (runOf f s == .stopping && atSafe f s) (setRun f .stopped) s) s
      if commitSafe c.fset.toNat s then validateCommit c s else s

/-- Step 3: every named function that is Running stops, and the classes of its requests freeze; with nothing staged the commit
succeeds (13 R462; 19 R601). -/
def stopForCommit (s : State) : State :=
  match s.dict.commit with
  | none => s
  | some c =>
    if (stagedIn c.fset.toNat s).isEmpty then succeedCommit c s
    else
      let fs := [0, 1, 2, 3, 4, 6].filter fun f => bitOf c.fset.toNat f && running f s
      let freeze := (if fs.contains 0 && fs.contains 1 then 12 else 0) + (if fs.contains 2 then 2 else 0)
      let deadline := if c.figure.isSome then c.deadline else s.clk.ticks + 1000000 * rd Obj.COMMIT_TIMEOUT s
      let s := modCommit (fun c => { c with phase := .stopping, stopped := fs, deadline := deadline }) s
      let s := { s with arb := { s.arb with commitFreeze := BitVec.ofNat 8 freeze } }
      tryCommit (forEach fs stopFn s)

/-- The Count at which a commit with a time begins to stop functions (13 R462, R463). -/
def commitBegin (c : Commit) (s : State) : Nat :=
  if c.applyAt.isSome then c.time.toNat - 1000 * rd Obj.COMMIT_LEAD s else c.time.toNat

/-- A commit that waits for its time begins once that has come. -/
def beginAtTime (s : State) : State :=
  match s.dict.commit with
  | none => s
  | some c => if c.phase = .waitTime ∧ commitBegin c s ≤ now s then stopForCommit s else s

/-- Steps 1 and 2: the set and the time are checked on the write itself, and the commit waits for its time (13 R462, R463;
02 R45). -/
def startCommit (s : State) : Nat × State :=
  let m := rd Obj.COMMIT_SET s
  let t := rd Obj.COMMIT_TIME s
  let caller := bitOf m 5
  let grid := commitGrid m s
  if s.trn.phase.isSome then (0x04000001, s)
  else if setLegal m = false then (0x04000005, s)
  else if t ≠ 0 ∧ t < now s then (0x04000004, s)
  else if t ≠ 0 ∧ caller ∧ nextB m s ≠ beatB s ∧ onMeasure grid t = false then (0x04000011, s)
  else if t ≠ 0 ∧ caller ∧ onMeasure (beatB s) t = false then (0x04000004, s)
  else
    let c : Commit := { Commit.init with
      phase := .waitTime, fset := BitVec.ofNat 16 m, time := BitVec.ofNat 64 t,
      applyAt := if caller ∧ t ≠ 0 then some t else none }
    (0, beginAtTime { s with dict := { s.dict with commit := some c } })

/-- The commit is armed for a COMMIT figure (13 R453, R468). -/
def armCommit (s : State) : Nat × State :=
  let m := rd Obj.COMMIT_SET s
  if setLegal m = false then (0x04000005, s)
  else (0, { s with dict := { s.dict with commit := some { Commit.init with fset := BitVec.ofNat 16 m } } })

/-- Step 4 alone: its result is stored and nothing else changes (13 R467). -/
def validateOnly (s : State) : Nat × State :=
  let m := rd Obj.COMMIT_SET s
  if setLegal m = false then (0x04000005, s)
  else match (validated (stagedIn m s) s).1 with
    | some (code, at_) => (0, wr Obj.COMMIT_RESULT code (wr Obj.COMMIT_FAILED_AT at_ s))
    | none => (0, wr Obj.COMMIT_RESULT 0 s)

/-- A writer may use the commit object: the area is empty or its own (13 R460). -/
def commitOwner (w : Writer) (s : State) : Bool := s.dict.staged.isEmpty || owns w s

/-- A write of the owner to 0x2010 keeps its staging area from idling (13 R460). -/
def touchStaging (w : Writer) (s : State) : State :=
  if owns w s then { s with dict := { s.dict with idleAt := opSec s } } else s

/-- A write of COMMIT_CONTROL (13 R460, R461, R468). -/
def writeCommitControl (w : Writer) (v : Nat) (s : State) : Nat × State :=
  if commitOwner w s = false ∧ v = 4 ∧ w.via = .i3c then (0, releaseStaging s)
  else if commitBusy s then (0x04000001, s)
  else if commitOwner w s = false then (0x04000003, s)
  else
    let s := touchStaging w s
    match v with
    | 1 => startCommit s
    | 2 => armCommit s
    | 3 => (0, { s with dict := { s.dict with commit := none } })
    | 4 => (0, unstage (fun x => inSet (rd Obj.COMMIT_SET s) x.key) s)
    | _ => validateOnly s

/-- COMMIT_START: COMMIT_CONTROL = 1 (13 R462). -/
def execCommitStart (w : Writer) (s : State) : Host.Outcome State Fault Refusal :=
  run (command w 0x2010 3 1 (writeCommitControl w 1)) s

/-- ARM: COMMIT_CONTROL = 2 (13 R468). -/
def execArm (w : Writer) (s : State) : Host.Outcome State Fault Refusal := run (command w 0x2010 3 2 (writeCommitControl w 2)) s

/-- DISARM: COMMIT_CONTROL = 3 (13 R461). -/
def execDisarm (w : Writer) (s : State) : Host.Outcome State Fault Refusal := run (command w 0x2010 3 3 (writeCommitControl w 3)) s

/-- DISCARD: COMMIT_CONTROL = 4 (13 R460, R461). -/
def execDiscard (w : Writer) (s : State) : Host.Outcome State Fault Refusal := run (command w 0x2010 3 4 (writeCommitControl w 4)) s

/-- VALIDATE_ONLY: COMMIT_CONTROL = 5 (13 R467). -/
def execValidateOnly (w : Writer) (s : State) : Host.Outcome State Fault Refusal :=
  run (command w 0x2010 3 5 (writeCommitControl w 5)) s

/-- COMMIT_TIME_REACHED: COMMIT_TIME, or COMMIT_LEAD before it, has come (13 R462, R463). -/
def execCommitTimeReached (s : State) : Host.Outcome State Fault Refusal := run beginAtTime s

/-- COMMIT_SAFE_BOUNDARY: the named functions are Stopped, so the commit validates, applies and restarts (13 R462). -/
def execCommitSafeBoundary (s : State) : Host.Outcome State Fault Refusal := run tryCommit s

/-- COMMIT_TIMEOUT_EXPIRE: functions miss their safe boundary within COMMIT_TIMEOUT, or a timed Caller commit its measure boundary
(13 R462, R463). -/
def execCommitTimeoutExpire (s : State) : Host.Outcome State Fault Refusal :=
  run (fun s => match s.dict.commit with
    | none => s
    | some c =>
      if c.phase = .stopping ∧ c.figure.isNone ∧ (c.deadline ≤ s.clk.ticks ∨ c.applyAt.any fun t => decide (t < now s)) then
        failCommit 0x04000006 0 s
      else s) s

/-- STAGE_IDLE_EXPIRE: an owner idle for STAGE_IDLE loses its staged values (13 R460). -/
def execStageIdleExpire (s : State) : Host.Outcome State Fault Refusal :=
  run (fun s =>
    if s.dict.owner.isSome ∧ s.dict.idleAt + rd Obj.STAGE_IDLE s ≤ opSec s then releaseStaging s else s) s

/-! ### The saved image (13 R469 to R471) -/

/-- The saved values that are not at their default, by key (13 R469). -/
def savedValues (s : State) : List (Nat × BitVec 64) :=
  s.regs.filter fun p => match findObj (keyIdx p.1) (keySub p.1) with
    | .ok r => r.save
    | .error _ => false

/-- The image as it is to be written: before bring-up step 6 the values of the stored image, and those that have taken effect since
(13 R469; 18 R585). -/
def imageNow (s : State) : List (Nat × BitVec 64) :=
  if 6 ≤ s.boot.stepDone then savedValues s
  else
    let old := ((if s.flash.voided then none else s.flash.image).getD []).filter fun p => !s.boot.early.contains p.1
    (savedValues s).foldl (fun m p => if s.boot.early.contains p.1 then spInsert p.1 p.2 m else m) old

/-- A new image is written whole and marked current; a failed write leaves the old one and writes code 0x9304 (13 R469). -/
def writeImage (ok : Bool) (s : State) : State :=
  if ok then
    let s := { s with
      flash := { s.flash with image := some (imageNow s), voided := false }, boot := { s.boot with saveDirty := false } }
    bump Obj.FLASH_WRITES (wr Obj.SAVE_STATE 0 s)
  else emit 0x9304 0 3 (wr Obj.SAVE_STATE 3 s)

/-- A write of SAVE_CONTROL; `ok` is whether the flash took the image (13 R471). -/
def writeSave (ok : Bool) (v : Nat) (s : State) : Nat × State :=
  if v = 1 then (0, writeImage ok s) else (0, { s with flash := { s.flash with voided := true } })

/-- SAVE_NOW: SAVE_CONTROL = 1 (13 R471). -/
def execSaveNow (w : Writer) (ok : Bool) (s : State) : Host.Outcome State Fault Refusal :=
  run (command w 0x2020 1 1 (writeSave ok 1)) s

/-- SAVE_VOID: SAVE_CONTROL = 2 marks both images void (13 R471). -/
def execSaveVoid (w : Writer) (s : State) : Host.Outcome State Fault Refusal :=
  run (command w 0x2020 1 2 (writeSave true 2)) s

/-- SAVED_IMAGE_WRITE: the image pending is written, within 1 s of the values' taking effect, after a power-fail flush (13 R469,
R470). -/
def execSavedImageWrite (ok : Bool) (s : State) : Host.Outcome State Fault Refusal :=
  run (fun s => if s.boot.saveDirty ∧ (s.rcd.flush.any fun f => f.powerFail) = false then writeImage ok s else s) s

end Sys2Proof.Machine
end

