-- ==== Sys2Proof/Machine/Caller.lean ====
section
/-! DEFINITION. The Caller: firing at beats, late figures, deadlines, the measure boundary, and the PHASE and TELEMETRY figures
(02 R39 to R57; 09 R336; 13 R463, R468; 15 R529, R530). -/

namespace Sys2Proof.Machine

open Sys2Proof

/-! ### Resources (02 R54) -/

/-- Two figures of one type hold the same resource: channel group, Lomlek buffer, tier, optical engine; a COMMIT and a PHASE share
their machinery (02 R54). -/
def sameResource (f g : Fig) : Bool :=
  let p := f.param.toNat
  let q := g.param.toNat
  match figType f.desc, figType g.desc with
  | 2, 2 => fld p 63 59 == fld q 63 59
  | 3, 3 => fld p 63 61 == fld q 63 61
  | 4, 4 => fld p 63 63 == fld q 63 63
  | 5, 5 => (fld p 63 56 &&& fld q 63 56) != 0
  | 9, 9 | 9, 10 | 10, 9 | 10, 10 => true
  | _, _ => false

/-- An earlier figure still holds what figure `f` needs. -/
def resourceHeld (f : Fig) (s : State) : Bool :=
  (s.cal.figs.any fun g => g.started && figTag g != figTag f && sameResource f g) ||
  (figType f.desc == 5 && s.net.ringFigs.any fun r => r.engines.any fun e => bitOf (fld f.param.toNat 63 56) e)

/-- A figure that cannot fire in its window is skipped: counted, and its flag left alone (02 R53, R56). -/
def skipFigure (f : Fig) (s : State) : State :=
  emit 0x4011 0 f.entry (bump Obj.SKIPPED
    { s with cal := { s.cal with figs := dropFirst (fun g => figTag g == figTag f) s.cal.figs } })

/-- A figure that has started ends with an outcome (02 R52, R56). -/
def startAndEnd (f : Fig) (outcome : Nat) (s : State) : State := endFigure (figTag f) outcome (markStarted (figTag f) s)

/-! ### The slot-bound types (07 R243; 10 R358) -/

/-- The units a RETRAIN figure names: eight channels of a group, or eight sub-channels of a buffer (07 R243). -/
def retrainUnits (f : Fig) : List Nat :=
  let p := f.param.toNat
  (List.range 8).map (fun i => if figType f.desc = 2 then 8 * fld p 63 59 + i else 256 + 8 * fld p 63 61 + i) |>.filter (· < 304)

/-- A RETRAIN figure fires: its channels are retrained in turn (07 R243). A RETRAIN_SLOW figure that names buffer 6 or 7 has no
channel and ends at once with outcome 0 (02 R50; log entry 124). -/
def startRetrain (f : Fig) (s : State) : State :=
  let us := retrainUnits f
  if us.isEmpty then startAndEnd f 0 s
  else markStarted (figTag f) { s with mo := { s.mo with figTodo := s.mo.figTodo ++ [⟨figTag f, us⟩] } }

/-- A RING_CAL figure fires: the engines of its mask are calibrated in turn (10 R358). -/
def startRingCal (f : Fig) (s : State) : State :=
  let es := bitList 8 (fld f.param.toNat 63 56)
  if es.isEmpty then startAndEnd f 0 s
  else
    let r : RingFig := { RingFig.init with entry := figTag f, engines := es }
    markStarted (figTag f) { s with net := { s.net with ringFigs := s.net.ringFigs ++ [r] } }

/-! ### PROMENADE_SYNC, COMMIT and PHASE (09 R316, R336; 13 R468) -/

/-- A PROMENADE_SYNC figure starts: the lead sends its offer, the follow waits for it (09 R316). -/
def startSync (f : Fig) (s : State) : State :=
  if s.trn.syncEntry.isSome ∨ running 4 s = false then s
  else
    let s := markStarted (figTag f) { s with trn := { s.trn with syncEntry := some (figTag f) } }
    onlyIf (rd Obj.PARTNER_ROLE s == 1) (sendSync 0x11) s

/-- A figure that tries to start past its 128-tick window (02 R52). -/
def lateNow (f : Fig) (s : State) : Bool := decide (f.fired + 128 ≤ now s)

/-- A commit of `n` values of function set `m` that begins now ends before a deadline: by the bounds of 13 R464, or, when the
Caller is named, at a measure boundary (02 R53; 13 R463, R464; log entry 107). -/
def commitFits (m n deadline : Nat) (s : State) : Bool :=
  let validated := now s + 100000 + 1000 * n
  n == 0 || decide ((if bitOf m 5 then nextMeasure (commitGrid m s) validated else validated + 1000 * n) < deadline)

/-- A COMMIT figure that never started its armed commit ends aborted, and nothing is left armed (02 R53; 13 R468). -/
def abortArmed (f : Fig) (s : State) : State :=
  match s.dict.commit with
  | some c =>
    if c.phase = .armed then
      failCommit 0x04000006 0 { s with dict := { s.dict with commit := some { c with phase := .stopping, figure := some (figTag f) } } }
    else endFigure (figTag f) 1 s
  | none => endFigure (figTag f) 1 s

/-- A COMMIT figure: with nothing armed it completes; with another set than its own it ends with code 0x04000007; else the armed
commit begins to stop functions, or is aborted where it is too late for it (13 R468; 02 R53). -/
def startCommitFigure (f : Fig) (s : State) : State :=
  if commitBusy s ∨ resourceHeld f s then s
  else match s.dict.commit with
    | none => startAndEnd f 0 s
    | some c =>
      let m := rd Obj.COMMIT_SET s
      if fld f.param.toNat 63 48 ≠ m ∨ setLegal m = false then
        startAndEnd f 1 (wr Obj.COMMIT_RESULT 0x04000007 { s with dict := { s.dict with commit := none } })
      else if lateNow f s ∧ commitFits m (stagedIn m s).length f.deadline s = false then abortArmed f s
      else
        let c := { c with fset := BitVec.ofNat 16 m, figure := some (figTag f), deadline := f.deadline }
        stopForCommit (markStarted (figTag f) { s with dict := { s.dict with commit := some c } })

/-- A PHASE figure starts: tasks are pre-empted, streams suspended and the update function stopped (09 R336 steps 1, 2). A late
one that can no longer end before its deadline is aborted, as a COMMIT is (02 R53; log entry 107). -/
def startPhase (f : Fig) (s : State) : State :=
  if commitBusy s ∨ resourceHeld f s then s
  else if lateNow f s ∧ commitFits 0 (imageCount (fld f.param.toNat 63 63) s) f.deadline s = false then
    endFigure (figTag f) 1 s
  else
    let fs := [0, 1, 2].filter fun g => running g s
    let p : PhaseRun := ⟨figTag f, fld f.param.toNat 63 63, f.fired, fs⟩
    forEach fs stopFn (markStarted (figTag f) { s with trn := { s.trn with phase := some p } })

/-- A PHASE ends with its figure aborted and its functions restarted; nothing has changed (09 R336; 02 R53). -/
def failPhase (p : PhaseRun) (s : State) : State :=
  endFigure p.entry 1 (forEach p.stopped startFn { s with trn := { s.trn with phase := none } })

/-- The update function has no set between BEGUN and APPLIED, so its boundary is reached (09 R336). -/
def phaseSafe (f : Nat) (s : State) : Bool := atSafe f s && (f != 2 || (validSets s).all fun n => !setOpen n s)

/-- A move of an image as a directory command (09 R336 step 4; 06 R219). -/
def imageJob (m : Nat × Nat × Nat) : DirJob :=
  { DirJob.init with cmd := BitVec.ofNat 256 (3 * 2 ^ 248 + m.1 * 2 ^ 224 + m.2.1 * 2 ^ 221 + m.2.2 * 2 ^ 184) }

/-- Steps 4 and 5: the moves are issued, the functions restart, PHASE is written and the figure completes (09 R336). -/
def finishPhase (p : PhaseRun) (s : State) : State :=
  let s := { s with trn := { s.trn with phase := none } }
  let s := writeHeader (wr Obj.PHASE p.target s)
  let s := forEach (imageMoves p.target s) (fun m => acceptJob (imageJob m)) s
  let s := forEach (p.stopped.filter (· != 2)) startFn s
  let s := if imageRunState p.target s = 2 then startFn 2 s else setRun 2 .stopped s
  let us := (now s - p.at_) / 1000
  endFigure p.entry 0 (emit 0x800C 0 us (wr Obj.LAST_SWITCH us s))

/-- Step 3, once every function has stopped: the image is validated and applied whole, or the figure ends (09 R335, R336). -/
def applyPhase (s : State) : State :=
  match s.trn.phase with
  | none => s
  | some p =>
    let s := forEach [0, 1, 2] (fun f s => onlyIf (runOf f s == .stopping && phaseSafe f s) (setRun f .stopped) s) s
    if inSitout s ∨ ([0, 1, 2].any fun f => runOf f s != .stopped || !phaseSafe f s) then s
    else match imageState p.target s with
      | (some _, _) => failPhase p s
      | (none, t) => finishPhase p t

/-- PHASE_APPLY (09 R336 steps 3 to 5). -/
def execPhaseApply (s : State) : Host.Outcome State Fault Refusal := run applyPhase s

/-! ### TELEMETRY (15 R529, R530) -/

/-- The channel of a sample that an object shows (15 R528). -/
def channelOf (idx sub : Nat) : Option Nat :=
  match idx with
  | 0xC001 => if sub = 4 then some 3 else none
  | 0xC010 => if 1 ≤ sub ∧ sub ≤ 3 then some (3 + sub) else none
  | 0xC000 => if sub = 1 then some 7 else none
  | 0x6100 => if 1 ≤ sub ∧ sub ≤ 20 then some (7 + sub) else none
  | _ => none

/-- The objects whose value is signed (13 R447). -/
def signedObject (idx sub : Nat) : Bool :=
  (idx == 0x3001 && sub == 3) || (idx == 0x3002 && (sub == 2 || sub == 4)) || (idx == 0x8005 && sub == 11) ||
  idx == 0x6100 || (idx == 0xC010 && sub ≤ 3)

/-- The value of one named object in a snapshot; free where the spec names none: an object that is absent, cannot be read, lies
under a selector, or shows a channel of which no sample has been taken (15 R529). -/
def itemValue (x : Nat) (s : State) : BitVec 64 × State :=
  let idx := fld x 31 16
  let sub := fld x 15 8
  let open_ (s : State) : BitVec 64 × State := let (k, s) := drawFree s; (Config.freeWord k, s)
  let whole (size v : Nat) : BitVec 64 :=
    BitVec.ofNat 64 (if signedObject idx sub then ofSigned 64 (toSigned (8 * size) v) else v)
  match findObj idx sub with
  | .error _ => open_ s
  | .ok r =>
    if r.access = .wo ∨ selected idx sub ∨ r.size = 0 then open_ s
    else match channelOf idx sub with
      | some c => match s.tel.samples.getLast? with
        | some y => (whole 2 (fld y.toNat (79 + 16 * c) (64 + 16 * c)), s)
        | none => open_ s
      | none =>
        let (v, s) := objValue .i3c r idx sub 0 s
        (whole r.size v, s)

/-- The values of a set's items that name an object, in order (15 R529). -/
def itemValues : List Nat → State → List (BitVec 64) × State
  | [], s => ([], s)
  | x :: xs, s =>
    let (v, s) := itemValue x s
    let (vs, s) := itemValues xs s
    (v :: vs, s)

/-- The sectors of a snapshot sent to the collector: the set and the Count, then four values to a sector (15 R530). -/
def snapshotSectors (set : Nat) (x : Snapshot) : List Sector :=
  let quad (vs : List (BitVec 64)) : Nat := (List.range 4).foldl (fun a i => a + (nth 0#64 vs i).toNat * 2 ^ (64 * i)) 0
  dataSector (set * 2 ^ 248 + x.count.toNat * 2 ^ 184) :: (chunks 4 x.values).map fun vs => dataSector (quad vs)

/-- A snapshot of a set is kept, and sent when a collector is named and the module has a node id (15 R529, R530). -/
def takeSnapshot (set fired : Nat) (s : State) : State :=
  let items := ((List.range 64).map fun i => rd (Obj.SET_ITEM (i + 2) set) s).filter fun x => fld x 31 8 != 0
  let (vs, s) := itemValues items s
  let x : Snapshot := ⟨BitVec.ofNat 64 fired, vs⟩
  let mine := (s.tel.snaps.filter fun p => p.1 == set).take 15
  let rest := s.tel.snaps.filter fun p => p.1 != set
  let s := { s with tel := { s.tel with snaps := (set, x) :: mine ++ rest } }
  let node := rd (Obj.COLLECTOR set) s % 2 ^ 24
  if node = 0 ∨ nodeId s = 0 then s
  else forEach (chunks 8 (snapshotSectors set x)) (fun ys => originate (mkFlit 3 6 node (nodeId s) 0 0 ys)) s

/-! ### Firing (02 R50 to R54) -/

/-- A figure starts if it can: on its beat, or late. On its beat, a slot-bound figure whose resource is held is skipped; the
others wait, as late figures (02 R53). -/
def startFigure (f : Fig) (s : State) : State :=
  match figType f.desc with
  | 0 | 1 | 6 => startColl f s
  | 2 | 3 => if resourceHeld f s then skipFigure f s else startRetrain f s
  | 4 => if resourceHeld f s then skipFigure f s else markStarted (figTag f) s
  | 5 => if resourceHeld f s then skipFigure f s else startRingCal f s
  | 7 => startSync f s
  | 8 => markStarted (figTag f) s
  | 9 => startCommitFigure f s
  | 10 => startPhase f s
  | 11 => endFigure (figTag f) 0 (takeSnapshot (fld f.param.toNat 63 56) (now s) (markStarted (figTag f) s))
  | _ => startAndEnd f 0 s

/-- A DESC fires at a beat of a measure (02 R46, R51). -/
def firesAt (d beat measure : Nat) : Bool :=
  dValid d && dBeat d == beat && measure % max 1 (dModulus d) == dPhase d

/-- An entry fires: its DESC and PARAM are what they are now, and its deadline is fixed (02 R47, R48, R51). -/
def fireEntry (n : Nat) (s : State) : State :=
  let b := beatB s
  let m := measureAt b (now s)
  let d := BitVec.ofNat 64 (entryDesc n s)
  let f : Fig := { Fig.init with
    entry := n, desc := d, param := BitVec.ofNat 64 (entryParam n s), measure := m, deadline := descDeadline b d m,
    fired := beatStart b m (beatAt b (now s)) }
  startFigure f { s with cal := { s.cal with figs := s.cal.figs ++ [f] } }

/-! ### The measure boundary (02 R39 to R43; 13 R463) -/

/-- A task waits on a Caller flag: in its START, or at an FWAIT of one of its cores (02 R40). -/
def waitsOnCaller (t : Task) (s : State) : Bool :=
  match t.state with
  | .waiting => t.start == 2 && !startMet t s
  | .running => t.cores.any fun c =>
      let k := coreOf c s
      let w := rdData (coreSector c (k.base + k.pc)) s
      k.task == some t.key && k.status == 2 && cmdOp w == 0x30 && !bitOf w 247
  | .preempted => false

/-- A commit at a measure boundary: one that waits for it applies; a timed one not yet validated has missed it (13 R463). -/
def commitAtBoundary (at_ : Nat) (s : State) : State :=
  let s := beginAtTime s
  match s.dict.commit with
  | none => s
  | some c => match c.applyAt with
    | none => s
    | some t =>
      if at_ < t then s
      else if c.phase = .waitBoundary then applyCommit c s
      else if c.phase = .waitTime ∨ c.phase = .stopping then failCommit 0x04000006 0 s
      else s

/-- The Caller stops at a boundary: its run state, code 0x4002, and the tasks that wait on its flags (02 R33, R39, R40;
13 R454). -/
def callerStop (at_ : Nat) (s : State) : State :=
  if s.cal.firing = false ∨ s.cal.stopDue.isNone then s
  else
    let s := { s with cal := { s.cal with firing := false, stopDue := none, stopAt := some at_ } }
    abortFlagWaiters waitsOnCaller (emit 0x4002 0 0 (setRun 5 .stopped s))

/-- The Caller fires again. -/
def callerRejoin (s : State) : State := setRun 5 .running { s with cal := { s.cal with firing := true, rejoinArmed := false } }

/-- Rejoining at a boundary: under policy 1 at the first one after the stop in LOCKED, under policy 0 at the armed measure, with code
0x4003 where the servo is not LOCKED (02 R42, R43). -/
def rejoinAtBoundary (at_ m : Nat) (s : State) : State :=
  let locked := s.tim.servo == .locked
  let due := s.cal.rejoinArmed && decide (rd Obj.REJOIN_MEASURE s ≤ m)
  let disarmed := { s with cal := { s.cal with rejoinArmed := false } }
  if s.cal.firing then (if due then disarmed else s)
  else if isReady s = false ∨ s.cal.stopAt = some at_ then s
  else if rd Obj.REJOIN_POLICY s = 1 then (if locked then callerRejoin s else s)
  else if due then
    (if locked ∧ rd Obj.REJOIN_MEASURE s = m then callerRejoin s
     else emit 0x4003 0 (rd Obj.REJOIN_MEASURE s % 2 ^ 32) disarmed)
  else s

/-- What happens at a measure boundary, once for each: a commit applies, the Caller stops or rejoins. The boundary is acted on in
the firing window that follows it. -/
def measureEvents (s : State) : State :=
  let b := beatB s
  let m := measureAt b (now s)
  let at_ := beatStart b m 0
  if s.clk.held ∨ s.cal.lastMeasure = some m ∨ at_ + 128 ≤ now s then s
  else
    let s := rejoinAtBoundary at_ m (callerStop at_ (commitAtBoundary at_ s))
    { s with cal := { s.cal with lastMeasure := some (measureAt (beatB s) (now s)) } }

/-- MEASURE_BOUNDARY (02 R39 to R43, R48; 13 R463). -/
def execMeasureBoundary (s : State) : Host.Outcome State Fault Refusal := run measureEvents s

/-- The entries that fire at the beat that has begun, in ascending order (02 R51). -/
def firingEntries (s : State) : List Nat :=
  let b := beatB s
  (List.range 512).filter fun n => firesAt (entryDesc n s) (beatAt b (now s)) (measureAt b (now s))

/-- BEAT_BOUNDARY: within 128 ticks of a beat's start the Caller fires its entries; it fires none while stopped, in Sit-out or with
the Count held (02 R51, R52, R55, R632). -/
def execBeatBoundary (s : State) : Host.Outcome State Fault Refusal :=
  run (fun s =>
    let s := measureEvents s
    let beat := now s / 2 ^ beatB s
    if s.cal.firing = false ∨ isReady s = false ∨ s.clk.held ∨ 128 ≤ now s % 2 ^ beatB s ∨ s.cal.lastBeat = some beat then s
    else forEach (firingEntries s) fireEntry { s with cal := { s.cal with lastBeat := some beat } }) s

/-- LATE_FIGURE_START: figures of an entry that could not start do so as soon as they can, before their deadline (02 R53); the
Caller starts none in Sit-out, once it has stopped, or while the Count is held (02 R39, R55, R632). -/
def execLateFigureStart (entry : Nat) (s : State) : Host.Outcome State Fault Refusal :=
  run (fun s =>
    if inSitout s ∨ s.cal.firing = false ∨ s.clk.held then s
    else forEach (s.cal.figs.filter fun f => f.entry == entry && !f.started && decide (now s < f.deadline)) startFigure s) s

/-! ### Deadlines (02 R53, R56, R57) -/

/-- A RETRAIN figure at its deadline leaves what has not begun to its next figure (07 R243). -/
def retrainDeadline (f : Fig) (s : State) : State :=
  let left := (s.mo.figTodo.filter fun r => r.entry == figTag f).flatMap fun r =>
    r.todo.filter fun u => !(s.mo.training.any fun t => t.unit == u)
  let s := { s with mo := { s.mo with figTodo := s.mo.figTodo.filter fun r => r.entry != figTag f } }
  endFigure (figTag f) 0 (forEach left (fun u => emit 0x1703 u u) s)

/-- A COMMIT figure at its deadline: its commit fails, or it ends unstarted (02 R53; 13 R468). -/
def commitDeadline (f : Fig) (s : State) : State :=
  if s.dict.commit.any fun c => c.figure == some (figTag f) then failCommit 0x04000006 0 s else abortArmed f s

/-- A figure whose deadline has come ends as its type says (02 R53). -/
def deadlineFigure (f : Fig) (s : State) : State :=
  match figType f.desc with
  | 0 | 1 | 6 => deadlineColl f (countDeadline f s)
  | 2 | 3 => retrainDeadline f s
  | 5 => endFigure (figTag f) 0 { s with net := { s.net with ringFigs := s.net.ringFigs.filter fun r => r.entry != figTag f } }
  | 7 =>
    let s := { s with trn := { s.trn with syncEntry := if s.trn.syncEntry = some (figTag f) then none else s.trn.syncEntry } }
    endFigure (figTag f) 1 (countDeadline f s)
  | 9 => commitDeadline f (countDeadline f s)
  | 10 =>
    let s := countDeadline f s
    match s.trn.phase with
    | some p => if p.entry = figTag f then failPhase p s else endFigure (figTag f) 1 s
    | none => endFigure (figTag f) 1 s
  | _ => endFigure (figTag f) 0 s

/-- FIGURE_DEADLINE: every figure whose deadline has come ends, in ascending entry number (02 R53, R57). -/
def execFigureDeadline (s : State) : Host.Outcome State Fault Refusal :=
  run (fun s =>
    let due := s.cal.figs.filter fun f => decide (f.deadline ≤ now s)
    forEach ((List.range 512).flatMap fun n => due.filter fun f => f.entry == n) deadlineFigure s) s

end Sys2Proof.Machine
end

