-- ==== Sys2Proof/Machine/Startup.lean ====
section
/-! DEFINITION. Power, the resets of the module, of its functions and of the CXL function, the bring-up steps, and the power and laser
pins (18 Reset, start-up and output states; 14 R488, R504; 17 R558, R562, R563; 20 R622 to R628). -/

namespace Sys2Proof.Machine

open Sys2Proof

/-! ### Whole-module resets (18 R575 to R577, R581; 16 R557) -/

/-- A flush that stops in the middle leaves its slot invalid (15 R520). -/
def dropFlush (s : State) : State :=
  match s.rcd.flush with
  | none => s
  | some f =>
    let s := if f.snap.isSome then setSlot f.slot ⟨.invalid, none⟩ s else s
    { s with rcd := { s.rcd with flush := none, flushPend := none } }

/-- Every part of the module in reset: what flash, the fuses, the pins and the wear ledger's clock hold is kept (18 R576). -/
def wholeReset (s : State) : State :=
  { State.reset with
    pending := s.pending, fuse := s.fuse, pins := s.pins, flash := s.flash, free := s.free,
    pow := { Power.init with phase := .held, opTime := s.pow.opTime, cycles := s.pow.cycles, ledger := s.pow.ledger },
    rcd := Recorder.init,
    sec := { Security.init with challenge := s.sec.challenge } }

/-- Power-on reset: the power-cycle count rises and the ledger is read from flash (18 R576; 15 R510; 16 R555). -/
def coldReset (s : State) : State :=
  let s := wholeReset s
  { s with pow := { s.pow with cycles := s.pow.cycles + 1, ledger := s.flash.ledger } }

/-- PERST_N: what was pending goes to flash; records, class totals, the sequence number and a power-fail flush are kept, and every
UP link carries the abort token as its last flit (18 R576, R577; 20 R625). -/
def perstReset (s : State) : State :=
  let s := if s.boot.saveDirty then writeImage true s else s
  let s := { s with flash := { s.flash with ledger := s.pow.ledger } }
  let kept := s.rcd.flush.filter (·.powerFail)
  let s := if kept.isSome then s else dropFlush s
  let t := wholeReset s
  let t := { t with
    rcd := { Recorder.init with records := s.rcd.records, batch := s.rcd.batch, hold := s.rcd.hold, flush := kept }
    sec := { t.sec with refusals := s.sec.refusals, scopesSeen := s.sec.scopesSeen }
    links := s.links.map fun l => if l.state = .up then { Link.init with cur := [sitoutToken s] } else Link.init }
  let t := forEach (List.range 9) (fun n => wr (Obj.CLASS_TOTAL (n + 1)) (rd (Obj.CLASS_TOTAL (n + 1)) s)) t
  emit 0x9603 0 1 (wr Obj.LAST_RESET 1 (wr Obj.SEQUENCE (rd Obj.SEQUENCE s) t))

/-- Bring-up begins once reset has ended with PERST_N and PWR_FAIL_N high: the straps are sampled (18 R581; 09 R310; 12 R446;
20 R622, R624). -/
def tryBringup (s : State) : State :=
  if s.pow.phase = .held ∧ s.pins.perstN ∧ s.pins.pwrFailN then
    let s := wr Obj.PARTNER_ROLE (b2n s.pins.role) (wr Obj.SLOT_ID s.pins.slotId.toNat s)
    { s with
      pow := { s.pow with phase := .active }
      boot := { s.boot with i3cAddr := 0x30 + s.pins.slotId.toNat % 16, beganAt := s.clk.ticks } }
  else s

/-- POWER_ON: 54 V rises into range on an unpowered module (18 R575, R581). -/
def execPowerOn (slotId : BitVec 6) (role perstN pwrFailN laserEn : Bool) (s : State) : Host.Outcome State Fault Refusal :=
  runReset (fun s =>
    if s.pow.phase ≠ .unpowered then s
    else tryBringup (emit 0x9603 0 0 (coldReset { s with pins := ⟨perstN, pwrFailN, laserEn, slotId, role⟩ }))) s

/-- POWER_REMOVED: nothing runs, and everything outside flash and fuses is lost (16 R557). -/
def execPowerRemoved (s : State) : Host.Outcome State Fault Refusal :=
  runReset (fun s =>
    if s.pow.phase = .unpowered then s
    else
      let s := wholeReset (dropFlush s)
      { s with pow := { s.pow with phase := .unpowered } }) s

/-- PERST_N_FALL (18 R577). -/
def execPerstNFall (s : State) : Host.Outcome State Fault Refusal :=
  runReset (fun s =>
    let low (s : State) : State := { s with pins := { s.pins with perstN := false } }
    if s.pow.phase = .unpowered ∨ s.pow.phase = .held then low s else low (perstReset s)) s

/-- PERST_N_RESET_END: PERST_N is high and the reset has ended (18 R577, R581). -/
def execPerstNResetEnd (slotId : BitVec 6) (role : Bool) (s : State) : Host.Outcome State Fault Refusal :=
  runAny (fun s => tryBringup { s with pins := { s.pins with perstN := true, slotId := slotId, role := role } }) s

/-! ### Power and laser pins (14 R488, R504; 20 R615, R625, R628) -/

/-- Power is failing: Sit-out with code 0x5903, and a power-fail flush where Sit-out or halt has begun already; the ledger is due
(14 R488, R489; 15 R518, R522; 16 R555). -/
def powerFailing (s : State) : State :=
  let s := emit 0x5903 0 0 s
  let s := modPow (fun p => { p with ledgerSecs := max 60 p.ledgerSecs }) s
  if rd Obj.FAULT_STATE s = 0 then enterSitout 0x5903 0 true s else requestFlush 0x5903 0 true s

/-- PWR_FAIL_N_FALL; in a PERST_N reset the recorder is flushed (14 R488; 20 R625). -/
def execPwrFailNFall (s : State) : Host.Outcome State Fault Refusal :=
  runAny (fun s =>
    let s := { s with pins := { s.pins with pwrFailN := false } }
    match s.pow.phase with
    | .active | .halted => powerFailing s
    | .held => requestFlush 0x5903 0 true s
    | _ => s) s

/-- PWR_FAIL_N_RISE (18 R581). -/
def execPwrFailNRise (s : State) : Host.Outcome State Fault Refusal :=
  runAny (fun s => tryBringup { s with pins := { s.pins with pwrFailN := true } }) s

/-- INPUT_UNDERVOLTAGE: the module's own monitor reads below 45 V (14 R488). -/
def execInputUndervoltage (s : State) : Host.Outcome State Fault Refusal := run powerFailing s

/-- INPUT_OVERVOLTAGE: above 60 V, or a rail out of regulation (14 R504). -/
def execInputOvervoltage (rail : Nat) (s : State) : Host.Outcome State Fault Refusal := run (haltModule 0x5905 0 rail) s

/-- LASER_EN_FALL: every laser is off, and live links go down with reason 1 (20 R625, R628; 10 R374). -/
def execLaserEnFall (s : State) : Host.Outcome State Fault Refusal :=
  runAny (fun s =>
    let s := { s with pins := { s.pins with laserEn := false }, net := { s.net with laserOn := false } }
    if alive s then forEach (List.range 64) (fun k s => onlyIf ((linkOf k s).state != .lockedOut) (darken k 1) s) s else s) s

/-- LASER_EN_RISE: from bring-up step 3 on, the lasers come on and the dark links train (20 R628; 10 R357). -/
def execLaserEnRise (s : State) : Host.Outcome State Fault Refusal :=
  runAny (fun s =>
    let s := { s with pins := { s.pins with laserEn := true } }
    if alive s ∧ 2 ≤ s.boot.stepDone then lightLinks { s with net := { s.net with laserOn := true } } else s) s

/-- DYNAMIC_ADDRESS_ASSIGNMENT by SETDASA or ENTDAA, while the module has an I3C target (20 R622; 18 R582, R587). -/
def execDynamicAddressAssignment (addr : BitVec 7) (s : State) : Host.Outcome State Fault Refusal :=
  runAny (fun s => if answers ⟨.i3c, 0⟩ s then { s with boot := { s.boot with i3cAddr := addr.toNat } } else s) s

/-! ### Bring-up step 1 (17 R558, R559, R562, R563; 18 R582, R584) -/

/-- The current saved image, none when void (13 R469, R471). -/
def savedImage (s : State) : Option (List (Nat × BitVec 64)) := if s.flash.voided then none else s.flash.image

/-- The saved objects that take effect in step 1 (18 R584). -/
def earlyKey (k : Nat) : Bool :=
  let sub := keySub k
  match keyIdx k with
  | 0x3001 => decide (1 ≤ sub ∧ sub ≤ 4)
  | 0x8001 | 0x8002 | 0x8004 => true
  | 0x8005 => sub == 11 || sub == 12
  | 0x8020 => sub == 1 || sub == 2
  | _ => false

/-- A value of the image against its own range only (18 R584). -/
def inOwnRange (k v : Nat) : Bool :=
  match findObj (keyIdx k) (keySub k) with
  | .ok r => valueCheck r v == 0
  | .error _ => false

/-- The early values of the saved image take effect (18 R584). -/
def applyEarly (s : State) : State :=
  forEach (((savedImage s).getD []).filter fun p => earlyKey p.1 && inOwnRange p.1 p.2.toNat)
    (fun p => wr (regOfKey p.1) p.2.toNat) s

/-- The ROM rejects a slot: code 0x7002 and BOOT_STATUS keep the reason (17 R559, R562). -/
def rejectSlot (k r : Nat) (s : State) : State :=
  let b := rd Obj.BOOT_STATUS s
  emit 0x7002 0 (k * 16 + r) (wr Obj.BOOT_STATUS (if k = 0 then setFld b 31 28 r else setFld b 27 24 r) s)

/-- Firmware of a slot runs; a boot after recovery writes code 0x7003 (17 R562, R563; 18 R582). -/
def bootFrom (k : Nat) (pending : Bool) (s : State) : State :=
  let m := slotCells k s
  let s := onlyIf s.flash.recoveryMark (emit 0x7003 0 0) (emit 0x7001 0 k s)
  let s := wr Obj.IMAGE_SVN (cellNum m 12 2) (wr Obj.FW_VERSION (cellNum m 8 4) s)
  applyEarly { s with
    boot := { s.boot with
      bootSlot := k, fwRunning := true, fromPending := pending, stepDone := 1, runKey := cellNum m 6 2,
      prevRecovery := s.flash.recoveryMark }
    sec := { s.sec with keyErased := false }
    flash := { s.flash with recoveryMark := false } }

/-- A slot is tried, then the other one; with neither the ROM enters recovery (17 R558, R559, R563). -/
def bootTry (k : Nat) (pending : Bool) (s : State) : State :=
  match imageReason (slotCells k s) s with
  | 0 => bootFrom k pending s
  | r =>
    let s := rejectSlot k r s
    let s := if pending then clearPending s else s
    match imageReason (slotCells (1 - k) s) s with
    | 0 => bootFrom (1 - k) false s
    | q =>
      let s := rejectSlot (1 - k) q s
      { s with flash := { s.flash with recoveryMark := true }, pow := { s.pow with phase := .recovery } }

/-- CONTROLLER_BOOT: bring-up step 1. A pending slot has one boot; where that did not reach step 7 the other slot runs (17 R558,
R562). -/
def execControllerBoot (s : State) : Host.Outcome State Fault Refusal :=
  run (fun s =>
    if s.boot.stepDone ≠ 0 ∨ s.boot.fwRunning ∨ rd Obj.FAULT_STATE s ≠ 0 then s
    else match s.flash.pendingSlot with
      | none => bootTry s.flash.currentSlot false s
      | some k =>
        if s.flash.pendTried then bootTry (1 - k) false (emit 0x7002 0 (k * 16) (clearPending s))
        else bootTry k true { s with flash := { s.flash with pendTried := true } }) s

/-! ### Bring-up steps 2 to 7 (18 R582 to R586) -/

/-- A bring-up step is the one in progress: an S3 or S4 event has stopped none before it (18 R582, R586). -/
def atStep (n : Nat) (s : State) : Bool :=
  s.boot.fwRunning && s.boot.stepDone + 1 == n && rd Obj.FAULT_STATE s == 0

/-- A bring-up step ends. -/
def stepEnds (n : Nat) (s : State) : State := { s with boot := { s.boot with stepDone := n, stepAt := s.clk.ticks } }

/-- The patrols start their first passes (07 R262). -/
def startPatrols (s : State) : State :=
  let start (p : Patrol) (period : Nat) : Patrol := { p with active := true, startAt := s.clk.ticks, period := period }
  { s with mo := { s.mo with
    patrolFast := start s.mo.patrolFast (rd Obj.FAST_SCRUB_PERIOD s)
    patrolSlow := start s.mo.patrolSlow (rd Obj.SLOW_SCRUB_PERIOD s) } }

/-- Bytes of a sector written and read back that mismatch under the disturbance of the read (07 R258, R260). -/
def mismatchBytes (e : BitVec 288) : Nat := diffBytes (disturb ⟨0, 0⟩ e) ⟨0, 0⟩

/-- A channel or sub-channel fails the self-check: more than 16 sectors mismatch, or one in more than 2 bytes (07 R260). `errs`
holds the disturbances of its WRITE_THEN_READ run by sector. -/
def selfCheckFails (errs : List (Nat × Nat × BitVec 288)) (unit : Nat) : Bool :=
  let bad := errs.filter fun p => p.1 == unit && decide (p.2.1 < unitSectors unit) && decide (0 < mismatchBytes p.2.2)
  decide (16 < ((bad.map (·.2.1)).dedup).length) || bad.any fun p => decide (2 < mismatchBytes p.2.2)

/-- The stacks and packages that the first memory bring-up loses, with their reasons: 1 for a channel whose training failed twice,
10 for one that failed its self-check (07 R247, R260, R261). -/
def bringupLosses (untrained : List Nat) (errs : List (Nat × Nat × BitVec 288)) : List (Nat × Nat) :=
  ((untrained.filter (· < 304)).map fun u => (lossUnit u, 1)) ++
  (((errs.map (·.1)).dedup.filter fun u => decide (u < 304) && selfCheckFails errs u).map fun u => (lossUnit u, 10))

/-- MEMORY_BRINGUP: every channel is trained, those of `retries` once more, where true not with success either; each is checked with its generator and filled with zeros, and the patrols start; a unit that fails is lost, and bring-up stops (07 R247, R260,
R262; 18 R582). -/
def execMemoryBringup (retries : List (Nat × Bool)) (errs : List (Nat × Nat × BitVec 288)) (s : State) :
    Host.Outcome State Fault Refusal :=
  run (fun s =>
    if atStep 2 s = false then s
    else
      let t := forEach ((retries.map (·.1)).filter (· < 304)) (fun u => emit 0x1704 u u) { s with mem := Memory.init }
      match bringupLosses ((retries.filter (·.2)).map (·.1)) errs with
      | [] => stepEnds 2 (writeHeader (startPatrols t))
      | fs => forEach fs (fun p => loseUnit p.1 p.2) t) s

/-- OPTICS_BRINGUP: with LASER_EN high the lasers come on and every enabled link trains; the step ends when none is in TRAINING
(18 R582, R585). -/
def execOpticsBringup (s : State) : Host.Outcome State Fault Refusal :=
  run (fun s =>
    if atStep 3 s = false then s
    else
      let t := if s.pins.laserEn = true ∧ s.net.laserOn = false then lightLinks { s with net := { s.net with laserOn := true } } else s
      if t.pins.laserEn = true ∧ (t.links.any fun l => l.state == .training) = true then t else stepEnds 3 t) s

/-- CXL_BRINGUP: the port is up (result 0), has no partner (1) or has failed (2) (12 R421, R422; 18 R582). -/
def execCxlBringup (result width rate : Nat) (s : State) : Host.Outcome State Fault Refusal :=
  run (fun s =>
    if atStep 4 s = false then s
    else match result with
      | 0 =>
        let s := hostLinkUp width rate s
        stepEnds 4 { s with boot := { s.boot with memoryActive := true } }
      | 1 => stepEnds 4 s
      | _ => stepEnds 4 (emit 0x6002 0 0 s)) s

/-- COUNT_LOCK: the servo is LOCKED (18 R582). -/
def execCountLock (s : State) : Host.Outcome State Fault Refusal :=
  run (fun s => if atStep 5 s && s.tim.servo == .locked then stepEnds 5 s else s) s

/-- COUNT_WAIT_EXPIRE: no lock within COUNT_WAIT of the step's beginning, code 0x9602 (18 R582). -/
def execCountWaitExpire (s : State) : Host.Outcome State Fault Refusal :=
  run (fun s =>
    let passed := decide (s.boot.stepAt + 1000000000 * rd Obj.COUNT_WAIT s ≤ s.clk.ticks)
    if atStep 5 s && s.tim.servo != .locked && passed then stepEnds 5 (emit 0x9602 0 (rd Obj.SERVO_STATE s) s) else s) s

/-- ASYM_VALID of every link is what the image holds (18 R584). -/
def restoreAsym (vs : List (Nat × BitVec 64)) (s : State) : State :=
  forEach (List.range 64) (fun k => wr (Obj.ASYM_VALID k) (spGet 0#64 vs (Obj.ASYM_VALID k).key).toNat) s

/-- Every saved object is at its default, and the links act on it (13 R471; 18 R584). -/
def savedDefaults (s : State) : State :=
  let t := { s with regs := s.regs.filter fun p => match findObj (keyIdx p.1) (keySub p.1) with
    | .ok r => !r.save
    | .error _ => true }
  let t := if rd Obj.NODE_ID t = rd Obj.NODE_ID s then t else forEach (List.range 64) (fun k => dropLink k 5) t
  lightLinks t

/-- SETTINGS_APPLY: bring-up step 6 applies the saved image as one commit of every function, or leaves the defaults with code 0x9303
(13 R471; 18 R582). A saved B and a saved Caller table apply at once, not at a measure boundary of both grids (02 R45; log
entry 123). -/
def execSettingsApply (s : State) : Host.Outcome State Fault Refusal :=
  run (fun s =>
    if atStep 6 s = false then s
    else
      let vs := imageNow s
      let dirty := s.boot.saveDirty
      let t :=
        if vs.isEmpty then s
        else match validated (vs.map fun p => ⟨p.1, p.2⟩) s with
          | (some _, _) => emit 0x9303 0 0 (savedDefaults s)
          | (none, t) =>
            emit 0x9301 0 0x807F (bump Obj.COMMITS (wr Obj.LAST_APPLIED (now t) (restoreAsym vs t)))
      stepEnds 6 { t with boot := { t.boot with saveDirty := dirty, early := [] } }) s

/-- A boot from the pending slot makes it current (17 R562). -/
def readyFlash (s : State) : Flash :=
  if s.boot.fromPending then
    { s.flash with currentSlot := s.boot.bootSlot, pendingSlot := none, pendTried := false }
  else s.flash

/-- Milliseconds since bring-up began, rounded up or down (18 R583; log entry 132). -/
def bringupMs (up : Bool) (s : State) : Nat := (s.clk.ticks - s.boot.beganAt + (if up then 999999 else 0)) / 1000000

/-- READY: bring-up step 7. READY goes high, the functions start but the update engines and the Caller, and a pending slot becomes
current (18 R582, R583, R588; 17 R562). `up` says how the time is rounded. -/
def execReady (up : Bool) (s : State) : Host.Outcome State Fault Refusal :=
  run (fun s =>
    if atStep 7 s = false ∨ s.boot.ready = true then s
    else forEach [0, 1, 3, 4, 6] startFn (emit 0x9601 0 (bringupMs up s) (wr Obj.BRINGUP_MS (bringupMs up s)
      { s with boot := { s.boot with ready := true, fromPending := false }, flash := readyFlash s }))) s

/-! ### The CXL function-level reset (18 R578) -/

/-- The CXL function is reset: taken tasks are aborted without completions, the queues return to their defaults, the MSI-X table is
clear, and every tracked line is snooped and the filter emptied (18 R575, R576, R578; 13 R460). -/
def hostFunctionReset (s : State) : State :=
  let s := forEach s.tasks (fun t => abortTask t 4 0 false) s
  let s := { s with
    jobs := s.jobs.map fun j => { j with queue := none }
    regs := s.regs.filter fun p => keyIdx p.1 != 0x9010
    dict := { s.dict with selectors := s.dict.selectors.filter fun p => p.1 % 65536 != 0x9010 } }
  let s := forEach (s.host.snoop.map (·.1)) (fun l => sendSnoop l none) s
  let s := { s with host := { s.host with
    queues := List.replicate 16 Queue.init, msixClear := true, vecAt := [], snoop := [] } }
  let s := match s.dict.owner with
    | some w => if w.via = .cxl then releaseStaging s else s
    | none => s
  emit 0x9603 0 2 (bump Obj.FLRS s)

/-- FUNCTION_LEVEL_RESET, while the host link is up (18 R578). -/
def execFunctionLevelReset (s : State) : Host.Outcome State Fault Refusal :=
  run (fun s => if s.host.up = false then s else hostFunctionReset s) s

/-! ### Per-function resets (18 R579, R580) -/

/-- What a core keeps: its mode and its weight sets; accumulators and streams are clear (18 R579). -/
def clearCore (k : Core) : Core :=
  { k with
    vops := [], engines := List.replicate 4 Engine.init
    arrays := k.arrays.map fun a => { a with group := none, lines := [], flight := [], drain := none } }

/-- Cores and streams: with the core flags the counts of the Caller entries begin again (18 R579; 04 R146; 11 R391). -/
def resetCores (s : State) : State :=
  let s := forEach s.tasks (fun t => abortTask t 4 0x9604 true) s
  let s := { s with cores := s.cores.map clearCore }
  let s := forEach (List.range 64) (fun n => wr (Obj.CORE_FLAG (n + 1)) 0) s
  let s := { s with cal := { s.cal with counts := [] } }
  setRun 0 .stopped (setRun 1 .stopped s)

/-- Update engines: the running steps finish, everything else is cleared, and sets in progress stay torn (18 R579; 08 R298). -/
def resetUpdates (s : State) : State :=
  let s := stopUpdates s
  let s := { s with upd := { s.upd with kept := [] } }
  setRun 2 (if s.upd.units.all fun p => p.2.step.isEmpty then .stopped else .stopping) s

/-- Collective engine: every collective aborts as by a local fault; the landing buffer and the counts are cleared (18 R579). -/
def resetCollectives (s : State) : State :=
  let s := forEach s.col.slots localFault s
  setRun 3 .stopped { s with col := { s.col with staged := [] }, cal := { s.cal with counts := [] } }

/-- Links: every one goes down with reason 7 (18 R579). -/
def resetLinks (s : State) : State := setRun 4 .stopped (forEach (List.range 64) (fun k => dropLink k 7) s)

/-- Caller: collectives abort, other figures end as at their deadlines, waiting tasks abort, and the flags, the servo and the Count
begin again (18 R579; 02 R29, R40, R59). -/
def resetCaller (s : State) : State :=
  let s := forEach s.col.slots localFault s
  let figs := s.cal.figs
  let s := forEach ((List.range 512).flatMap fun n => figs.filter fun f => f.entry == n) deadlineFigure s
  let s := abortFlagWaiters waitsOnCaller s
  let s := setServo .unset { s with
    regs := s.regs.filter fun p => keyIdx p.1 != 0x3030
    tim := Timing.init
    clk := { Clock.init with ticks := s.clk.ticks }
    cal := { Caller.init with counts := s.cal.counts } }
  setRun 5 .stopped (wr Obj.EST_ERROR 0 (wr Obj.FREQ_ADJUST 0 s))

/-- Recorder: it flushes with CAUSE 0x9604, and the snapshot empties the records (18 R579). -/
def resetRecorder (s : State) : State :=
  let s := requestFlush 0x9604 6 false s
  let r := s.rcd
  let r := match r.flushPend with
    | some f => { r with flushPend := some { f with emptyAfter := true } }
    | none => { r with flush := r.flush.map fun f => { f with emptyAfter := true } }
  setRun 6 .stopped { s with rcd := r }

/-- The staged values of a function are discarded with code 0x9305; an armed commit stays armed (18 R576). -/
def discardStaged (m : Nat) (s : State) : State :=
  let n := (stagedIn m s).length
  onlyIf (decide (0 < n)) (emit 0x9305 0 n) (unstage (fun x => inSet m x.key) s)

/-- What every reset of a function does first: a commit that names it fails, its staged values are discarded, and the reset is
reported (18 R576, R579). -/
def beforeReset (f : Nat) (s : State) : State :=
  let m := if f ≤ 1 then 3 else 2 ^ f
  let named := match s.dict.commit with
    | some c => decide (c.fset.toNat &&& m ≠ 0)
    | none => false
  emit 0x9604 0 f (discardStaged m (onlyIf named (failCommit 0x04000008 0) s))

/-- A write of FUNCTION_RESET_n: only 0x5A resets; in Sit-out the cores, streams and update engines refuse (18 R579, R580). -/
def writeFunctionReset (f v : Nat) (s : State) : Nat × State :=
  if v ≠ 0x5A then (0x02000001, s)
  else if f ≤ 2 ∧ inSitout s then (0x03000003, s)
  else
    (0, match f with
      | 0 | 1 => resetCores (beforeReset f s)
      | 2 => resetUpdates (beforeReset f s)
      | 3 => resetCollectives (beforeReset f s)
      | 4 => resetLinks (beforeReset f s)
      | 5 => resetCaller (beforeReset f s)
      | 6 => resetRecorder (beforeReset f s)
      | _ => beforeReset f s)

/-- FUNCTION_RESET (18 R575, R579). -/
def execFunctionReset (w : Writer) (f : Nat) (s : State) : Host.Outcome State Fault Refusal :=
  runClk (command w 0x2040 (f + 1) 0x5A (writeFunctionReset f 0x5A)) s

end Sys2Proof.Machine
end

