-- ==== Sys2Proof/Machine/Dictionary.lean ====
section
/-! DEFINITION. Dictionary requests: READ, WRITE, SELECT_READ and READ_SEGMENT, the write of each class of object, and responses
(13 R447 to R460, R472 to R477; 19 R604). -/

namespace Sys2Proof.Machine

open Sys2Proof

/-! ### Writes -/

/-- A write-only object acts at once, by its own rule; the abort code, or 0 (13 R458). -/
def writeAction (w : Writer) (idx sub v : Nat) (s : State) : Nat × State :=
  match idx with
  | 0x2001 => writeRunControl (sub - 1) v s
  | 0x2010 => writeCommitControl w v s
  | 0x2020 => writeSave true v s
  | 0x2040 => writeFunctionReset (sub - 1) v s
  | 0x3004 => writeTod v s
  | 0x4103 => writeHistoryReset v s
  | 0x7030 => writeReapply w v s
  | 0x7100 => writeStartStep w v s
  | 0x7120 => writeRestoreControl v s
  | 0x8005 => writeAsymCal w v s
  | 0xA002 => writeAlertClear s
  | 0xA010 => writeSitout v s
  | 0xA020 => writeExtractControl v s
  | 0xB010 => findRecord w v s
  | 0xB030 => (0, requestFlush 0 0 false s)
  | 0xD010 => match sub with
    | 2 => writeFwData v s
    | 3 => writeFwFromFloor v s
    | 4 => writeFwControl v s
    | 6 => writeFuseSvn v s
    | _ => writeRevokeKey v s
  | 0xD020 => writeAttest s
  | 0xD030 => writeMeasure v s
  | 0xD040 => if sub = 3 then writeTokenData v s else writeDebugControl v s
  | 0xE100 => writeTgControl w v s
  | _ => (0x03000004, s)

/-- A write of the settings of the commit and of staging, which act at once (13 R458 to R461). -/
def writeControl (w : Writer) (idx sub v : Nat) (s : State) : Nat × State :=
  let k := keyOf idx sub 0
  if idx = 0x2010 then
    if commitBusy s then (0x04000001, s)
    else if sub ≤ 2 ∧ commitOwner w s = false then (0x04000003, s)
    else (0, touchStaging w (applyKey k v s))
  else if idx = 0x2011 ∧ sub = 3 then
    (0, { s with dict := { s.dict with stageMode := s.dict.stageMode.set (transportNum w.via) (v == 1) } })
  else (0, applyKey k v s)

/-- A write that has passed every check acts as its object's class says: a selector and a write-only object at once, a Commit-class
object through staging, and the others at once or through staging (13 R451, R455, R458). -/
def writeByClass (w : Writer) (r : ObjRow) (idx sub v : Nat) (s : State) : Nat × State :=
  let k := keyOf idx sub (selOf w.via idx sub s)
  if isSelector idx sub then (0, setSelector w.via idx v s)
  else if r.access = .wo then writeAction w idx sub v s
  else if 0x2000 ≤ idx ∧ idx ≤ 0x2FFF then writeControl w idx sub v s
  else if r.change = .commit ∨ nth false s.dict.stageMode (transportNum w.via) then stage w k v s
  else if r.change = .stopped then
    let stopped : Bool := match ownerFn idx with
      | some f => f == 15 || runOf f s == .stopped
      | none => true
    if stopped then applyValue k v s else (0x03000001, s)
  else applyValue k v s

/-- A write of `len` bytes: the abort code or 0, and the state it leaves (13 R449, R455 to R460, R475). -/
def writeObject (w : Writer) (idx sub len v : Nat) (s : State) : Nat × State :=
  match writeGate w idx sub len v s with
  | 0 => match findObj idx sub with
    | .ok r => writeByClass w r idx sub v s
    | .error c => (c, s)
  | c => (c, s)

/-! ### Reads -/

/-- Whether a request is taken at all (18 R585; 14 R499; 17 R563). -/
def requestTaken (w : Writer) (idx sub : Nat) (s : State) : Bool :=
  answers w s && (s.pow.phase != .recovery || inRecovery idx sub)

/-- The bytes a read returns, up to 240 from an offset of a domain; control space reads all ones where an object is absent or is
read through MCTP only (13 R448, R473, R476). -/
def readFrom (w : Writer) (idx sub off : Nat) (s : State) : Nat × List Byte × State :=
  if firmwareDown s then (0x05000003, [], s)
  else match findObj idx sub with
    | .error c => (c, if isBar w then List.replicate 8 0xFF#8 else [], s)
    | .ok r =>
      if isBar w ∧ r.size = 0 ∧ idx ≠ 0x1000 then (0x01000001, List.replicate 8 0xFF#8, s)
      else if r.access = .wo then (0x01000004, [], s)
      else
        let (bs, s) := readBytes w.via r idx sub s
        (0, if r.size = 0 then (bs.drop off).take 240 else bs, s)

/-- A read as one request of COMMAND `cmd`, answered. -/
def readRequest (w : Writer) (cmd tag idx sub off : Nat) (s : State) : State :=
  let (c, bs, s) := readFrom w idx sub off s
  answerAs w cmd tag c bs s

/-! ### The requests -/

/-- COMMAND of a request header (13 R473). -/
def dictCommand (h : BitVec 64) : Nat := fld h.toNat 63 56

/-- The header of a request from its operands: COMMAND and TAG, INDEX and SUB, reserved bits and LENGTH (13 R473). -/
def dictHeader (cmd : BitVec 16) (object length : BitVec 24) : BitVec 64 := cmd ++ object ++ length

/-- TAG of a request header (13 R473). -/
def dictTag (h : BitVec 64) : Nat := fld h.toNat 55 48

/-- INDEX of a request header (13 R473). -/
def dictIndex (h : BitVec 64) : Nat := fld h.toNat 47 32

/-- SUB of a request header (13 R473). -/
def dictSub (h : BitVec 64) : Nat := fld h.toNat 31 24

/-- The abort code of a header that is not a request of COMMAND `cmd` with `len` bytes of value, or 0: another COMMAND or a reserved
bit, or a LENGTH that is not what follows (13 R473, R477; log entry 23). -/
def headerCheck (cmd : Nat) (h : BitVec 64) (len : Nat) : Nat :=
  if dictCommand h ≠ cmd ∨ fld h.toNat 23 16 ≠ 0 then 0x02000002
  else if fld h.toNat 15 0 ≠ len then 0x01000005
  else 0

/-- A request with its header: not taken it waits, a header that is none of the command is refused, and any other is carried out
(13 R473). -/
def request (w : Writer) (cmd : Nat) (h : BitVec 64) (len : Nat) (taken : State → Bool) (f : State → State) (s : State) : State :=
  if taken s = false then s
  else if headerCheck cmd h len ≠ 0 then answerAs w (dictCommand h) (dictTag h) (headerCheck cmd h len) [] s
  else f s

/-- DICT_READ (13 R447, R450, R473, R475, R476). -/
def execDictRead (w : Writer) (cmd : BitVec 16) (object length : BitVec 24) (s : State) :
    Host.Outcome State Fault Refusal :=
  let h := dictHeader cmd object length
  runAny (request w 1 h 0 (requestTaken w (dictIndex h) (dictSub h))
    (readRequest w 1 (dictTag h) (dictIndex h) (dictSub h) 0)) s

/-- DICT_WRITE (13 R449, R455 to R460, R473, R475). -/
def execDictWrite (w : Writer) (cmd : BitVec 16) (object length : BitVec 24) (value : List Byte) (s : State) :
    Host.Outcome State Fault Refusal :=
  let h := dictHeader cmd object length
  runWrite (dictIndex h) (dictSub h) (request w 2 h value.length (requestTaken w (dictIndex h) (dictSub h)) (fun s =>
    let r := writeObject w (dictIndex h) (dictSub h) value.length (ofLeBytes value) s
    answerWith w (dictTag h) r.1 [] r.2)) s

/-- SELECT_READ: the value is written to sub 1 of the index and the subindex is then read, as one request (13 R473). -/
def execSelectRead (w : Writer) (cmd : BitVec 16) (object length : BitVec 24) (value : List Byte) (s : State) :
    Host.Outcome State Fault Refusal :=
  let h := dictHeader cmd object length
  runWrite (dictIndex h) 1 (request w 3 h value.length
    (fun s => requestTaken w (dictIndex h) (dictSub h) s && requestTaken w (dictIndex h) 1 s) (fun s =>
      let r := writeObject w (dictIndex h) 1 value.length (ofLeBytes value) s
      if r.1 = 0 then readRequest w 3 (dictTag h) (dictIndex h) (dictSub h) 0 r.2
      else answerAs w 3 (dictTag h) r.1 [] r.2)) s

/-- A domain: an object read in segments, all of size 0 but the node's name; one that does not exist is read as such (13 R448). -/
def isDomain (idx sub : Nat) : Bool :=
  match findObj idx sub with
  | .ok r => r.size == 0 && !(idx == 0x1000)
  | .error _ => true

/-- READ_SEGMENT: up to 240 bytes of a domain from a byte offset of 4 bytes (13 R448, R473). -/
def execReadSegment (w : Writer) (cmd : BitVec 16) (object length : BitVec 24) (value : List Byte) (s : State) :
    Host.Outcome State Fault Refusal :=
  let h := dictHeader cmd object length
  runAny (request w 4 h value.length (requestTaken w (dictIndex h) (dictSub h)) (fun s =>
    if value.length ≠ 4 ∨ isDomain (dictIndex h) (dictSub h) = false then answerAs w 4 (dictTag h) 0x01000005 [] s
    else readRequest w 4 (dictTag h) (dictIndex h) (dictSub h) (ofLeBytes value) s)) s

/-- OBJECT_WRITE: a write of an object's own length (13 R455). -/
def execObjectWrite (w : Writer) (idx sub : Nat) (v : BitVec 64) (s : State) : Host.Outcome State Fault Refusal :=
  runWrite idx sub (fun s =>
    if requestTaken w idx sub s = false then s
    else
      let r := writeObject w idx sub (objSize idx sub) v.toNat s
      answerWith w 0 r.1 [] r.2) s

/-- A response flit that is still to be placed in a frame; its route may have changed its CLASS (10 R363). -/
def isResponse (f g : Flit) : Bool := g.vl == 3 && g.kind == 4 && g.dest == f.dest && g.src == f.src && g.sectors == f.sectors

/-- A response waits to be sent. -/
def responseWaits (f : Flit) (s : State) : Bool :=
  (s.net.waitFlits.any fun p => isResponse f p.2) || s.links.any fun l => l.txq.any (isResponse f)

/-- A response that waits is dropped. -/
def dropResponse (f : Flit) (s : State) : State :=
  { s with
    net := { s.net with waitFlits := s.net.waitFlits.filter fun p => !isResponse f p.2 }
    links := s.links.map fun l => { l with txq := l.txq.filter fun g => !isResponse f g }
    dict := { s.dict with outbound := s.dict.outbound.filter fun p => p.1 != f } }

/-- The oldest response that has waited 2 ms. -/
def lateResponse (s : State) : Option (Flit × Nat) :=
  s.dict.outbound.find? fun p => decide (p.2 + 2000000 ≤ s.clk.ticks) && responseWaits p.1 s

/-- DICT_RESPONSE_DROP: the oldest response that has waited 2 ms to be sent over Cavo is dropped (19 R604). -/
def execDictResponseDrop (s : State) : Host.Outcome State Fault Refusal :=
  run (fun s => match lateResponse s with
    | some p => dropResponse p.1 s
    | none => s) s

end Sys2Proof.Machine
end

