-- ==== Sys2Proof/Machine/Dispatch.lean ====
section
/-! DEFINITION. The dispatch of a command to its meaning: one arm per constructor, each a direct call. -/

namespace Sys2Proof.Machine

/-- The effect of a command on everything but the queue of waiting commands. -/
def exec (i : Instr) (s : State) : Host.Outcome State Fault Refusal :=
  match i with
  | .powerOn slotId role perstN pwrFailN laserEn => Sys2Proof.Machine.execPowerOn slotId role perstN pwrFailN laserEn s
  | .perstNFall => Sys2Proof.Machine.execPerstNFall s
  | .perstNResetEnd slotId role => Sys2Proof.Machine.execPerstNResetEnd slotId role s
  | .functionLevelReset => Sys2Proof.Machine.execFunctionLevelReset s
  | .functionReset w f => Sys2Proof.Machine.execFunctionReset w f s
  | .pwrFailNFall => Sys2Proof.Machine.execPwrFailNFall s
  | .inputUndervoltage => Sys2Proof.Machine.execInputUndervoltage s
  | .inputOvervoltage rail => Sys2Proof.Machine.execInputOvervoltage rail s
  | .laserEnFall => Sys2Proof.Machine.execLaserEnFall s
  | .laserEnRise => Sys2Proof.Machine.execLaserEnRise s
  | .controllerBoot => Sys2Proof.Machine.execControllerBoot s
  | .memoryBringup retries errs => Sys2Proof.Machine.execMemoryBringup retries errs s
  | .opticsBringup => Sys2Proof.Machine.execOpticsBringup s
  | .cxlBringup result width rate => Sys2Proof.Machine.execCxlBringup result width rate s
  | .countLock => Sys2Proof.Machine.execCountLock s
  | .countWaitExpire => Sys2Proof.Machine.execCountWaitExpire s
  | .settingsApply => Sys2Proof.Machine.execSettingsApply s
  | .ready up => Sys2Proof.Machine.execReady up s
  | .tick slew => Sys2Proof.Machine.execTick slew s
  | .beatBoundary => Sys2Proof.Machine.execBeatBoundary s
  | .measureBoundary => Sys2Proof.Machine.execMeasureBoundary s
  | .countStep => Sys2Proof.Machine.execCountStep s
  | .countHoldRelease => Sys2Proof.Machine.execCountHoldRelease s
  | .ppsOutRise => Sys2Proof.Machine.execPpsOutRise s
  | .ppsOutFall => Sys2Proof.Machine.execPpsOutFall s
  | .timePpsInEdge filter freq => Sys2Proof.Machine.execTimePpsInEdge filter freq s
  | .todNextPps w v => Sys2Proof.Machine.execTodNextPps w v s
  | .ptpSync link flit valid domain residence bound filter freq => Sys2Proof.Machine.execPtpSync link flit valid domain residence bound filter freq s
  | .syncIntervalTimeout => Sys2Proof.Machine.execSyncIntervalTimeout s
  | .ppsMissingTimeout => Sys2Proof.Machine.execPpsMissingTimeout s
  | .holdoverLimit => Sys2Proof.Machine.execHoldoverLimit s
  | .ptpSyncSend => Sys2Proof.Machine.execPtpSyncSend s
  | .announceSend => Sys2Proof.Machine.execAnnounceSend s
  | .rejoinMeasure w v => Sys2Proof.Machine.execRejoinMeasure w v s
  | .lateFigureStart entry => Sys2Proof.Machine.execLateFigureStart entry s
  | .figureDeadline => Sys2Proof.Machine.execFigureDeadline s
  | .phaseApply => Sys2Proof.Machine.execPhaseApply s
  | .historyReset w v => Sys2Proof.Machine.execHistoryReset w v s
  | .mode core => Sys2Proof.Machine.execMode core s
  | .loadW core errs => Sys2Proof.Machine.execLoadW core errs s
  | .loadWComplete core array => Sys2Proof.Machine.execLoadWComplete core array s
  | .swap core => Sys2Proof.Machine.execSwap core s
  | .passSingle core errs => Sys2Proof.Machine.execPassSingle core errs s
  | .passOpen core errs => Sys2Proof.Machine.execPassOpen core errs s
  | .passContinue core errs => Sys2Proof.Machine.execPassContinue core errs s
  | .passClose core errs => Sys2Proof.Machine.execPassClose core errs s
  | .passPublish core array residueBad => Sys2Proof.Machine.execPassPublish core array residueBad s
  | .drain core => Sys2Proof.Machine.execDrain core s
  | .vopAdd core errs => Sys2Proof.Machine.execVopAdd core errs s
  | .vopMul core errs => Sys2Proof.Machine.execVopMul core errs s
  | .vopFma core errs => Sys2Proof.Machine.execVopFma core errs s
  | .vopMin core errs => Sys2Proof.Machine.execVopMin core errs s
  | .vopMax core errs => Sys2Proof.Machine.execVopMax core errs s
  | .vopSelect core errs => Sys2Proof.Machine.execVopSelect core errs s
  | .vopConvert core errs => Sys2Proof.Machine.execVopConvert core errs s
  | .vopExp2 core errs => Sys2Proof.Machine.execVopExp2 core errs s
  | .vopLog2 core errs => Sys2Proof.Machine.execVopLog2 core errs s
  | .vopRcp core errs => Sys2Proof.Machine.execVopRcp core errs s
  | .vopRsqrt core errs => Sys2Proof.Machine.execVopRsqrt core errs s
  | .exactSumVop core errs => Sys2Proof.Machine.execExactSumVop core errs s
  | .exactDot core errs => Sys2Proof.Machine.execExactDot core errs s
  | .exactSumsq core errs => Sys2Proof.Machine.execExactSumsq core errs s
  | .cadd core errs => Sys2Proof.Machine.execCadd core errs s
  | .vopComplete core residueBad => Sys2Proof.Machine.execVopComplete core residueBad s
  | .streamStart core => Sys2Proof.Machine.execStreamStart core s
  | .streamStop core => Sys2Proof.Machine.execStreamStop core s
  | .cwait core => Sys2Proof.Machine.execCwait core s
  | .fwait core => Sys2Proof.Machine.execFwait core s
  | .waitTimeout core => Sys2Proof.Machine.execWaitTimeout core s
  | .flag core => Sys2Proof.Machine.execFlag core s
  | .sync core => Sys2Proof.Machine.execSync core s
  | .loop core => Sys2Proof.Machine.execLoop core s
  | .branch core => Sys2Proof.Machine.execBranch core s
  | .seqEnd core => Sys2Proof.Machine.execSeqEnd core s
  | .preemptionDone core => Sys2Proof.Machine.execPreemptionDone core s
  | .taskResume q cid => Sys2Proof.Machine.execTaskResume q cid s
  | .clampEngage watts => Sys2Proof.Machine.execClampEngage watts s
  | .clampRelease watts => Sys2Proof.Machine.execClampRelease watts s
  | .apFor core engine => Sys2Proof.Machine.execApFor core engine s
  | .apNext core engine => Sys2Proof.Machine.execApNext core engine s
  | .apEmit core engine => Sys2Proof.Machine.execApEmit core engine s
  | .apAdd core engine => Sys2Proof.Machine.execApAdd core engine s
  | .apEnd core engine => Sys2Proof.Machine.execApEnd core engine s
  | .streamFarRequest core engine count => Sys2Proof.Machine.execStreamFarRequest core engine count s
  | .sectorArrival core engine pos first again => Sys2Proof.Machine.execSectorArrival core engine pos first again s
  | .streamWriteSend core engine => Sys2Proof.Machine.execStreamWriteSend core engine s
  | .writeAccepted core engine => Sys2Proof.Machine.execWriteAccepted core engine s
  | .streamHeldRelease core engine => Sys2Proof.Machine.execStreamHeldRelease core engine s
  | .arbiterGrant arb room raised done => Sys2Proof.Machine.execArbiterGrant arb room raised done s
  | .readRequest unit word => Sys2Proof.Machine.execReadRequest unit word s
  | .writeRequest unit word payload => Sys2Proof.Machine.execWriteRequest unit word payload s
  | .writePartial unit word mask payload => Sys2Proof.Machine.execWritePartial unit word mask payload s
  | .updateWork tag set_ work errs => Sys2Proof.Machine.execUpdateWork tag set_ work errs s
  | .regRead unit word => Sys2Proof.Machine.execRegRead unit word s
  | .regWrite unit word => Sys2Proof.Machine.execRegWrite unit word s
  | .wcWindowExpire unit sector => Sys2Proof.Machine.execWcWindowExpire unit sector s
  | .refresh pc issued => Sys2Proof.Machine.execRefresh pc issued s
  | .retrainChannel unit => Sys2Proof.Machine.execRetrainChannel unit s
  | .retrainHoldEnd unit ok => Sys2Proof.Machine.execRetrainHoldEnd unit ok s
  | .marginCheck unit margin => Sys2Proof.Machine.execMarginCheck unit margin s
  | .urgentRetrain unit => Sys2Proof.Machine.execUrgentRetrain unit s
  | .patrolRead slow first again => Sys2Proof.Machine.execPatrolRead slow first again s
  | .patrolPeriodEnd slow => Sys2Proof.Machine.execPatrolPeriodEnd slow s
  | .memoryTempReading unit temp => Sys2Proof.Machine.execMemoryTempReading unit temp s
  | .thermalHotExit unit => Sys2Proof.Machine.execThermalHotExit unit s
  | .requestSilentTimeout unit => Sys2Proof.Machine.execRequestSilentTimeout unit s
  | .bufferLinkReplay buffer => Sys2Proof.Machine.execBufferLinkReplay buffer s
  | .replayFailTimeout buffer => Sys2Proof.Machine.execReplayFailTimeout buffer s
  | .binBoundary => Sys2Proof.Machine.execBinBoundary s
  | .tgStart w => Sys2Proof.Machine.execTgStart w s
  | .tgStop w => Sys2Proof.Machine.execTgStop w s
  | .tgRunEnd unit errs => Sys2Proof.Machine.execTgRunEnd unit errs s
  | .create q entry => Sys2Proof.Machine.execCreate q entry s
  | .destroy q entry => Sys2Proof.Machine.execDestroy q entry s
  | .move q entry => Sys2Proof.Machine.execMove q entry s
  | .dirReturn q entry => Sys2Proof.Machine.execDirReturn q entry s
  | .vacate q entry => Sys2Proof.Machine.execVacate q entry s
  | .reinstate q entry => Sys2Proof.Machine.execReinstate q entry s
  | .clearDamage q entry => Sys2Proof.Machine.execClearDamage q entry s
  | .setAttr q entry => Sys2Proof.Machine.execSetAttr q entry s
  | .moverStart tensor => Sys2Proof.Machine.execMoverStart tensor s
  | .moverDone tensor => Sys2Proof.Machine.execMoverDone tensor s
  | .setBegin set_ => Sys2Proof.Machine.execSetBegin set_ s
  | .updateStepStart unit => Sys2Proof.Machine.execUpdateStepStart unit s
  | .updateStepEnd unit => Sys2Proof.Machine.execUpdateStepEnd unit s
  | .updFma unit => Sys2Proof.Machine.execUpdFma unit s
  | .updAdd unit => Sys2Proof.Machine.execUpdAdd unit s
  | .updMul unit => Sys2Proof.Machine.execUpdMul unit s
  | .updDiv unit => Sys2Proof.Machine.execUpdDiv unit s
  | .updSqrt unit => Sys2Proof.Machine.execUpdSqrt unit s
  | .updRsqrt unit => Sys2Proof.Machine.execUpdRsqrt unit s
  | .updMin unit => Sys2Proof.Machine.execUpdMin unit s
  | .updMax unit => Sys2Proof.Machine.execUpdMax unit s
  | .sel unit => Sys2Proof.Machine.execSel unit s
  | .cvt unit => Sys2Proof.Machine.execCvt unit s
  | .ld unit => Sys2Proof.Machine.execLd unit s
  | .st unit => Sys2Proof.Machine.execSt unit s
  | .ldg unit => Sys2Proof.Machine.execLdg unit s
  | .ldd unit => Sys2Proof.Machine.execLdd unit s
  | .updEmit unit => Sys2Proof.Machine.execUpdEmit unit s
  | .reapply w v => Sys2Proof.Machine.execReapply w v s
  | .startStep w v => Sys2Proof.Machine.execStartStep w v s
  | .bowMarginExpire tag => Sys2Proof.Machine.execBowMarginExpire tag s
  | .bowResult tag => Sys2Proof.Machine.execBowResult tag s
  | .restoreDonate w => Sys2Proof.Machine.execRestoreDonate w s
  | .restoreReceive w => Sys2Proof.Machine.execRestoreReceive w s
  | .seedMirror w => Sys2Proof.Machine.execSeedMirror w s
  | .receiveMirror w => Sys2Proof.Machine.execReceiveMirror w s
  | .restoreCancel w => Sys2Proof.Machine.execRestoreCancel w s
  | .digestComputed entry tensor partner => Sys2Proof.Machine.execDigestComputed entry tensor partner s
  | .frameReceive link slot flits fecBad corrected => Sys2Proof.Machine.execFrameReceive link slot flits fecBad corrected s
  | .flitTransmit link => Sys2Proof.Machine.execFlitTransmit link s
  | .linkTrainingComplete link farNode farLink rtt farBuffer => Sys2Proof.Machine.execLinkTrainingComplete link farNode farLink rtt farBuffer s
  | .trainingTimeout link => Sys2Proof.Machine.execTrainingTimeout link s
  | .lossOfLight link => Sys2Proof.Machine.execLossOfLight link s
  | .alignmentLost link => Sys2Proof.Machine.execAlignmentLost link s
  | .scrcTimeout link => Sys2Proof.Machine.execScrcTimeout link s
  | .holdEnd link => Sys2Proof.Machine.execHoldEnd link s
  | .holdTimeout link => Sys2Proof.Machine.execHoldTimeout link s
  | .ringCalLink link => Sys2Proof.Machine.execRingCalLink link s
  | .ringMaxAgeExpire engine => Sys2Proof.Machine.execRingMaxAgeExpire engine s
  | .linkRetryTimer link => Sys2Proof.Machine.execLinkRetryTimer link s
  | .linkUsableTimer link => Sys2Proof.Machine.execLinkUsableTimer link s
  | .laserBiasCheck engine wavelength bias holds => Sys2Proof.Machine.execLaserBiasCheck engine wavelength bias holds s
  | .linkDisable w link => Sys2Proof.Machine.execLinkDisable w link s
  | .linkEnable w link => Sys2Proof.Machine.execLinkEnable w link s
  | .linkRetrain w link => Sys2Proof.Machine.execLinkRetrain w link s
  | .asymCal w => Sys2Proof.Machine.execAsymCal w s
  | .asymCalEnd link bothLocked asym => Sys2Proof.Machine.execAsymCalEnd link bothLocked asym s
  | .partnerLanding link flit => Sys2Proof.Machine.execPartnerLanding link flit s
  | .restore link flit => Sys2Proof.Machine.execRestore link flit s
  | .seed link flit => Sys2Proof.Machine.execSeed link flit s
  | .repair link flit => Sys2Proof.Machine.execRepair link flit s
  | .extraction link flit => Sys2Proof.Machine.execExtraction link flit s
  | .pointToPointWrite link flit => Sys2Proof.Machine.execPointToPointWrite link flit s
  | .dataFlit link flit => Sys2Proof.Machine.execDataFlit link flit s
  | .opened link flit => Sys2Proof.Machine.execOpened link flit s
  | .complete link flit => Sys2Proof.Machine.execComplete link flit s
  | .refused link flit => Sys2Proof.Machine.execRefused link flit s
  | .appliedReport link flit => Sys2Proof.Machine.execAppliedReport link flit s
  | .syncOffer link flit => Sys2Proof.Machine.execSyncOffer link flit s
  | .syncAnswer link flit => Sys2Proof.Machine.execSyncAnswer link flit s
  | .reduce link flit => Sys2Proof.Machine.execReduce link flit s
  | .record link flit => Sys2Proof.Machine.execRecord link flit s
  | .plain link flit => Sys2Proof.Machine.execPlain link flit s
  | .combine link flit => Sys2Proof.Machine.execCombine link flit s
  | .roundStart tag => Sys2Proof.Machine.execRoundStart tag s
  | .collectiveComplete tag => Sys2Proof.Machine.execCollectiveComplete tag s
  | .abortToken link flit => Sys2Proof.Machine.execAbortToken link flit s
  | .collectiveLocalFault tag => Sys2Proof.Machine.execCollectiveLocalFault tag s
  | .stagedFlitExpire tag => Sys2Proof.Machine.execStagedFlitExpire tag s
  | .keptTokenExpire tag => Sys2Proof.Machine.execKeptTokenExpire tag s
  | .cxlMemRead hpa cache first again => Sys2Proof.Machine.execCxlMemRead hpa cache first again s
  | .cxlMemWrite hpa data mask cache => Sys2Proof.Machine.execCxlMemWrite hpa data mask cache s
  | .biSnoopTimeout line => Sys2Proof.Machine.execBiSnoopTimeout line s
  | .hostRequestLate => Sys2Proof.Machine.execHostRequestLate s
  | .sqDoorbell offset tail => Sys2Proof.Machine.execSqDoorbell offset tail s
  | .cqHeadDoorbell offset head => Sys2Proof.Machine.execCqHeadDoorbell offset head s
  | .task q entry => Sys2Proof.Machine.execTask q entry s
  | .barrier q entry => Sys2Proof.Machine.execBarrier q entry s
  | .taskBegin q cid => Sys2Proof.Machine.execTaskBegin q cid s
  | .completionDrain q => Sys2Proof.Machine.execCompletionDrain q s
  | .coalesceTimeout q => Sys2Proof.Machine.execCoalesceTimeout q s
  | .cxlLaneFailure lanes => Sys2Proof.Machine.execCxlLaneFailure lanes s
  | .hostLinkDown => Sys2Proof.Machine.execHostLinkDown s
  | .hostLinkUp width rate => Sys2Proof.Machine.execHostLinkUp width rate s
  | .linkdownCancel => Sys2Proof.Machine.execLinkdownCancel s
  | .hdmDecoderCommit decoder base size dpa ways => Sys2Proof.Machine.execHdmDecoderCommit decoder base size dpa ways s
  | .dictRead w cmd object length => Sys2Proof.Machine.execDictRead w cmd object length s
  | .dictWrite w cmd object length value => Sys2Proof.Machine.execDictWrite w cmd object length value s
  | .selectRead w cmd object length value => Sys2Proof.Machine.execSelectRead w cmd object length value s
  | .readSegment w cmd object length value => Sys2Proof.Machine.execReadSegment w cmd object length value s
  | .objectWrite w idx sub v => Sys2Proof.Machine.execObjectWrite w idx sub v s
  | .commitStart w => Sys2Proof.Machine.execCommitStart w s
  | .arm w => Sys2Proof.Machine.execArm w s
  | .disarm w => Sys2Proof.Machine.execDisarm w s
  | .discard w => Sys2Proof.Machine.execDiscard w s
  | .validateOnly w => Sys2Proof.Machine.execValidateOnly w s
  | .commitTimeReached => Sys2Proof.Machine.execCommitTimeReached s
  | .commitSafeBoundary => Sys2Proof.Machine.execCommitSafeBoundary s
  | .commitTimeoutExpire => Sys2Proof.Machine.execCommitTimeoutExpire s
  | .stageIdleExpire => Sys2Proof.Machine.execStageIdleExpire s
  | .runControlStart w f => Sys2Proof.Machine.execRunControlStart w f s
  | .runControlStop w f => Sys2Proof.Machine.execRunControlStop w f s
  | .functionSafeBoundary f => Sys2Proof.Machine.execFunctionSafeBoundary f s
  | .saveNow w ok => Sys2Proof.Machine.execSaveNow w ok s
  | .saveVoid w => Sys2Proof.Machine.execSaveVoid w s
  | .savedImageWrite ok => Sys2Proof.Machine.execSavedImageWrite ok s
  | .handlerEntry => Sys2Proof.Machine.execHandlerEntry s
  | .handlerEntryDone => Sys2Proof.Machine.execHandlerEntryDone s
  | .sitoutPowerDown => Sys2Proof.Machine.execSitoutPowerDown s
  | .sitoutRequest w v => Sys2Proof.Machine.execSitoutRequest w v s
  | .watchdogExpire => Sys2Proof.Machine.execWatchdogExpire s
  | .firmwareRestartDone => Sys2Proof.Machine.execFirmwareRestartDone s
  | .controlParityError array => Sys2Proof.Machine.execControlParityError array s
  | .dieNetworkHeaderFail node => Sys2Proof.Machine.execDieNetworkHeaderFail node s
  | .tcxoStopped => Sys2Proof.Machine.execTcxoStopped s
  | .extractStart w => Sys2Proof.Machine.execExtractStart w s
  | .extractCancel w => Sys2Proof.Machine.execExtractCancel w s
  | .extractSector => Sys2Proof.Machine.execExtractSector s
  | .alertClear w => Sys2Proof.Machine.execAlertClear w s
  | .recordUpdate => Sys2Proof.Machine.execRecordUpdate s
  | .flush w => Sys2Proof.Machine.execFlush w s
  | .flushSnapshot => Sys2Proof.Machine.execFlushSnapshot s
  | .flushComplete ok => Sys2Proof.Machine.execFlushComplete ok s
  | .slotErase => Sys2Proof.Machine.execSlotErase s
  | .find w v => Sys2Proof.Machine.execFind w v s
  | .telemetrySample volts amps watts engines => Sys2Proof.Machine.execTelemetrySample volts amps watts engines s
  | .powerSample watts => Sys2Proof.Machine.execPowerSample watts s
  | .throttlePeriod gap activityLow => Sys2Proof.Machine.execThrottlePeriod gap activityLow s
  | .opRequestFull w => Sys2Proof.Machine.execOpRequestFull w s
  | .opRequestSurge w => Sys2Proof.Machine.execOpRequestSurge w s
  | .opRequestReduced w => Sys2Proof.Machine.execOpRequestReduced w s
  | .coreRailRaised => Sys2Proof.Machine.execCoreRailRaised s
  | .pointClockSwitch => Sys2Proof.Machine.execPointClockSwitch s
  | .surgeMaxContinuous => Sys2Proof.Machine.execSurgeMaxContinuous s
  | .hotspotReading temp gap => Sys2Proof.Machine.execHotspotReading temp gap s
  | .hotspotSitout temp => Sys2Proof.Machine.execHotspotSitout temp s
  | .hotspotHalt => Sys2Proof.Machine.execHotspotHalt s
  | .flowEstimate watts inlet outlet valid => Sys2Proof.Machine.execFlowEstimate watts inlet outlet valid s
  | .voltageOutOfRange volts => Sys2Proof.Machine.execVoltageOutOfRange volts s
  | .opticalEngineOvertemp engine => Sys2Proof.Machine.execOpticalEngineOvertemp engine s
  | .wearCharge temp => Sys2Proof.Machine.execWearCharge temp s
  | .ledgerWrite failures => Sys2Proof.Machine.execLedgerWrite failures s
  | .fwData w v => Sys2Proof.Machine.execFwData w v s
  | .fwFromFloor w v => Sys2Proof.Machine.execFwFromFloor w v s
  | .fwVerify w => Sys2Proof.Machine.execFwVerify w s
  | .fwClearPending w => Sys2Proof.Machine.execFwClearPending w s
  | .fuseSvn w v => Sys2Proof.Machine.execFuseSvn w v s
  | .revokeKey w k => Sys2Proof.Machine.execRevokeKey w k s
  | .attest w => Sys2Proof.Machine.execAttest w s
  | .reportBuilt => Sys2Proof.Machine.execReportBuilt s
  | .measureTensor w v => Sys2Proof.Machine.execMeasureTensor w v s
  | .measurementDone => Sys2Proof.Machine.execMeasurementDone s
  | .tokenData w v => Sys2Proof.Machine.execTokenData w v s
  | .debugSubmit w => Sys2Proof.Machine.execDebugSubmit w s
  | .debugClose w => Sys2Proof.Machine.execDebugClose w s
  | .freeze w v => Sys2Proof.Machine.execFreeze w v s
  | .powerRemoved => Sys2Proof.Machine.execPowerRemoved s
  | .pwrFailNRise => Sys2Proof.Machine.execPwrFailNRise s
  | .unitInternalFault unit => Sys2Proof.Machine.execUnitInternalFault unit s
  | .opticalEngineFault engine => Sys2Proof.Machine.execOpticalEngineFault engine s
  | .opticalEngineTempReading engine temp => Sys2Proof.Machine.execOpticalEngineTempReading engine temp s
  | .backInvalidateAnswer line data => Sys2Proof.Machine.execBackInvalidateAnswer line data s
  | .dictResponseDrop => Sys2Proof.Machine.execDictResponseDrop s
  | .dynamicAddressAssignment addr => Sys2Proof.Machine.execDynamicAddressAssignment addr s

end Sys2Proof.Machine
end

