-- ==== Sys2Proof/Machine/Step.lean ====
section
/-! DEFINITION. One step of the block: the command at the front of the queue, or idling on an empty queue
(log entry 2). -/

namespace Sys2Proof.Machine

open Sys2Proof

/-- The state that command `c` at the front of the queue runs on: the queue's rest waits. -/
def State.withQueue (s : State) (q : List Instr) : State := { s with pending := q }

/-- The front command leaves the queue and takes effect; with no command waiting the block idles. -/
def step (s : State) : Host.Outcome State Fault Refusal :=
  match s.pending with
  | [] => .next s
  | c :: rest => exec c (s.withQueue rest)

/-- The state with the command a word spells put in front of its queue; unchanged where the word spells none. -/
def State.withFetchWord (s : State) (nbits w : Nat) : State :=
  match decodeTableWord nbits w with
  | some c => s.withQueue (c :: s.pending)
  | none => s

end Sys2Proof.Machine
end

