-- ==== Sys2Proof/WellFormed.lean ====
section
/-! DEFINITION. When a command is well formed: every operand that numbers a core, queue, link, unit, object or entry is in the
range the spec gives it. -/

namespace Sys2Proof

/-- A flit of at most eight sectors (10 R347). -/
def flitWf (f : Flit) : Bool := decide (f.sectors.length ≤ 8)

/-- A writer: a Cavo source is a 24-bit NODE_ID (10 R347; 13 R475). -/
def writerWf (w : Writer) : Bool := decide (w.src < 2 ^ 24)

/-- The operands of a command are in range: 16 cores of 4 arrays and 4 stream engines (00, 04), 16 queue pairs (12 R424), 64
links and 8 optical engines (00, 10), 304 memory units and 560 pseudo-channels (06, 07), 262 update units (08), 2,048 sets of
two parts (08), 512 Caller entries and 8,192 tags (02 R46, 11 R391), 7 functions (13 R454), 65,536 by 256 objects (13). -/
def Instr.wf : Instr → Bool
  | .powerOn _ _ _ _ _ => true
  | .perstNFall => true
  | .perstNResetEnd _ _ => true
  | .functionLevelReset => true
  | .functionReset w f => writerWf w && decide (f < 7)
  | .pwrFailNFall => true
  | .inputUndervoltage => true
  | .inputOvervoltage _ => true
  | .laserEnFall => true
  | .laserEnRise => true
  | .controllerBoot => true
  | .memoryBringup retries errs =>
      retries.all (fun p => decide (p.1 < 304)) && errs.all (fun p => decide (p.1 < 304 ∧ p.2.1 < 2 ^ 29))
  | .opticsBringup => true
  | .cxlBringup result _ _ => decide (result < 3)
  | .countLock => true
  | .countWaitExpire => true
  | .settingsApply => true
  | .ready _ => true
  | .tick _ => true
  | .beatBoundary => true
  | .measureBoundary => true
  | .countStep => true
  | .countHoldRelease => true
  | .ppsOutRise => true
  | .ppsOutFall => true
  | .timePpsInEdge _ _ => true
  | .todNextPps w _ => writerWf w
  | .ptpSync link flit _ domain _ _ _ _ => decide (link < 64) && decide (domain < 256) && flitWf flit
  | .syncIntervalTimeout => true
  | .ppsMissingTimeout => true
  | .holdoverLimit => true
  | .ptpSyncSend => true
  | .announceSend => true
  | .rejoinMeasure w _ => writerWf w
  | .lateFigureStart entry => decide (entry < 512)
  | .figureDeadline => true
  | .phaseApply => true
  | .historyReset w _ => writerWf w
  | .mode core => decide (core < 16)
  | .loadW core _ => decide (core < 16)
  | .loadWComplete core array => decide (core < 16) && decide (array < 4)
  | .swap core => decide (core < 16)
  | .passSingle core _ => decide (core < 16)
  | .passOpen core _ => decide (core < 16)
  | .passContinue core _ => decide (core < 16)
  | .passClose core _ => decide (core < 16)
  | .passPublish core array _ => decide (core < 16) && decide (array < 4)
  | .drain core => decide (core < 16)
  | .vopAdd core _ => decide (core < 16)
  | .vopMul core _ => decide (core < 16)
  | .vopFma core _ => decide (core < 16)
  | .vopMin core _ => decide (core < 16)
  | .vopMax core _ => decide (core < 16)
  | .vopSelect core _ => decide (core < 16)
  | .vopConvert core _ => decide (core < 16)
  | .vopExp2 core _ => decide (core < 16)
  | .vopLog2 core _ => decide (core < 16)
  | .vopRcp core _ => decide (core < 16)
  | .vopRsqrt core _ => decide (core < 16)
  | .exactSumVop core _ => decide (core < 16)
  | .exactDot core _ => decide (core < 16)
  | .exactSumsq core _ => decide (core < 16)
  | .cadd core _ => decide (core < 16)
  | .vopComplete core _ => decide (core < 16)
  | .streamStart core => decide (core < 16)
  | .streamStop core => decide (core < 16)
  | .cwait core => decide (core < 16)
  | .fwait core => decide (core < 16)
  | .waitTimeout core => decide (core < 16)
  | .flag core => decide (core < 16)
  | .sync core => decide (core < 16)
  | .loop core => decide (core < 16)
  | .branch core => decide (core < 16)
  | .seqEnd core => decide (core < 16)
  | .preemptionDone core => decide (core < 16)
  | .taskResume q cid => decide (q < 16) && decide (cid < 65536)
  | .clampEngage _ => true
  | .clampRelease _ => true
  | .apFor core engine => decide (core < 16) && decide (engine < 4)
  | .apNext core engine => decide (core < 16) && decide (engine < 4)
  | .apEmit core engine => decide (core < 16) && decide (engine < 4)
  | .apAdd core engine => decide (core < 16) && decide (engine < 4)
  | .apEnd core engine => decide (core < 16) && decide (engine < 4)
  | .streamFarRequest core engine _ => decide (core < 16) && decide (engine < 4)
  | .sectorArrival core engine _ _ _ => decide (core < 16) && decide (engine < 4)
  | .streamWriteSend core engine => decide (core < 16) && decide (engine < 4)
  | .writeAccepted core engine => decide (core < 16) && decide (engine < 4)
  | .streamHeldRelease core engine => decide (core < 16) && decide (engine < 4)
  | .arbiterGrant arb _ _ _ => decide (arb < 400)
  | .readRequest unit _ => decide (unit < 304)
  | .writeRequest unit _ _ => decide (unit < 304)
  | .writePartial unit _ _ _ => decide (unit < 304)
  | .updateWork tag set_ _ _ => decide (tag < 256) && decide (set_ < 2048)
  | .regRead unit _ => decide (unit < 304)
  | .regWrite unit _ => decide (unit < 304)
  | .wcWindowExpire unit sector => decide (unit < 304) && decide (sector < 2 ^ 59)
  | .refresh pc _ => decide (pc < 560)
  | .retrainChannel unit => decide (unit < 304)
  | .retrainHoldEnd unit _ => decide (unit < 304)
  | .marginCheck unit _ => decide (unit < 304)
  | .urgentRetrain unit => decide (unit < 304)
  | .patrolRead _ _ _ => true
  | .patrolPeriodEnd _ => true
  | .memoryTempReading unit _ => decide (unit < 20)
  | .thermalHotExit unit => decide (unit < 20)
  | .requestSilentTimeout unit => decide (unit < 14)
  | .bufferLinkReplay buffer => decide (buffer < 6)
  | .replayFailTimeout buffer => decide (buffer < 6)
  | .binBoundary => true
  | .tgStart w => writerWf w
  | .tgStop w => writerWf w
  | .tgRunEnd unit _ => decide (unit < 304)
  | .create q _ => decide (q < 16)
  | .destroy q _ => decide (q < 16)
  | .move q _ => decide (q < 16)
  | .dirReturn q _ => decide (q < 16)
  | .vacate q _ => decide (q < 16)
  | .reinstate q _ => decide (q < 16)
  | .clearDamage q _ => decide (q < 16)
  | .setAttr q _ => decide (q < 16)
  | .moverStart tensor => decide (tensor < 2 ^ 24)
  | .moverDone tensor => decide (tensor < 2 ^ 24)
  | .setBegin set_ => decide (set_ < 2048)
  | .updateStepStart unit => decide (unit < 262)
  | .updateStepEnd unit => decide (unit < 262)
  | .updFma unit => decide (unit < 262)
  | .updAdd unit => decide (unit < 262)
  | .updMul unit => decide (unit < 262)
  | .updDiv unit => decide (unit < 262)
  | .updSqrt unit => decide (unit < 262)
  | .updRsqrt unit => decide (unit < 262)
  | .updMin unit => decide (unit < 262)
  | .updMax unit => decide (unit < 262)
  | .sel unit => decide (unit < 262)
  | .cvt unit => decide (unit < 262)
  | .ld unit => decide (unit < 262)
  | .st unit => decide (unit < 262)
  | .ldg unit => decide (unit < 262)
  | .ldd unit => decide (unit < 262)
  | .updEmit unit => decide (unit < 262)
  | .reapply w _ => writerWf w
  | .startStep w _ => writerWf w
  | .bowMarginExpire tag => decide (tag < 8192)
  | .bowResult tag => decide (tag < 8192)
  | .restoreDonate w => writerWf w
  | .restoreReceive w => writerWf w
  | .seedMirror w => writerWf w
  | .receiveMirror w => writerWf w
  | .restoreCancel w => writerWf w
  | .digestComputed entry tensor _ => decide (entry < 8192) && decide (tensor < 2 ^ 24)
  | .frameReceive link _ flits _ corrected => decide (link < 64) && decide (corrected ≤ 64) && decide (flits.length ≤ 135) && flits.all flitWf
  | .flitTransmit link => decide (link < 64)
  | .linkTrainingComplete link farNode farLink _ _ => decide (link < 64) && decide (farNode < 2 ^ 24) && decide (farLink < 64)
  | .trainingTimeout link => decide (link < 64)
  | .lossOfLight link => decide (link < 64)
  | .alignmentLost link => decide (link < 64)
  | .scrcTimeout link => decide (link < 64)
  | .holdEnd link => decide (link < 64)
  | .holdTimeout link => decide (link < 64)
  | .ringCalLink link => decide (link < 64)
  | .ringMaxAgeExpire engine => decide (engine < 8)
  | .linkRetryTimer link => decide (link < 64)
  | .linkUsableTimer link => decide (link < 64)
  | .laserBiasCheck engine wavelength _ _ => decide (engine < 8) && decide (wavelength < 2)
  | .linkDisable w link => writerWf w && decide (link < 64)
  | .linkEnable w link => writerWf w && decide (link < 64)
  | .linkRetrain w link => writerWf w && decide (link < 64)
  | .asymCal w => writerWf w
  | .asymCalEnd link _ _ => decide (link < 64)
  | .partnerLanding link flit => decide (link < 64) && flitWf flit
  | .restore link flit => decide (link < 64) && flitWf flit
  | .seed link flit => decide (link < 64) && flitWf flit
  | .repair link flit => decide (link < 64) && flitWf flit
  | .extraction link flit => decide (link < 64) && flitWf flit
  | .pointToPointWrite link flit => decide (link < 64) && flitWf flit
  | .dataFlit link flit => decide (link < 64) && flitWf flit
  | .opened link flit => decide (link < 64) && flitWf flit
  | .complete link flit => decide (link < 64) && flitWf flit
  | .refused link flit => decide (link < 64) && flitWf flit
  | .appliedReport link flit => decide (link < 64) && flitWf flit
  | .syncOffer link flit => decide (link < 64) && flitWf flit
  | .syncAnswer link flit => decide (link < 64) && flitWf flit
  | .reduce link flit => decide (link < 64) && flitWf flit
  | .record link flit => decide (link < 64) && flitWf flit
  | .plain link flit => decide (link < 64) && flitWf flit
  | .combine link flit => decide (link < 64) && flitWf flit
  | .roundStart tag => decide (tag < 8192)
  | .collectiveComplete tag => decide (tag < 8192)
  | .abortToken link flit => decide (link < 64) && flitWf flit
  | .collectiveLocalFault tag => decide (tag < 8192)
  | .stagedFlitExpire tag => decide (tag < 8192)
  | .keptTokenExpire tag => decide (tag < 8192)
  | .cxlMemRead _ cache _ _ => decide (cache < 3)
  | .cxlMemWrite _ _ _ cache => decide (cache < 3)
  | .biSnoopTimeout line => decide (line < 2 ^ 58)
  | .hostRequestLate => true
  | .sqDoorbell offset tail => decide (0x1000 ≤ offset ∧ offset < 0x1080) && offset % 8 == 0 && decide (tail < 65536)
  | .cqHeadDoorbell offset head => decide (0x1004 ≤ offset ∧ offset < 0x1084) && offset % 8 == 4 && decide (head < 65536)
  | .task q _ => decide (q < 16)
  | .barrier q _ => decide (q < 16)
  | .taskBegin q cid => decide (q < 16) && decide (cid < 65536)
  | .completionDrain q => decide (q < 16)
  | .coalesceTimeout q => decide (q < 16)
  | .cxlLaneFailure _ => true
  | .hostLinkDown => true
  | .hostLinkUp _ _ => true
  | .linkdownCancel => true
  | .hdmDecoderCommit i _ _ _ _ => decide (i < 4)
  | .dictRead w cmd _ _ => writerWf w && !([2, 3, 4].contains (cmd.toNat / 256))
  | .dictWrite w cmd _ _ _ => writerWf w && cmd.toNat / 256 == 2
  | .selectRead w cmd _ _ _ => writerWf w && cmd.toNat / 256 == 3
  | .readSegment w cmd _ _ _ => writerWf w && cmd.toNat / 256 == 4
  | .objectWrite w idx sub _ => writerWf w && decide (idx < 65536) && decide (sub < 256)
  | .commitStart w => writerWf w
  | .arm w => writerWf w
  | .disarm w => writerWf w
  | .discard w => writerWf w
  | .validateOnly w => writerWf w
  | .commitTimeReached => true
  | .commitSafeBoundary => true
  | .commitTimeoutExpire => true
  | .stageIdleExpire => true
  | .runControlStart w f => writerWf w && decide (f < 7)
  | .runControlStop w f => writerWf w && decide (f < 7)
  | .functionSafeBoundary f => decide (f < 7)
  | .saveNow w _ => writerWf w
  | .saveVoid w => writerWf w
  | .savedImageWrite _ => true
  | .handlerEntry => true
  | .handlerEntryDone => true
  | .sitoutPowerDown => true
  | .sitoutRequest w _ => writerWf w
  | .watchdogExpire => true
  | .firmwareRestartDone => true
  | .controlParityError array => decide (array < 65536)
  | .dieNetworkHeaderFail _ => true
  | .tcxoStopped => true
  | .extractStart w => writerWf w
  | .extractCancel w => writerWf w
  | .extractSector => true
  | .alertClear w => writerWf w
  | .recordUpdate => true
  | .flush w => writerWf w
  | .flushSnapshot => true
  | .flushComplete _ => true
  | .slotErase => true
  | .find w _ => writerWf w
  | .telemetrySample _ _ _ engines => decide (engines.length = 8)
  | .powerSample _ => true
  | .throttlePeriod _ _ => true
  | .opRequestFull w => writerWf w
  | .opRequestSurge w => writerWf w
  | .opRequestReduced w => writerWf w
  | .coreRailRaised => true
  | .pointClockSwitch => true
  | .surgeMaxContinuous => true
  | .hotspotReading _ _ => true
  | .hotspotSitout _ => true
  | .hotspotHalt => true
  | .flowEstimate _ _ _ _ => true
  | .voltageOutOfRange _ => true
  | .opticalEngineOvertemp engine => decide (engine < 8)
  | .wearCharge _ => true
  | .ledgerWrite _ => true
  | .fwData w _ => writerWf w
  | .fwFromFloor w _ => writerWf w
  | .fwVerify w => writerWf w
  | .fwClearPending w => writerWf w
  | .fuseSvn w _ => writerWf w
  | .revokeKey w _ => writerWf w
  | .attest w => writerWf w
  | .reportBuilt => true
  | .measureTensor w _ => writerWf w
  | .measurementDone => true
  | .tokenData w _ => writerWf w
  | .debugSubmit w => writerWf w
  | .debugClose w => writerWf w
  | .freeze w _ => writerWf w
  | .powerRemoved => true
  | .pwrFailNRise => true
  | .unitInternalFault unit => decide (unit < 14)
  | .opticalEngineFault engine => decide (engine < 8)
  | .opticalEngineTempReading engine _ => decide (engine < 8)
  | .backInvalidateAnswer line _ => decide (line < 2 ^ 58)
  | .dictResponseDrop => true
  | .dynamicAddressAssignment _ => true

end Sys2Proof
end

