-- ==== Sys2Proof/Safety.lean ====
section
/-! DEFINITION. The terms claims are stated in: the frame a command keeps, when a write command is accepted, what it means for
memory to be unchanged, and what a safe run keeps. -/

namespace Sys2Proof.Machine

open Sys2Proof

/-! ### Frames (log entry 18) -/

/-- `t` with the queue, the Count and the fuses of `s`: the frame of every command that owns none of them. -/
def framed (t s : State) : State := { t with pending := s.pending, clk := s.clk, fuse := s.fuse }

/-- `t` with the queue and the fuses of `s`: the frame of a command that may move the Count. -/
def framedClk (t s : State) : State := { t with pending := s.pending, fuse := s.fuse }

/-- `t` with the queue and the Count of `s`: the frame of a command that may blow fuses. -/
def framedFuse (t s : State) : State := { t with pending := s.pending, clk := s.clk }

/-- `t` with the queue and the fuses of `s`: the frame of a change of power or a reset of the module. -/
def framedReset (t s : State) : State := { t with pending := s.pending, fuse := s.fuse }

/-- `t` in the frame of a dictionary write of object (idx, sub): it owns the Count for FUNCTION_RESET_n, the fuses for FUSE_SVN
and REVOKE_KEY, and never the queue. -/
def framedWrite (idx sub : Nat) (t s : State) : State :=
  { t with
    pending := s.pending
    clk := if idx = 0x2040 then t.clk else s.clk
    fuse := if idx = 0xD010 ∧ (sub = 6 ∨ sub = 7) then t.fuse else s.fuse }

/-! ### Write commands (13 R447 to R457, R475) -/

/-- A write of `v` by `w` to an object passes every check before the object's own rule: the transport answers, the module is
not in recovery, and the gate of 13 finds nothing to refuse. -/
def accepts (w : Writer) (idx sub v : Nat) (s : State) : Bool :=
  answers w s && s.pow.phase != .recovery &&
  writeGate w idx sub (objSize idx sub) v s == 0

/-- A write of `v` by `w` reaches a module that answers, and its gate refuses it with `code`. -/
def refuses (w : Writer) (idx sub v code : Nat) (s : State) : Bool :=
  answers w s && s.pow.phase != .recovery && code != 0 &&
  writeGate w idx sub (objSize idx sub) v s == code

/-- `c` writes the `len` bytes of `v` to object (idx, sub) for `w` under `tag`: DICT_WRITE with its bytes, or OBJECT_WRITE with
the object's own length and no tag. -/
def writesObject (c : Instr) (w : Writer) (tag idx sub len v : Nat) : Prop :=
  (∃ (a : BitVec 16) (b d : BitVec 24) (h : BitVec 64) (bs : List Byte), c = .dictWrite w a b d bs ∧ h = dictHeader a b d ∧
    headerCheck 2 h bs.length = 0 ∧ tag = dictTag h ∧ idx = dictIndex h ∧ sub = dictSub h ∧ len = bs.length ∧ v = ofLeBytes bs) ∨
  (∃ x : BitVec 64, c = .objectWrite w idx sub x ∧ tag = 0 ∧ len = objSize idx sub ∧ v = x.toNat)

/-! ### Flits taken from the buffer (10 R353, R363) -/

/-- The state once a delivered flit has left the buffer and its credit has been returned. -/
def taken (k : Nat) (f : Flit) (s : State) : State :=
  returnCredit k f { s with net := { s.net with local_ := dropFirst (fun x => x == (k, f)) s.net.local_ } }

/-- The same for a flit of VL0 or a token in the receive buffer of link `k`. -/
def takenRx (k : Nat) (f : Flit) (s : State) : State :=
  returnCredit k f (modLink k (fun l => { l with rx := dropFirst (fun x => x == f) l.rx }) s)

/-! ### Commands of the sequencer (04 R147) -/

/-- Core `c` issues the legal command `w`, which lies at its PROG_ADDR and command index; reading it leaves the state `t`. -/
def Issues (c : Nat) (w : BitVec 256) (t s : State) : Prop :=
  ((coreOf c s).status = 1 ∨ (coreOf c s).status = 2) ∧ (coreOf c s).preempting = false ∧
  (coreOf c s).base + (coreOf c s).pc < 2 ^ 18 ∧
  (consumeClean (coreSector c ((coreOf c s).base + (coreOf c s).pc)) s).1 = some w ∧
  t = (consumeClean (coreSector c ((coreOf c s).base + (coreOf c s).pc)) s).2

/-- The vector operations: the VOP code of 04 R136 and the command that carries it out. -/
def vopRows : List (Nat × (Nat → List (Nat × BitVec 288) → Instr)) :=
  [(0x01, .vopAdd), (0x02, .vopMul), (0x03, .vopFma), (0x04, .vopMin), (0x05, .vopMax), (0x06, .vopSelect),
   (0x07, .vopConvert), (0x08, .vopExp2), (0x09, .vopLog2), (0x0A, .vopRcp), (0x0B, .vopRsqrt), (0x10, .exactSumVop),
   (0x11, .exactDot), (0x12, .exactSumsq), (0x20, .cadd)]

/-- The passes: the accumulation mode of 04 R119 and the command that carries it out. -/
def passRows : List (Nat × (Nat → List (Nat × BitVec 288) → Instr)) :=
  [(0, .passSingle), (1, .passOpen), (2, .passContinue), (3, .passClose)]

/-- The instructions of an address program: the OP of 05 R166 and the command that carries it out. -/
def apRows : List (Nat × (Nat → Nat → Instr)) :=
  [(0, .apEnd), (1, .apFor), (2, .apNext), (3, .apEmit), (4, .apAdd)]

/-- The directory commands: the OP of 06 R219 and the command that carries it out. -/
def dirRows : List (Nat × (Nat → BitVec 1024 → Instr)) :=
  [(1, .create), (2, .destroy), (3, .move), (4, .dirReturn), (5, .vacate), (6, .reinstate), (7, .clearDamage), (8, .setAttr)]

/-- The arithmetic update instructions: the OP of 08 R272, the command and the operation on one lane. -/
def updRows : List (Nat × (Nat → Instr) × (UpdInstr → Nat → Nat → Nat → Nat)) :=
  [(1, .updFma, laneFma), (2, .updAdd, laneAdd), (3, .updMul, laneMul), (4, .updDiv, laneDiv), (5, .updSqrt, laneSqrt),
   (6, .updRsqrt, laneRsqrt), (7, .updMin, laneMin), (8, .updMax, laneMax), (9, .sel, laneSel)]

/-- The routed transfers: the OP of a DESC (10 R367) and the command that takes it. -/
def descRows : List (Nat × (Nat → Flit → Instr)) :=
  [(1, .partnerLanding), (2, .restore), (3, .seed), (4, .repair), (5, .extraction), (6, .pointToPointWrite)]

/-- The flits of VL0 but PLAIN: the KIND of 11 R392 and the command that takes it. -/
def vl0Rows : List (Nat × (Nat → Flit → Instr)) := [(8, .reduce), (9, .record), (0xB, .combine)]

/-! ### Sector requests (07 R234, R235) -/

/-- A request that its base die or buffer takes at once: the unit answers, the request breaks no rule, fewer than 256 wait
there, and no hold, earlier request or snoop stands before it. -/
def servedAtOnce (unit word : Nat) (s : State) : Bool :=
  !unitGone unit s && !reqRefused unit word && decide ((s.mo.held.filter fun r => r.unit == unit).length < 256) &&
  !accessHeld (unitSector unit (reqSector word)) s &&
  !(s.mo.held.any fun r => r.unit == unit && reqSector r.word.toNat == reqSector word) &&
  !(decide (reqKind word ≤ 3) && needsSnoop (reqKind word != 1) (unitSector unit (reqSector word)) s)

/-! ### Memory -/

/-- Every byte of memory reads as before, and every check byte too. -/
def sameBytes (s t : State) : Prop := t.mem.cells = s.mem.cells ∧ t.mem.check = s.mem.check

/-- Memory in its canonical form: addresses strictly rising, and no entry equal to what an unlisted address reads as (0). -/
def Memory.wf (m : Memory) : Bool := spWf 0#8 m.cells && spWf 0#8 m.check

/-! ### What a safe run keeps -/

/-- The commands that act on a module that is unpowered, in reset, in recovery or halted: power, pins, resets, the dictionary
server, the recorder's updates and flushes, the firmware objects of recovery and the I3C address. -/
def actsAlways : Instr → Bool
  | .powerOn .. | .powerRemoved | .perstNFall | .perstNResetEnd .. | .pwrFailNFall | .pwrFailNRise | .laserEnFall
  | .laserEnRise | .dynamicAddressAssignment _ | .dictRead .. | .dictWrite .. | .selectRead .. | .readSegment ..
  | .objectWrite .. | .recordUpdate | .flushSnapshot | .flushComplete _ | .fwData .. | .fwVerify _
  | .fwClearPending _ => true
  | _ => false

/-- The commands that may change the Count: its tick, its step and hold, its sources' times, power, the module's resets, and a
write of FUNCTION_RESET_n. -/
def movesCount : Instr → Bool
  | .tick _ | .countStep | .countHoldRelease | .ptpSync .. | .timePpsInEdge .. | .functionReset .. | .powerOn ..
  | .powerRemoved | .perstNFall => true
  | .dictWrite _ a b c _ | .selectRead _ a b c _ => dictIndex (dictHeader a b c) == 0x2040
  | .objectWrite _ idx _ _ => idx == 0x2040
  | _ => false

/-! ### Commands that store nothing in memory -/

/-- The commands of time, doorbells, links, power, recorder and error handling whose effect the spec states without any store to
a memory address. -/
def storesNothing : Instr → Bool
  | .tick .. | .countStep .. | .countHoldRelease .. | .syncIntervalTimeout .. | .ppsMissingTimeout .. |
    .holdoverLimit .. | .ppsOutRise .. | .ppsOutFall .. | .ptpSyncSend .. | .announceSend .. | .sqDoorbell .. |
    .cqHeadDoorbell .. | .coalesceTimeout .. | .hdmDecoderCommit .. | .hostRequestLate .. | .cxlLaneFailure .. |
    .alignmentLost .. | .scrcTimeout .. | .trainingTimeout .. | .linkRetryTimer .. | .linkUsableTimer .. |
    .linkTrainingComplete .. | .ringCalLink .. | .holdEnd .. | .holdTimeout .. | .laserBiasCheck .. |
    .asymCalEnd .. | .regRead .. | .regWrite .. | .marginCheck .. | .patrolPeriodEnd .. | .thermalHotExit .. |
    .bufferLinkReplay .. | .binBoundary .. | .coreRailRaised .. | .pointClockSwitch .. | .surgeMaxContinuous .. |
    .powerSample .. | .throttlePeriod .. | .clampEngage .. | .clampRelease .. | .voltageOutOfRange .. |
    .flowEstimate .. | .wearCharge .. | .ledgerWrite .. | .flushSnapshot .. | .flushComplete .. | .slotErase .. |
    .telemetrySample .. | .stageIdleExpire .. | .savedImageWrite .. | .dictResponseDrop .. | .handlerEntry .. |
    .handlerEntryDone .. | .firmwareRestartDone .. | .reportBuilt .. | .dynamicAddressAssignment .. => true
  | _ => false

end Sys2Proof.Machine
end

