-- ==== Sys2Proof/Certificates/Slice0/Obligations.lean ====
section
/-! DEFINITION. The statements for the provers: what the commands of each family do, where they complete, what they keep, and what
holds of every step. A statement names the entries of the assumption log its clauses rest on. -/

open Sys2Proof Sys2Proof.Machine

set_option maxRecDepth 20000

/-- O1. A tick adds one to the Count, a slewed tick two or none; a due step moves it forward or holds it; a hold ends when
the source arrives. Rules: 02 R26, 02 R32, 02 R33, 02 R632. Model's choices: log entries 3, 4, 74 -/
def Obligations.CountTicksStepsAndHolds : Prop :=
  (∀ (s : State) (slew : Slew),
      alive s = true →
      s.clk.held = false →
      maySlew slew { s with clk := { s.clk with ticks := s.clk.ticks + 1 } } = false →
      exec (.tick slew) s = .next { s with clk := { s.clk with count := s.clk.count + 1, ticks := s.clk.ticks + 1 } }) ∧
  (∀ (s : State),
      alive s = true →
      s.clk.held = false →
      maySlew .ahead { s with clk := { s.clk with ticks := s.clk.ticks + 1 } } = true →
      exec (.tick .ahead) s = .next { s with
        clk := { s.clk with count := s.clk.count + 2, ticks := s.clk.ticks + 1 }
        tim := { s.tim with lastSlew := s.clk.ticks + 1, offset := s.tim.offset - 1 } }) ∧
  (∀ (s : State),
      alive s = true →
      s.clk.held = false →
      maySlew .behind { s with clk := { s.clk with ticks := s.clk.ticks + 1 } } = true →
      exec (.tick .behind) s = .next { s with
        clk := { s.clk with ticks := s.clk.ticks + 1 }
        tim := { s.tim with lastSlew := s.clk.ticks + 1, offset := s.tim.offset + 1 } }) ∧
  (∀ (s : State) (slew : Slew),
      alive s = true →
      s.clk.held = true →
      exec (.tick slew) s = .next { s with clk := { s.clk with heldUntil := s.clk.heldUntil - 1, ticks := s.clk.ticks + 1 } }) ∧
  (∀ (s u : State),
      alive s = true →
      s.tim.stepDue = true →
      s.cal.firing = false →
      0 < s.tim.offset →
      u = setServo .acquiring { s with tim := { s.tim with stepDue := false } } →
      exec .countStep s = .next (framedClk { u with
        clk := { s.clk with everSet := true, count := s.clk.count + BitVec.ofNat 64 s.tim.offset.toNat }
        tim := { u.tim with offset := 0 } } s)) ∧
  (∀ (s u : State),
      alive s = true →
      s.tim.stepDue = true →
      s.cal.firing = false →
      s.tim.offset < -1000 →
      u = setServo .acquiring { s with tim := { s.tim with stepDue := false } } →
      exec .countStep s = .next (framedClk { emit 0x4004 0 (min (s.tim.offset.natAbs / 1000) (2 ^ 32 - 1)) u with
        clk := { s.clk with everSet := true, held := true, heldUntil := s.tim.offset.natAbs }
        tim := { u.tim with ppsOut := false } } s)) ∧
  (∀ (s : State) (v : Servo),
      (s.tim.servo ≠ .locked ∨ ∀ k < 64, (linkOf k s).asymCal = false) →
      setServo v s = wr Obj.SERVO_STATE (servoCode v) { s with tim := { s.tim with servo := v, good := 0 } }) ∧
  (∀ (s : State),
      alive s = true →
      s.clk.held = true →
      s.clk.heldUntil = 0 →
      exec .countHoldRelease s = .next { s with clk := { s.clk with held := false }, tim := { s.tim with offset := 0 } })

/-- O2. A tick and a step never run the Count backward. Rules: 02 R26, 02 R33, 02 R632. Model's choices: log entry 3 -/
def Obligations.CountNeverRunsBackward : Prop :=
  (∀ (s t : State) (slew : Slew),
      s.clk.count.toNat + 2 < 2 ^ 64 →
      exec (.tick slew) s = .next t →
      s.clk.count.toNat ≤ t.clk.count.toNat ∧ t.clk.count.toNat ≤ s.clk.count.toNat + 2) ∧
  (∀ (s t : State),
      (s.clk.count.toNat : Int) + s.tim.offset < 2 ^ 64 →
      exec .countStep s = .next t →
      s.clk.count.toNat ≤ t.clk.count.toNat ∧ (s.cal.firing = true → t = s))

/-- O3. A Sync, an edge and the loss of the source move the servo; the tenth second of holdover stops the Caller. Rules: 02
R30, 02 R31, 02 R38, 02 R39, 10 R369, 10 R371. Model's choices: log entries 4, 17, 49, 73, 106 -/
def Obligations.SourcesMoveTheServo : Prop :=
  (∀ (s u : State) (k : Nat) (f : Flit) (stamp arrival dom bound : Nat) (residence filter freq : Int),
      alive s = true →
      s.net.local_.contains (k, f) = true →
      f.vl = 3 →
      f.kind = 5 →
      ptpStamps k f (taken k f s) = some (stamp, arrival) →
      u = modLink k (fun l => { l with ptpRx := dropFirst (fun p => p.1 == f) l.ptpRx }) (taken k f s) →
      rd Obj.TIME_MODE u = 0 →
      rd Obj.PTP_LINK u = k →
      rd (Obj.ASYM_VALID k) u ≠ 0 →
      dom = rd Obj.PTP_DOMAIN u →
      exec (.ptpSync k f true dom residence bound filter freq) s = .next (framedClk
        (servoSample ((stamp : Int) + rxDelay k u - ((arrival : Int) + residence) + filter) bound freq
          { u with tim := { u.tim with syncAt := u.clk.ticks } }) s)) ∧
  (∀ (s : State) (k : Nat) (f : Flit) (v : Bool) (dom bound : Nat) (residence filter freq : Int),
      alive s = true →
      s.net.local_.contains (k, f) = true →
      f.vl = 3 →
      f.kind = 5 →
      (v = false ∨ dom ≠ rd Obj.PTP_DOMAIN (modLink k (fun l => { l with ptpRx := dropFirst (fun p => p.1 == f) l.ptpRx }) (taken k f s))) →
      exec (.ptpSync k f v dom residence bound filter freq) s = .next (framedClk
        (modLink k (fun l => { l with ptpRx := dropFirst (fun p => p.1 == f) l.ptpRx }) (taken k f s)) s)) ∧
  (∀ (s : State) (filter freq : Int) (v at_ : Nat),
      alive s = true →
      rd Obj.TIME_MODE s = 1 →
      s.tim.tod = some (v, at_) →
      exec (.timePpsInEdge filter freq) s = .next (framedClk (servoSample ((v : Int) - (now s : Int) + filter) 10 freq
        { s with tim := { s.tim with ppsSeen := true, ppsEdge := s.clk.ticks, ppsTime := some v, tod := none } }) s)) ∧
  (∀ (s : State),
      alive s = true →
      s.tim.tod = none →
      s.tim.ppsTime = none →
      exec (.timePpsInEdge 0 0) s = .next { s with tim := { s.tim with ppsSeen := true, ppsEdge := s.clk.ticks, ppsTime := none, tod := none } }) ∧
  (∀ (s : State) (w : Writer) (v : BitVec 64),
      alive s = true →
      accepts w 0x3004 1 v.toNat s = true →
      (s.tim.ppsSeen = false ∨ (s.tim.ppsEdge + 100000000 ≤ s.clk.ticks ∧ s.clk.ticks ≤ s.tim.ppsEdge + 900000000)) →
      exec (.todNextPps w v) s = .next (framed (answerWith w 0 0 [] { s with tim := { s.tim with tod := some (v.toNat, now s) } }) s)) ∧
  (∀ (s : State),
      alive s = true →
      rd Obj.TIME_MODE s = 0 →
      s.tim.syncAt + 3 * syncInterval s ≤ s.clk.ticks →
      s.tim.lost = false →
      s.tim.servo = .locked →
      exec .syncIntervalTimeout s = .next (framed (enterHoldover { s with tim := { s.tim with lost := true, good := 0 } }) s)) ∧
  (∀ (s : State),
      alive s = true →
      rd Obj.TIME_MODE s = 1 →
      s.tim.ppsSeen = true →
      s.tim.ppsEdge + 2100000000 ≤ s.clk.ticks →
      s.tim.lost = false →
      s.tim.servo = .locked →
      exec .ppsMissingTimeout s = .next (framed (enterHoldover { s with tim := { s.tim with lost := true, good := 0 } }) s)) ∧
  (∀ (s : State),
      enterHoldover s = emit 0x4001 0 0 { setServo .holdover s with
        tim := { (setServo .holdover s).tim with degraded := true, holdoverAt := some (now s) } } ∧
        (setServo .holdover s).tim = { s.tim with servo := .holdover, good := 0 }) ∧
  (∀ (s : State) (c : Nat),
      alive s = true →
      s.tim.servo = .holdover →
      s.cal.firing = true →
      s.tim.holdoverAt = some c →
      c + 10000000000 ≤ now s →
      s.cal.stopDue = none →
      exec .holdoverLimit s = .next { s with cal := { s.cal with stopDue := some .holdover } })

/-- O4. TIME_PPS_OUT rises at whole seconds of a Count that has been set and falls 100 ms later; Sync leaves the master
ports only in LOCKED and HOLDOVER. Rules: 02 R29, 02 R42, 02 R43, 10 R369, 10 R373. Model's choices: log entries 4, 49,
56, 99 -/
def Obligations.PulseOutAndMasterPorts : Prop :=
  (∀ (s : State),
      alive s = true →
      s.clk.everSet = true →
      s.clk.held = false →
      now s % 1000000000 = 0 →
      s.tim.ppsOut = false →
      exec .ppsOutRise s = .next { s with tim := { s.tim with ppsOut := true, ppsOutAt := now s } }) ∧
  (∀ (s : State),
      s.clk.everSet = false →
      exec .ppsOutRise s = .next s) ∧
  (∀ (s : State),
      alive s = true →
      s.tim.ppsOut = true →
      s.tim.ppsOutAt + 100000000 ≤ now s →
      exec .ppsOutFall s = .next { s with tim := { s.tim with ppsOut := false } }) ∧
  (∀ (s : State),
      alive s = true →
      (s.tim.servo = .locked ∨ s.tim.servo = .holdover) →
      ptpDue s.tim.syncSent (syncInterval s) s = true →
      exec .ptpSyncSend s = .next (framed (forEach (masterPorts s) (fun k => queueFlit k
        (mkFlit 3 5 0xFFFFFF (nodeId s) 0 0 (bytesToSectors
          ((Config.ptpMessage true (rd Obj.PTP_DOMAIN s) (rd Obj.EST_ERROR s)).take 256))))
          { s with tim := { s.tim with syncSent := some s.clk.ticks } }) s)) ∧
  (∀ (s : State),
      ((s.tim.servo = .unset ∨ s.tim.servo = .acquiring) ∨ ptpDue s.tim.syncSent (syncInterval s) s = false) →
      exec .ptpSyncSend s = .next s) ∧
  (∀ (s : State),
      alive s = true →
      ptpDue s.tim.announced 1000000000 s = true →
      exec .announceSend s = .next (framed (forEach (masterPorts s) (fun k => queueFlit k
        (mkFlit 3 5 0xFFFFFF (nodeId s) 0 0 (bytesToSectors
          ((Config.ptpMessage false (rd Obj.PTP_DOMAIN s) (rd Obj.EST_ERROR s)).take 256))))
          { s with tim := { s.tim with announced := some s.clk.ticks } }) s)) ∧
  (∀ (s : State) (w : Writer) (v : BitVec 64),
      alive s = true →
      accepts w 0x3020 2 v.toNat s = true →
      measureAt (beatB s) (now s) < v.toNat →
      exec (.rejoinMeasure w v) s = .next (framed (answerWith w 0 0 [] (wr Obj.REJOIN_MEASURE v.toNat
        { s with cal := { s.cal with rejoinArmed := true } })) s)) ∧
  (∀ (s : State) (w : Writer) (v : BitVec 64),
      alive s = true →
      accepts w 0x3020 2 v.toNat s = true →
      v.toNat ≤ measureAt (beatB s) (now s) →
      exec (.rejoinMeasure w v) s = .next (framed (answerWith w 0 0x03000004 [] s) s))

/-- O5. At a beat the Caller fires, in ascending number, the valid entries whose BEAT, MODULUS and PHASE select it; it fires
none in Sit-out or stopped. Rules: 02 R44, 02 R51, 02 R52, 02 R55. Model's choices: log entries 54, 55 -/
def Obligations.CallerFiresItsEntries : Prop :=
  (∀ (s : State) (n : Nat),
      n ∈ firingEntries s ↔ n < 512 ∧ bitOf (entryDesc n s) 63 = true ∧
        fld (entryDesc n s) 55 44 = beatAt (beatB s) (now s) ∧
        measureAt (beatB s) (now s) % max 1 (fld (entryDesc n s) 27 16) = fld (entryDesc n s) 15 4) ∧
  (∀ (s : State),
      (firingEntries s).Pairwise (· < ·)) ∧
  (∀ (s : State),
      alive s = true →
      s.cal.lastMeasure = some (measureAt (beatB s) (now s)) →
      s.cal.firing = true →
      isReady s = true →
      s.clk.held = false →
      now s % 2 ^ beatB s < 128 →
      s.cal.lastBeat ≠ some (now s / 2 ^ beatB s) →
      exec .beatBoundary s = .next (framed (forEach (firingEntries s) fireEntry
        { s with cal := { s.cal with lastBeat := some (now s / 2 ^ beatB s) } }) s)) ∧
  (∀ (s : State),
      alive s = true →
      s.cal.lastMeasure = some (measureAt (beatB s) (now s)) →
      (s.cal.firing = false ∨ isReady s = false ∨ s.clk.held = true ∨ 128 ≤ now s % 2 ^ beatB s) →
      exec .beatBoundary s = .next s) ∧
  (∀ (s : State),
      alive s = true →
      s.clk.held = false →
      s.dict.commit = none →
      s.cal.lastMeasure ≠ some (measureAt (beatB s) (now s)) →
      now s < beatStart (beatB s) (measureAt (beatB s) (now s)) 0 + 128 →
      s.cal.firing = true →
      s.cal.stopDue ≠ none →
      isReady s = true →
      s.tasks = [] →
      ∃ t, exec .measureBoundary s = .next t ∧ t.cal.firing = false ∧ t.cal.stopDue = none ∧
        t.run = s.run.set 5 .stopped ∧ t.rcd.batch = s.rcd.batch ++ [⟨0x4002, 0, 0, s.clk.count, s.pow.opTime, false⟩] ∧
        t.cal.figs = s.cal.figs ∧ t.mem = s.mem ∧ t.regs = s.regs)

/-- O6. Late figures start as soon as they can; a figure whose deadline has come ends, in ascending entry number, and its
flag advances with its outcome. Rules: 02 R53, 02 R56, 02 R57, 09 R336. Model's choices: log entries 51, 54, 60, 61,
107, 124 -/
def Obligations.LateFiguresAndDeadlines : Prop :=
  (∀ (s : State) (n : Nat),
      alive s = true →
      inSitout s = false →
      s.cal.firing = true →
      s.clk.held = false →
      exec (.lateFigureStart n) s = .next (framed (forEach (s.cal.figs.filter fun f =>
        f.entry == n && !f.started && decide (now s < f.deadline)) startFigure s) s)) ∧
  (∀ (s : State) (n : Nat),
      (inSitout s = true ∨ s.cal.firing = false ∨ s.clk.held = true) →
      exec (.lateFigureStart n) s = .next s) ∧
  (∀ (s : State),
      alive s = true →
      exec .figureDeadline s = .next (framed (forEach ((List.range 512).flatMap fun n =>
        (s.cal.figs.filter fun f => decide (f.deadline ≤ now s)).filter fun f => f.entry == n) deadlineFigure s) s)) ∧
  (∀ (s : State) (f : Fig) (outcome : Nat),
      s.cal.figs.find? (fun g => figTag g == figTag f) = some f →
      endFigure (figTag f) outcome s = flagEnd (f.param.toNat % 256) f.entry outcome
        { s with cal := { s.cal with figs := dropFirst (fun g => figTag g == figTag f) s.cal.figs } }) ∧
  (∀ (s : State) (flag entry outcome : Nat),
      flag ≠ 0 →
      ((spGet (0, 0) s.cal.flagLast flag).1 ≠ s.clk.ticks + 1 ∨ (spGet (0, 0) s.cal.flagLast flag).2 ≤ entry) →
      (flagEnd flag entry outcome s).regs =
        (wr (Obj.FLAG flag) ((flagGen flag s + 1) % 2 ^ 31 + outcome * 2 ^ 31) s).regs) ∧
  (∀ (s t : State) (p : PhaseRun),
      alive s = true →
      s.trn.phase = some p →
      inSitout s = false →
      (∀ f ∈ [0, 1, 2], runOf f s = .stopped) →
      (∀ f ∈ [0, 1, 2], phaseSafe f s = true) →
      imageState p.target s = (none, t) →
      exec .phaseApply s = .next (framed (finishPhase p t) s))

/-- O7. The handler takes the entry of the highest severity, sets a lower one aside and takes it up again; alerts clear but
in Sit-out and halt. Rules: 14 R483, 14 R484, 14 R485, 14 R506. -/
def Obligations.ErrorsAreHandledInTurn : Prop :=
  (∀ (s : State) (e : ErrEntry),
      alive s = true →
      nextEntry s = some e →
      s.boot.fwRunning = true →
      handBelow e.sev s = true →
      exec (.handlerEntry) s = .next (framed (takeError e s) s)) ∧
  (∀ (s : State) (e : ErrEntry),
      alive s = true →
      nextEntry s = some e →
      handBelow e.sev s = false →
      exec (.handlerEntry) s = .next (framed s s)) ∧
  (∀ (s : State),
      alive s = true →
      (nextEntry s = none ∨ s.boot.fwRunning = false) →
      exec (.handlerEntry) s = .next (framed s s)) ∧
  (∀ (s : State),
      alive s = true →
      s.flt.hand.isSome = true →
      exec (.handlerEntryDone) s = .next (framed (showHandling { s with flt := { s.flt with hand := s.flt.aside.head?, aside := s.flt.aside.tail } }) s)) ∧
  (∀ (s : State),
      alive s = true →
      s.flt.hand = none →
      exec (.handlerEntryDone) s = .next (framed s s)) ∧
  (∀ (s : State) (w : Writer),
      alive s = true →
      accepts w 0xA002 2 1 s = true →
      rd Obj.FAULT_STATE s = 0 →
      exec (.alertClear w) s = .next (framed (answerWith w 0 0 [] (wr Obj.ALERT_LATCH (rd Obj.ALERT_LATCH s &&& 0) s)) s)) ∧
  (∀ (s : State) (w : Writer),
      alive s = true →
      accepts w 0xA002 2 1 s = true →
      rd Obj.FAULT_STATE s = 1 →
      exec (.alertClear w) s = .next (framed (answerWith w 0 0 [] (wr Obj.ALERT_LATCH (rd Obj.ALERT_LATCH s &&& 8) s)) s))

/-- O8. The causes of Sit-out and halt act at once, firmware restarts, and Sit-out powers the machines down. Rules: 14 R488,
14 R489, 14 R500, 14 R503, 14 R504, 16 R535, 16 R547. Model's choices: log entries 41, 75, 96 -/
def Obligations.SitoutIsEnteredAndPowersDown : Prop :=
  (∀ (s : State) (w : Writer) (v : BitVec 8),
      alive s = true →
      accepts w 0xA010 1 v.toNat s = true →
      exec (.sitoutRequest w v) s = .next (framed (answerWith w 0 0 [] (faultS3 0x9405 0 0 s)) s)) ∧
  (∀ (s : State) (a : Nat),
      alive s = true →
      exec (.controlParityError a) s = .next (framed (faultS3 0x2902 0 a s) s)) ∧
  (∀ (s : State) (a : Nat),
      alive s = true →
      exec (.dieNetworkHeaderFail a) s = .next (framed (faultS3 0x2903 0 a s) s)) ∧
  (∀ (s : State),
      alive s = true →
      exec (.tcxoStopped) s = .next (framed (faultS3 0x4901 0 0 s) s)) ∧
  (∀ (s : State) (t : BitVec 16),
      alive s = true →
      exec (.hotspotSitout t) s = .next (framed (onlyIf (decide (840 < toSigned 16 t.toNat ∧ 10 ≤ s.pow.hot105)) (faultS3 0x5901 0 t.toNat) s) s)) ∧
  (∀ (s : State),
      alive s = true →
      exec (.hotspotHalt) s = .next (framed (haltModule 0x5902 0 0 s) s)) ∧
  (∀ (s : State) (r : Nat),
      alive s = true →
      exec (.inputOvervoltage r) s = .next (framed (haltModule 0x5905 0 r s) s)) ∧
  (∀ (s : State),
      alive s = true →
      s.boot.fwRunning = true →
      inSitout s = true →
      exec (.watchdogExpire) s = .next (framed (haltModule 0x9404 0 0 s) s)) ∧
  (∀ (s : State),
      alive s = true →
      s.boot.fwRunning = true →
      inSitout s = false →
      exec (.watchdogExpire) s = .next (framed (faultS3 0x9403 0 0 { s with boot := { s.boot with fwRunning := false } }) s)) ∧
  (∀ (s : State),
      alive s = true →
      s.boot.fwRunning = false →
      exec (.watchdogExpire) s = .next (framed s s)) ∧
  (∀ (s : State),
      alive s = true →
      inSitout s = true →
      exec (.firmwareRestartDone) s = .next (framed ({ s with boot := { s.boot with fwRunning := true } }) s)) ∧
  (∀ (s : State),
      alive s = true →
      inSitout s = true →
      s.flt.powerDown = false →
      exec (.sitoutPowerDown) s = .next (framed (emit 0x5101 0 3 (bump Obj.POINT_CHANGES (setPoint 3 { s with
        cores := s.cores.map darkCore
        upd := { s.upd with units := [] }
        flt := { s.flt with powerDown := true }
        pow := { s.pow with change := none, passHold := false, samples := [], throttling := false } }))) s)) ∧
  (∀ (s : State),
      alive s = true →
      (inSitout s = false ∨ s.flt.powerDown = true) →
      exec (.sitoutPowerDown) s = .next (framed s s))

/-- O9. In Sit-out an extraction opens a transfer and sends its sectors one by one, corrected or as stored. Rules: 14 R495,
14 R496, 10 R366. Model's choices: log entries 42, 43 -/
def Obligations.ExtractionsSendSectors : Prop :=
  (∀ (s : State) (w : Writer),
      alive s = true →
      accepts w 0xA020 5 1 s = true →
      extractOk s = true →
      exec (.extractStart w) s = .next (framed (answerWith w 0 0 [] (beginExtract s)) s)) ∧
  (∀ (s : State) (w : Writer),
      alive s = true →
      accepts w 0xA020 5 1 s = true →
      extractOk s = false →
      exec (.extractStart w) s = .next (framed (answerWith w 0 0x03000004 [] (s)) s)) ∧
  (∀ (s : State) (w : Writer) (x : Extract),
      alive s = true →
      accepts w 0xA020 5 2 s = true →
      inSitout s = true →
      s.flt.extract = some x →
      exec (.extractCancel w) s = .next (framed (answerWith w 0 0 [] (endExtract (if bitOf (Config.freeWord (drawFree s).1).toNat 0 then 3 else 0) (dropTx x.xfer (drawFree s).2))) s)) ∧
  (∀ (s : State) (w : Writer),
      alive s = true →
      accepts w 0xA020 5 2 s = true →
      inSitout s = true →
      s.flt.extract = none →
      exec (.extractCancel w) s = .next (framed (answerWith w 0 0 [] (s)) s)) ∧
  (∀ (s : State) (x : Extract),
      alive s = true →
      s.flt.extract = some x →
      (s.net.txX.any fun y => y.no == x.xfer && y.opened) = true →
      s.boot.fwRunning = true →
      exec (.extractSector) s = .next (framed (extractNext x s) s)) ∧
  (∀ (s : State) (x : Extract) (n : Nat) (d : BitVec 256) (t : State),
      sectorGone n s = false →
      x.cut = false →
      consumeClean n s = (some d, t) →
      extractSector x n s = (some (encodeSector d), bump Obj.EXTRACT_SENT t)) ∧
  (∀ (s : State) (x : Extract) (n : Nat) (t : State),
      sectorGone n s = false →
      x.cut = false →
      consumeClean n s = (none, t) →
      extractSector x n s = (some (readOverlay n s), bump Obj.EXTRACT_SENT (bump Obj.EXTRACT_BAD (onlyIf (rd Obj.EXTRACT_BAD t == 0) (wr Obj.EXTRACT_FIRST_BAD x.next) t)))) ∧
  (∀ (s : State) (x : Extract) (n : Nat),
      (sectorGone n s = true ∨ x.cut = true) →
      extractSector x n s = (none, bump Obj.EXTRACT_MISSING s)) ∧
  (∀ (s : State) (x : Extract),
      alive s = true →
      s.flt.extract = some x →
      ((s.net.txX.any fun y => y.no == x.xfer && y.opened) = false ∨ s.boot.fwRunning = false) →
      exec (.extractSector) s = .next (framed s s))

/-- O10. The recorder combines waiting events into one update, flushes to erased slots and keeps its samples. Rules: 15
R507, 15 R511, 15 R517, 15 R518, 15 R519, 15 R520, 15 R521, 15 R522, 15 R527. Model's choices: log entries 4, 92, 93,
131 -/
def Obligations.EventsAreRecordedAndFlushed : Prop :=
  (∀ (s : State),
      recorderAlive s = true →
      exec (.recordUpdate) s = .next (framed (recordUpdate (heldFirst s)) s)) ∧
  (∀ (s : State),
      recorderAlive s = false →
      exec (.recordUpdate) s = .next (framed (heldFirst s) s)) ∧
  (∀ (s : State) (e : Event) (p : List Event × State),
      recorderAlive s = true →
      s.rcd.hold = [] →
      s.rcd.batch.head? = some e →
      p = reportAll (s.rcd.batch.filter fun x => x.code == e.code && x.source == e.source)
      { s with rcd := { s.rcd with batch := s.rcd.batch.filter fun x => !(x.code == e.code && x.source == e.source) } } →
      runOf 6 p.2 ≠ .stopped →
      exec .recordUpdate s = .next (framed (applyPair p.1 p.2) s)) ∧
  (∀ (s : State) (w : Writer),
      alive s = true →
      accepts w 0xB030 1 1 s = true →
      exec (.flush w) s = .next (framed (answerWith w 0 0 [] (requestFlush 0 0 false s)) s)) ∧
  (∀ (s : State) (f : FlushRun) (k : Nat),
      flushAlive s = true →
      s.rcd.flush = some f →
      f.snap = none →
      erasedSlot s = some k →
      exec (.flushSnapshot) s = .next (framed ({ s with rcd := { s.rcd with flush := some { f with snap := some (snapshot f s), slot := k }, records := if f.emptyAfter then [] else s.rcd.records } }) s)) ∧
  (∀ (s : State) (f : FlushRun) (img : RecImage),
      flushAlive s = true →
      s.rcd.flush = some f →
      f.snap = some img →
      exec (.flushComplete true) s = .next (framed (nextFlush (emit 0x9501 0 f.cause (bump Obj.FLUSHES { setSlot f.slot ⟨.used, some img⟩ s with flash := { (setSlot f.slot ⟨.used, some img⟩ s).flash with imageSeq := img.seq } }))) s)) ∧
  (∀ (s : State),
      alive s = true →
      exec (.slotErase) s = .next (framed (slotErase s) s)) ∧
  (∀ (s : State) (w : Writer) (v : BitVec 32),
      alive s = true →
      accepts w 0xB010 10 v.toNat s = true →
      exec (.find w v) s = .next (framed (answerWith w 0 0 [] (setSelector w.via 0xB010 ((recAt (v.toNat / 65536) (v.toNat % 4096) s.rcd.records).getD 0xFFFF) s)) s)) ∧
  (∀ (s : State) (v a p : BitVec 16) (e : List (BitVec 16)),
      alive s = true →
      exec (.telemetrySample v a p e) s = .next (framed (telemetrySample v a p e (onlyIf (decide (4800 ≤ v.toNat ∧ v.toNat ≤ 5800)) (fun u => { u with pow := { u.pow with voltOut := false } }) s)) s))

/-- O11. OP_REQUEST starts a change of operating point, refuses Surge with its first reason, and the change goes through
rail, clock switch and report. Rules: 16 R534, 16 R535, 16 R536, 16 R543, 16 R544. Model's choices: log entries 75, 105 -/
def Obligations.OperatingPointsChange : Prop :=
  (∀ (s : State) (w : Writer),
      alive s = true →
      accepts w 0xC000 2 1 s = true →
      surgeRefusal s = 0 →
      exec (.opRequestSurge w) s = .next (framed (answerWith w 0 0 [] (startChange 0 0 (wr Obj.OP_REQUEST 1 (modPow (fun x => { x with softReduced := false }) s)))) s)) ∧
  (∀ (s : State) (w : Writer),
      alive s = true →
      accepts w 0xC000 2 1 s = true →
      surgeRefusal s ≠ 0 →
      exec (.opRequestSurge w) s = .next (framed (answerWith w 0 0 [] (emit 0x5102 0 (surgeRefusal s) (wr Obj.OP_REQUEST 0 s))) s)) ∧
  (∀ (s : State) (w : Writer),
      alive s = true →
      accepts w 0xC000 2 0 s = true →
      rd Obj.OP_POINT s ≠ 0 →
      exec (.opRequestFull w) s = .next (framed (answerWith w 0 0 [] (startChange 1 0 (wr Obj.OP_REQUEST 0 (modPow (fun x => { x with softReduced := false }) s)))) s)) ∧
  (∀ (s : State) (w : Writer),
      alive s = true →
      accepts w 0xC000 2 0 s = true →
      rd Obj.OP_POINT s = 0 →
      exec (.opRequestFull w) s = .next (framed (answerWith w 0 0 [] (endSurge 5 1 (modPow (fun x => { x with softReduced := false }) s))) s)) ∧
  (∀ (s : State) (w : Writer),
      alive s = true →
      accepts w 0xC000 2 2 s = true →
      rd Obj.OP_POINT s ≠ 0 →
      exec (.opRequestReduced w) s = .next (framed (answerWith w 0 0 [] (startChange 2 0 (wr Obj.OP_REQUEST 2 (modPow (fun x => { x with softReduced := true }) s)))) s)) ∧
  (∀ (s : State) (w : Writer),
      alive s = true →
      accepts w 0xC000 2 2 s = true →
      rd Obj.OP_POINT s = 0 →
      exec (.opRequestReduced w) s = .next (framed (answerWith w 0 0 [] (endSurge 5 2 (modPow (fun x => { x with softReduced := true }) s))) s)) ∧
  (∀ (s : State) (c : PointChange),
      alive s = true →
      s.pow.change = some c →
      exec (.coreRailRaised) s = .next (framed (modPow (fun x => { x with change := some { c with railUp := true }, passHold := true }) s) s)) ∧
  (∀ (s : State) (c : PointChange),
      alive s = true →
      s.pow.change = some c →
      c.railUp = true →
      noPass s = true →
      exec (.pointClockSwitch) s = .next (framed (emit 0x5101 0 c.target (bump Obj.POINT_CHANGES (setPoint c.target (modPow (fun x => { x with
        change := none, passHold := false, samples := [], lowMs := 0, idleFreeMs := 0, surgeAt := s.clk.ticks }) s)))) s)) ∧
  (∀ (s : State) (c : PointChange),
      alive s = true →
      s.pow.change = some c →
      (c.railUp = false ∨ noPass s = false) →
      exec (.pointClockSwitch) s = .next (framed s s)) ∧
  (∀ (s : State),
      alive s = true →
      exec (.surgeMaxContinuous) s = .next (framed (onlyIf (decide (s.pow.surgeAt + 1000000000 * rd Obj.SURGE_MAX_CONTINUOUS s ≤ s.clk.ticks)) (endSurge 1 1) s) s))

/-- O12. Power samples, throttling, the over-current clamp, temperatures, supply, coolant and wear act by their limits.
Rules: 16 R536, 16 R537, 16 R538, 16 R540, 16 R541, 16 R547, 16 R551, 16 R552, 16 R553, 16 R555, 16 R556, 04 R154.
Model's choices: log entries 44, 45, 75, 105 -/
def Obligations.BudgetsClampsAndWear : Prop :=
  (∀ (s : State) (x : BitVec 16),
      alive s = true →
      exec (.powerSample x) s = .next (framed (wr Obj.WINDOW_POWER (sumNat ((x.toNat :: s.pow.samples).take 100000) / ((x.toNat :: s.pow.samples).take 100000).length) (modPow (fun p => { p with samples := (x.toNat :: s.pow.samples).take 100000 }) s)) s)) ∧
  (∀ (s : State) (x : BitVec 16) (b : Bool),
      alive s = true →
      exec (.throttlePeriod x b) s = .next (framed (surgeOver (throttleChange (countThrottle x.toNat b (setGap x.toNat s)))) s)) ∧
  (∀ (s : State) (x : BitVec 16),
      alive s = true →
      s.pow.clamp = false →
      2075 < x.toNat →
      exec (.clampEngage x) s = .next (framed (modPow (fun p => { p with clamp := true, clampAt := s.clk.ticks, clampCyc := coreClock s }) s) s)) ∧
  (∀ (s : State) (x : BitVec 16),
      alive s = true →
      (s.pow.clamp = true ∨ x.toNat ≤ 2075) →
      exec (.clampEngage x) s = .next s) ∧
  (∀ (s : State) (x : BitVec 16),
      alive s = true →
      s.pow.clamp = true →
      x.toNat < 1950 →
      exec (.clampRelease x) s = .next (framed (clampEnds (s.clk.ticks - s.pow.clampAt) s) s)) ∧
  (∀ (s : State) (x : BitVec 16),
      alive s = true →
      (s.pow.clamp = false ∨ 1950 ≤ x.toNat) →
      exec (.clampRelease x) s = .next s) ∧
  (∀ (s : State) (x g : BitVec 16),
      alive s = true →
      toSigned 16 x.toNat ≤ 800 →
      exec (.hotspotReading x g) s = .next (framed (modPow (fun p => { p with hot100 := 0, hot100Noted := false }) (onlyIf (decide (776 ≤ toSigned 16 x.toNat)) (endSurge 2 1) (modPow (fun p => { p with hot105 := if 840 < toSigned 16 x.toNat then p.hot105 + 1 else 0 }) (wr Obj.DIE_HOTSPOT x.toNat s)))) s)) ∧
  (∀ (s : State) (x g : BitVec 16),
      alive s = true →
      800 < toSigned 16 x.toNat →
      exec (.hotspotReading x g) s = .next (framed (hotspotOver x.toNat g.toNat (onlyIf (decide (776 ≤ toSigned 16 x.toNat)) (endSurge 2 1) (modPow (fun p => { p with hot105 := if 840 < toSigned 16 x.toNat then p.hot105 + 1 else 0 }) (wr Obj.DIE_HOTSPOT x.toNat s)))) s)) ∧
  (∀ (s : State) (x : BitVec 16),
      alive s = true →
      ((4500 ≤ x.toNat ∧ x.toNat < 4800) ∨ (5800 < x.toNat ∧ x.toNat ≤ 6000)) →
      exec (.voltageOutOfRange x) s = .next (framed (endSurge 7 1 (modPow (fun p => { p with voltOut := true }) (onlyIf (!s.pow.voltOut) (emit 0x5115 0 x.toNat) s))) s)) ∧
  (∀ (s : State) (x : BitVec 16),
      alive s = true →
      ((4800 ≤ x.toNat ∧ x.toNat ≤ 5800) ∨ x.toNat < 4500 ∨ 6000 < x.toNat) →
      exec (.voltageOutOfRange x) s = .next s) ∧
  (∀ (s : State) (x i u : BitVec 16) (f : Nat),
      alive s = true →
      flowEstimate x.toNat (toSigned 16 u.toNat - toSigned 16 i.toNat) = some f →
      exec (.flowEstimate x i u true) s = .next (framed (showBudget (inletRule i (flowRule f (coolantRead i u (some f) s)))) s)) ∧
  (∀ (s : State) (x i u : BitVec 16),
      alive s = true →
      flowEstimate x.toNat (toSigned 16 u.toNat - toSigned 16 i.toNat) = none →
      exec (.flowEstimate x i u true) s = .next (framed (showBudget (coolantRead i u none s)) s)) ∧
  (∀ (s : State) (x i u : BitVec 16),
      alive s = true →
      exec (.flowEstimate x i u false) s = .next (framed (showBudget (coolantRead i u none s)) s)) ∧
  (∀ (s : State) (x : BitVec 16),
      alive s = true →
      exec (.wearCharge x) s = .next (framed (surgeSpent (keepLedger (wearSecond (rd Obj.OP_POINT s) (toSigned 16 x.toNat) s.pow.ledger) s)) s)) ∧
  (∀ (s : State) (n : Nat),
      alive s = true →
      60 ≤ s.pow.ledgerSecs →
      (s.pins.pwrFailN = true ∨ ((s.rcd.flush.any fun f => f.powerFail) = false ∧ s.boot.saveDirty = false)) →
      n < 2 →
      exec (.ledgerWrite n) s = .next (framed ({ s with pow := { s.pow with ledgerSecs := 0 }, flash := { s.flash with ledger := s.pow.ledger } }) s)) ∧
  (∀ (s : State) (n : Nat),
      alive s = true →
      60 ≤ s.pow.ledgerSecs →
      (s.pins.pwrFailN = true ∨ ((s.rcd.flush.any fun f => f.powerFail) = false ∧ s.boot.saveDirty = false)) →
      2 ≤ n →
      exec (.ledgerWrite n) s = .next (framed (emit 0x5120 0 0 { s with pow := { s.pow with ledgerSecs := 0 } }) s))

/-- O13. FW_DATA and FW_FROM_FLOOR fill the inactive slot, FW_CONTROL checks it and makes it pending or boots it from
recovery, and fuses only rise. Rules: 17 R559, 17 R561, 17 R562, 17 R563, 17 R564, 17 R565. Model's choices: log entries
13, 46, 76 -/
def Obligations.FirmwareIsLoadedAndChecked : Prop :=
  (∀ (s : State) (w : Writer) (v : BitVec 64),
      (alive s = true ∨ s.pow.phase = .recovery) →
      accepts w 0xD010 2 v.toNat s = true →
      rd Obj.FW_OFFSET s + 8 ≤ 0x800000 →
      exec (.fwData w v) s = .next (framed (answerWith w 0 (0) [] (wr Obj.FW_STATE 1 (wr Obj.FW_OFFSET (rd Obj.FW_OFFSET s + 8)
        (setSlotCells (inactiveSlot s) (putBytes (rd Obj.FW_OFFSET s) (leBytes 8 v.toNat) (slotCells (inactiveSlot s) (clearPending s))) (clearPending s))))) s)) ∧
  (∀ (s : State) (w : Writer) (v : BitVec 64),
      (alive s = true ∨ s.pow.phase = .recovery) →
      accepts w 0xD010 2 v.toNat s = true →
      0x800000 < rd Obj.FW_OFFSET s + 8 →
      exec (.fwData w v) s = .next (framed (answerWith w 0 (0x03000004) [] (s)) s)) ∧
  (∀ (s : State) (w : Writer) (v : BitVec 64),
      alive s = true →
      accepts w 0xD010 3 v.toNat s = true →
      floorRefusal v.toNat s = 0 →
      exec (.fwFromFloor w v) s = .next (framed (answerWith w 0 ((floorTaken v.toNat (floorLength v.toNat s) (readSectors (v.toNat / 32) ((v.toNat + 8192 + floorLength v.toNat s + 31) / 32 - v.toNat / 32) s)).1) [] ((floorTaken v.toNat (floorLength v.toNat s) (readSectors (v.toNat / 32) ((v.toNat + 8192 + floorLength v.toNat s + 31) / 32 - v.toNat / 32) s)).2)) s)) ∧
  (∀ (s : State) (v len : Nat) (bs : List Byte),
      floorTaken v len (some bs, s) = (0, wr Obj.FW_STATE 1 (setSlotCells (inactiveSlot s)
        (putBytes 0 ((bs.drop (v % 32)).take (8192 + len)) (slotCells (inactiveSlot s) s)) (clearPending s)))) ∧
  (∀ (s : State) (w : Writer) (v : BitVec 64),
      alive s = true →
      accepts w 0xD010 3 v.toNat s = true →
      floorRefusal v.toNat s ≠ 0 →
      exec (.fwFromFloor w v) s = .next (framed (answerWith w 0 (floorRefusal v.toNat s) [] s) s)) ∧
  (∀ (s : State) (w : Writer),
      (alive s = true ∨ s.pow.phase = .recovery) →
      accepts w 0xD010 4 1 s = true →
      s.pow.phase ≠ .recovery →
      exec (.fwVerify w) s = .next (framed (answerWith w 0 (if imageReason (slotCells (inactiveSlot s) s) s = 0 then 0 else reasonCode (imageReason (slotCells (inactiveSlot s) s) s)) [] (if imageReason (slotCells (inactiveSlot s) s) s = 0 then
        emit 0x7004 0 (cellNum (slotCells (inactiveSlot s) s) 12 2) (wr Obj.FW_STATE 3 { s with
          flash := { s.flash with pendingSlot := some (inactiveSlot s), pendTried := false } })
      else wr Obj.FW_STATE 4 s)) s)) ∧
  (∀ (s : State) (w : Writer),
      s.pow.phase = .recovery →
      exec (.fwVerify w) s = .next (framed (command w 0xD010 4 1 (writeFwControl 1) s) s)) ∧
  (∀ (s : State) (w : Writer),
      (alive s = true ∨ s.pow.phase = .recovery) →
      accepts w 0xD010 4 2 s = true →
      exec (.fwClearPending w) s = .next (framed (answerWith w 0 (0) [] (wr Obj.FW_STATE 0 (clearPending s))) s)) ∧
  (∀ (s : State) (w : Writer) (v : BitVec 8),
      alive s = true →
      accepts w 0xD010 6 v.toNat s = true →
      s.fuse.svn < v.toNat →
      v.toNat ≤ rd Obj.IMAGE_SVN s →
      (s.flash.pendingSlot.all fun k => decide (v.toNat ≤ cellNum (slotCells k s) 12 2)) = true →
      exec (.fuseSvn w v) s = .next (framedFuse (answerWith w 0 (0) [] (emit 0x7005 0 v.toNat { s with fuse := { s.fuse with svn := v.toNat } })) s)) ∧
  (∀ (s : State) (w : Writer) (v : BitVec 8),
      alive s = true →
      accepts w 0xD010 6 v.toNat s = true →
      (v.toNat ≤ s.fuse.svn ∨ rd Obj.IMAGE_SVN s < v.toNat ∨ (s.flash.pendingSlot.all fun k => decide (v.toNat ≤ cellNum (slotCells k s) 12 2)) = false) →
      exec (.fuseSvn w v) s = .next (framedFuse (answerWith w 0 (0x06000005) [] (s)) s)) ∧
  (∀ (s : State) (w : Writer) (k : BitVec 8),
      alive s = true →
      accepts w 0xD010 7 k.toNat s = true →
      k.toNat ≠ s.boot.runKey →
      (((List.range 4).filter fun j => j != k.toNat).all fun j => bitOf s.fuse.revoked.toNat j) = false →
      exec (.revokeKey w k) s = .next (framedFuse (answerWith w 0 (0) [] (emit 0x7006 0 k.toNat { s with fuse := { s.fuse with revoked := s.fuse.revoked ||| BitVec.ofNat 4 (2 ^ k.toNat) } })) s)) ∧
  (∀ (s : State) (w : Writer) (k : BitVec 8),
      alive s = true →
      accepts w 0xD010 7 k.toNat s = true →
      (k.toNat = s.boot.runKey ∨ (((List.range 4).filter fun j => j != k.toNat).all fun j => bitOf s.fuse.revoked.toNat j) = true) →
      exec (.revokeKey w k) s = .next (framedFuse (answerWith w 0 (0x06000005) [] (s)) s))

/-- O14. ATTEST takes the report, REPORT_BUILT signs it, a measurement extends M3, and a debug token opens its scopes.
Rules: 17 R568, 17 R569, 17 R570, 17 R571, 17 R572, 17 R573, 20 R623, 09 R332. Model's choices: log entries 13, 15, 47,
48, 76, 122 -/
def Obligations.ReportsMeasuresAndDebug : Prop :=
  (∀ (s : State) (w : Writer),
      alive s = true →
      accepts w 0xD020 6 1 s = true →
      rd Obj.ATTEST_STATE s ≠ 1 →
      s.sec.keyErased = false →
      exec (.attest w) s = .next (framed (answerWith w 0 0 [] (wr Obj.ATTEST_STATE 1 { s with sec := { s.sec with attest := some (reportBody s) } })) s)) ∧
  (∀ (s : State) (w : Writer),
      alive s = true →
      accepts w 0xD020 6 1 s = true →
      rd Obj.ATTEST_STATE s = 1 →
      exec (.attest w) s = .next (framed (answerWith w 0 0x06000006 [] (s)) s)) ∧
  (∀ (s : State) (w : Writer),
      alive s = true →
      accepts w 0xD020 6 1 s = true →
      rd Obj.ATTEST_STATE s ≠ 1 →
      s.sec.keyErased = true →
      exec (.attest w) s = .next (framed (answerWith w 0 0x06000007 [] (wr Obj.ATTEST_STATE 3 s)) s)) ∧
  (∀ (s : State) (b : List Byte),
      alive s = true →
      s.sec.attest = some b →
      exec (.reportBuilt) s = .next (framed (emit 0x7010 0 0 (wr Obj.ATTEST_STATE 2 { s with sec := { s.sec with attest := none, report := b ++ Config.mldsaSign b (ascii "JZ2-ATT") } })) s)) ∧
  (∀ (s : State),
      alive s = true →
      s.sec.attest = none →
      exec (.reportBuilt) s = .next (framed s s)) ∧
  (∀ (s : State) (w : Writer) (v : BitVec 32),
      alive s = true →
      accepts w 0xD030 1 v.toNat s = true →
      (tensorOf (v.toNat % 2 ^ 24) s).state = 1 →
      exec (.measureTensor w v) s = .next (framed (answerWith w 0 0 [] (wr Obj.MEASURE_STATE 1 { takeRef (v.toNat % 2 ^ 24) s with
        sec := { (takeRef (v.toNat % 2 ^ 24) s).sec with measuring := s.sec.measuring ++ [(v.toNat % 2 ^ 24)], measWritten := !s.sec.measuring.isEmpty && s.sec.measWritten } })) s)) ∧
  (∀ (s : State) (w : Writer) (v : BitVec 32),
      alive s = true →
      accepts w 0xD030 1 v.toNat s = true →
      (tensorOf (v.toNat % 2 ^ 24) s).state ≠ 1 →
      exec (.measureTensor w v) s = .next (framed (answerWith w 0 0x0600000A [] (s)) s)) ∧
  (∀ (s : State) (t : Nat) (rest : List Nat),
      alive s = true →
      s.sec.measuring = t :: rest →
      frozenAt 7 (tensorOf t s).home s = false →
      rangeHeld (tensorOf t s).home (tensorOf t s).size s = false →
      s.sec.measWritten = false →
      snoopLines false [((tensorOf t s).home, (tensorOf t s).size)] s = [] →
      exec (.measurementDone) s = .next (framed (measured t rest (homeDigest (tensorOf t s).home (tensorOf t s).size s).1 (homeDigest (tensorOf t s).home (tensorOf t s).size s).2) s)) ∧
  (∀ (s : State) (t : Nat) (rest : List Nat),
      alive s = true →
      s.sec.measuring = t :: rest →
      frozenAt 7 (tensorOf t s).home s = false →
      rangeHeld (tensorOf t s).home (tensorOf t s).size s = true →
      exec (.measurementDone) s = .next (framed s s)) ∧
  (∀ (s : State) (t : Nat) (rest : List Nat),
      alive s = true →
      s.sec.measuring = t :: rest →
      frozenAt 7 (tensorOf t s).home s = false →
      rangeHeld (tensorOf t s).home (tensorOf t s).size s = false →
      s.sec.measWritten = true →
      exec (.measurementDone) s = .next (framed (measured t rest none s) s)) ∧
  (∀ (s : State) (t : Nat) (rest : List Nat),
      alive s = true →
      s.sec.measuring = t :: rest →
      frozenAt 7 (tensorOf t s).home s = true →
      exec (.measurementDone) s = .next (framed s s)) ∧
  (∀ (s : State),
      alive s = true →
      s.sec.measuring = [] →
      exec (.measurementDone) s = .next (framed s s)) ∧
  (∀ (s : State) (w : Writer) (v : BitVec 64),
      alive s = true →
      accepts w 0xD040 3 v.toNat s = true →
      exec (.tokenData w v) s = .next (framed (answerWith w 0 0 [] (bumpBy 8 Obj.TOKEN_OFFSET { s with sec := { s.sec with token := putBytes (rd Obj.TOKEN_OFFSET s) (leBytes 8 v.toNat) s.sec.token } })) s)) ∧
  (∀ (s : State) (w : Writer),
      alive s = true →
      accepts w 0xD040 4 1 s = true →
      s.sec.refusals < 3 →
      exec (.debugSubmit w) s = .next (framed (if tokenOk s = true then
        answerWith w 0 0 [] (openScopes (cellNum s.sec.token 4 4 % 8) { s with sec := { s.sec with challenge := s.sec.challenge + 1 } })
      else answerWith w 0 0x06000008 [] (emit 0x7021 0 (s.sec.refusals + 1) { s with sec := { s.sec with challenge := s.sec.challenge + 1, refusals := s.sec.refusals + 1 } })) s)) ∧
  (∀ (s : State) (w : Writer),
      alive s = true →
      accepts w 0xD040 4 1 s = true →
      3 ≤ s.sec.refusals →
      exec (.debugSubmit w) s = .next (framed (answerWith w 0 0x06000009 [] (s)) s)) ∧
  (∀ (s : State) (w : Writer),
      alive s = true →
      accepts w 0xD040 4 2 s = true →
      exec (.debugClose w) s = .next (framed (answerWith w 0 0 [] (loadTap s.sec.tap (wr Obj.DEBUG_SCOPE 0 s))) s)) ∧
  (∀ (s : State) (i : TapInstr),
      rd Obj.DEBUG_SCOPE s = 0 →
      (loadTap i s).sec.tap = .bypass ∨ (loadTap i s).sec.tap = .idcode)

/-- O15. Power, PERST_N, PWR_FAIL_N, LASER_EN and the CXL function-level reset put the module in the states of chapter 18.
Rules: 14 R488, 14 R504, 16 R557, 18 R575, 18 R576, 18 R577, 18 R578, 18 R581, 20 R622, 20 R625, 20 R628. Model's
choices: log entries 1, 19, 64, 65, 99 -/
def Obligations.PowerPinsAndResetsAct : Prop :=
  (∀ (s : State) (i : BitVec 6) (r p f l : Bool),
      s.pow.phase = .unpowered →
      exec (.powerOn i r p f l) s = .next (framedReset (tryBringup (emit 0x9603 0 0 (coldReset { s with pins := ⟨p, f, l, i, r⟩ }))) s)) ∧
  (∀ (s : State) (i : BitVec 6) (r p f l : Bool),
      s.pow.phase ≠ .unpowered →
      exec (.powerOn i r p f l) s = .next (framedReset s s)) ∧
  (∀ (s : State),
      s.pow.phase ≠ .unpowered →
      exec (.powerRemoved) s = .next (framedReset ({ wholeReset (dropFlush s) with pow := { (wholeReset (dropFlush s)).pow with phase := .unpowered } }) s)) ∧
  (∀ (s : State),
      s.pow.phase = .unpowered →
      exec (.powerRemoved) s = .next (framedReset s s)) ∧
  (∀ (s : State),
      s.pow.phase ≠ .unpowered →
      s.pow.phase ≠ .held →
      exec (.perstNFall) s = .next (framedReset ({ perstReset s with pins := { (perstReset s).pins with perstN := false } }) s)) ∧
  (∀ (s : State),
      (s.pow.phase = .unpowered ∨ s.pow.phase = .held) →
      exec (.perstNFall) s = .next (framedReset ({ s with pins := { (s).pins with perstN := false } }) s)) ∧
  (∀ (s : State) (i : BitVec 6) (r : Bool),
      exec (.perstNResetEnd i r) s = .next (framed (tryBringup { s with pins := { s.pins with perstN := true, slotId := i, role := r } }) s)) ∧
  (∀ (s : State),
      s.pow.phase = .active →
      exec (.pwrFailNFall) s = .next (framed (powerFailing { s with pins := { s.pins with pwrFailN := false } }) s)) ∧
  (∀ (s : State),
      s.pow.phase = .halted →
      exec (.pwrFailNFall) s = .next (framed (powerFailing { s with pins := { s.pins with pwrFailN := false } }) s)) ∧
  (∀ (s : State),
      s.pow.phase = .held →
      exec (.pwrFailNFall) s = .next (framed (requestFlush 0x5903 0 true { s with pins := { s.pins with pwrFailN := false } }) s)) ∧
  (∀ (s : State),
      (s.pow.phase = .unpowered ∨ s.pow.phase = .recovery) →
      exec (.pwrFailNFall) s = .next (framed ({ s with pins := { s.pins with pwrFailN := false } }) s)) ∧
  (∀ (s : State),
      exec (.pwrFailNRise) s = .next (framed (tryBringup { s with pins := { s.pins with pwrFailN := true } }) s)) ∧
  (∀ (s : State),
      alive s = true →
      exec (.inputUndervoltage) s = .next (framed (powerFailing s) s)) ∧
  (∀ (s : State),
      alive s = true →
      exec (.laserEnFall) s = .next (framed (forEach (List.range 64) (fun k t => onlyIf ((linkOf k t).state != .lockedOut) (darken k 1) t) { s with pins := { s.pins with laserEn := false }, net := { s.net with laserOn := false } }) s)) ∧
  (∀ (s : State),
      alive s = true →
      2 ≤ s.boot.stepDone →
      exec (.laserEnRise) s = .next (framed (lightLinks { s with pins := { s.pins with laserEn := true }, net := { s.net with laserOn := true } }) s)) ∧
  (∀ (s : State),
      (alive s = false ∨ s.boot.stepDone < 2) →
      exec (.laserEnRise) s = .next (framed ({ s with pins := { s.pins with laserEn := true } }) s)) ∧
  (∀ (s : State) (a : BitVec 7),
      answers ⟨.i3c, 0⟩ s = true →
      exec (.dynamicAddressAssignment a) s = .next (framed ({ s with boot := { s.boot with i3cAddr := a.toNat } }) s)) ∧
  (∀ (s : State),
      alive s = true →
      s.host.up = true →
      exec (.functionLevelReset) s = .next (framed (hostFunctionReset s) s)) ∧
  (∀ (s : State),
      alive s = true →
      s.host.up = false →
      exec (.functionLevelReset) s = .next (framed s s))

/-- O16. The bring-up steps boot firmware, memory, optics, the host port, the Count, the settings and READY, each only in
its turn. Rules: 07 R247, 07 R260, 07 R262, 17 R558, 17 R559, 17 R562, 18 R582, 18 R583, 18 R584, 18 R585, 18 R586, 18
R588. Model's choices: log entries 5, 66, 67, 68, 123, 132 -/
def Obligations.BringupGoesStepByStep : Prop :=
  (∀ (s : State),
      alive s = true →
      s.boot.stepDone = 0 →
      s.boot.fwRunning = false →
      rd Obj.FAULT_STATE s = 0 →
      s.flash.pendingSlot = none →
      exec (.controllerBoot) s = .next (framed (bootTry s.flash.currentSlot false s) s)) ∧
  (∀ (s : State) (k : Nat),
      alive s = true →
      s.boot.stepDone = 0 →
      s.boot.fwRunning = false →
      rd Obj.FAULT_STATE s = 0 →
      s.flash.pendingSlot = some k →
      s.flash.pendTried = true →
      exec (.controllerBoot) s = .next (framed (bootTry (1 - k) false (emit 0x7002 0 (k * 16) (clearPending s))) s)) ∧
  (∀ (s : State) (k : Nat),
      alive s = true →
      s.boot.stepDone = 0 →
      s.boot.fwRunning = false →
      rd Obj.FAULT_STATE s = 0 →
      s.flash.pendingSlot = some k →
      s.flash.pendTried = false →
      exec (.controllerBoot) s = .next (framed (bootTry k true { s with flash := { s.flash with pendTried := true } }) s)) ∧
  (∀ (s : State),
      alive s = true →
      (s.boot.stepDone ≠ 0 ∨ s.boot.fwRunning = true ∨ rd Obj.FAULT_STATE s ≠ 0) →
      exec (.controllerBoot) s = .next (framed s s)) ∧
  (∀ (s : State) (rt : List (Nat × Bool)) (un : List Nat) (errs : List (Nat × Nat × BitVec 288)),
      alive s = true →
      atStep 2 s = true →
      (rt.filter (·.2)).map (·.1) = un →
      bringupLosses un errs = [] →
      exec (.memoryBringup rt errs) s = .next (framed (stepEnds 2 (writeHeader (startPatrols (forEach ((rt.map (·.1)).filter (· < 304)) (fun u => emit 0x1704 u u) { s with mem := Memory.init })))) s)) ∧
  (∀ (s : State) (rt : List (Nat × Bool)) (un : List Nat) (errs : List (Nat × Nat × BitVec 288)),
      alive s = true →
      atStep 2 s = true →
      (rt.filter (·.2)).map (·.1) = un →
      bringupLosses un errs ≠ [] →
      exec (.memoryBringup rt errs) s = .next (framed (forEach (bringupLosses un errs) (fun p => loseUnit p.1 p.2) (forEach ((rt.map (·.1)).filter (· < 304)) (fun u => emit 0x1704 u u) { s with mem := Memory.init })) s)) ∧
  (∀ (un : List Nat) (errs : List (Nat × Nat × BitVec 288)) (u : Nat),
      u < 304 →
      selfCheckFails errs u = true →
      (lossUnit u, 10) ∈ bringupLosses un errs) ∧
  (∀ (s : State) (t : State),
      alive s = true →
      atStep 3 s = true →
      (t = (if s.pins.laserEn = true ∧ s.net.laserOn = false then lightLinks { s with net := { s.net with laserOn := true } } else s)) →
      (t.pins.laserEn = false ∨ (t.links.any fun l => l.state == .training) = false) →
      exec (.opticsBringup) s = .next (framed (stepEnds 3 t) s)) ∧
  (∀ (s : State) (t : State),
      alive s = true →
      atStep 3 s = true →
      (t = (if s.pins.laserEn = true ∧ s.net.laserOn = false then lightLinks { s with net := { s.net with laserOn := true } } else s)) →
      t.pins.laserEn = true →
      (t.links.any fun l => l.state == .training) = true →
      exec (.opticsBringup) s = .next (framed t s)) ∧
  (∀ (s : State) (w r : Nat),
      alive s = true →
      atStep 4 s = true →
      exec (.cxlBringup 0 w r) s = .next (framed (stepEnds 4 { hostLinkUp w r s with boot := { (hostLinkUp w r s).boot with memoryActive := true } }) s)) ∧
  (∀ (s : State) (w r : Nat),
      alive s = true →
      atStep 4 s = true →
      exec (.cxlBringup 1 w r) s = .next (framed (stepEnds 4 s) s)) ∧
  (∀ (s : State) (n w r : Nat),
      alive s = true →
      atStep 4 s = true →
      2 ≤ n →
      exec (.cxlBringup n w r) s = .next (framed (stepEnds 4 (emit 0x6002 0 0 s)) s)) ∧
  (∀ (s : State),
      alive s = true →
      atStep 5 s = true →
      s.tim.servo = .locked →
      exec (.countLock) s = .next (framed (stepEnds 5 s) s)) ∧
  (∀ (s : State),
      alive s = true →
      atStep 5 s = true →
      s.tim.servo ≠ .locked →
      s.boot.stepAt + 1000000000 * rd Obj.COUNT_WAIT s ≤ s.clk.ticks →
      exec (.countWaitExpire) s = .next (framed (stepEnds 5 (emit 0x9602 0 (rd Obj.SERVO_STATE s) s)) s)) ∧
  (∀ (s : State),
      alive s = true →
      atStep 6 s = true →
      imageNow s = [] →
      exec (.settingsApply) s = .next (framed (stepEnds 6 { s with boot := { (s).boot with saveDirty := s.boot.saveDirty, early := [] } }) s)) ∧
  (∀ (s : State) (t : State),
      alive s = true →
      atStep 6 s = true →
      (imageNow s).isEmpty = false →
      validated ((imageNow s).map fun p => ⟨p.1, p.2⟩) s = (none, t) →
      exec (.settingsApply) s = .next (framed (stepEnds 6 { emit 0x9301 0 0x807F (bump Obj.COMMITS (wr Obj.LAST_APPLIED (now t) (restoreAsym (imageNow s) t))) with boot := { (emit 0x9301 0 0x807F (bump Obj.COMMITS (wr Obj.LAST_APPLIED (now t) (restoreAsym (imageNow s) t)))).boot with saveDirty := s.boot.saveDirty, early := [] } }) s)) ∧
  (∀ (s : State) (x : Failure) (t : State),
      alive s = true →
      atStep 6 s = true →
      (imageNow s).isEmpty = false →
      validated ((imageNow s).map fun p => ⟨p.1, p.2⟩) s = (some x, t) →
      exec (.settingsApply) s = .next (framed (stepEnds 6 { emit 0x9303 0 0 (savedDefaults s) with boot := { (emit 0x9303 0 0 (savedDefaults s)).boot with saveDirty := s.boot.saveDirty, early := [] } }) s)) ∧
  (∀ (s : State) (up : Bool),
      alive s = true →
      atStep 7 s = true →
      s.boot.ready = false →
      exec (.ready up) s = .next (framed (forEach [0, 1, 3, 4, 6] startFn (emit 0x9601 0 (bringupMs up s) (wr Obj.BRINGUP_MS (bringupMs up s) { s with boot := { s.boot with ready := true, fromPending := false }, flash := readyFlash s }))) s)) ∧
  (∀ (s : State) (rt : List (Nat × Bool)) (errs : List (Nat × Nat × BitVec 288)),
      alive s = true →
      atStep 2 s = false →
      exec (.memoryBringup rt errs) s = .next (framed s s)) ∧
  (∀ (s : State),
      alive s = true →
      atStep 3 s = false →
      exec (.opticsBringup) s = .next (framed s s)) ∧
  (∀ (s : State) (n w r : Nat),
      alive s = true →
      atStep 4 s = false →
      exec (.cxlBringup n w r) s = .next (framed s s)) ∧
  (∀ (s : State),
      alive s = true →
      atStep 5 s = false →
      exec (.countLock) s = .next (framed s s)) ∧
  (∀ (s : State),
      alive s = true →
      atStep 5 s = false →
      exec (.countWaitExpire) s = .next (framed s s)) ∧
  (∀ (s : State),
      alive s = true →
      atStep 6 s = false →
      exec (.settingsApply) s = .next (framed s s)) ∧
  (∀ (s : State) (up : Bool),
      alive s = true →
      atStep 7 s = false →
      exec (.ready up) s = .next (framed s s))

/-- O17. FUNCTION_RESET of 0x5A resets one function as 18 R579 says, fails a commit that names it, discards its staged
values and reports 0x9604. Rules: 13 R460, 18 R575, 18 R576, 18 R579, 18 R580. Model's choices: log entries 64, 74, 95 -/
def Obligations.FunctionsReset : Prop :=
  (∀ (s : State) (w : Writer) (f : Nat),
      alive s = true →
      accepts w 0x2040 (f + 1) 0x5A s = true →
      f ≤ 1 →
      inSitout s = false →
      exec (.functionReset w f) s = .next (framedClk (answerWith w 0 0 [] (resetCores (beforeReset f s))) s)) ∧
  (∀ (s : State) (w : Writer) (f : Nat),
      alive s = true →
      accepts w 0x2040 (f + 1) 0x5A s = true →
      f = 2 →
      inSitout s = false →
      exec (.functionReset w f) s = .next (framedClk (answerWith w 0 0 [] (resetUpdates (beforeReset f s))) s)) ∧
  (∀ (s : State) (w : Writer) (f : Nat),
      alive s = true →
      accepts w 0x2040 (f + 1) 0x5A s = true →
      f = 3 →
      exec (.functionReset w f) s = .next (framedClk (answerWith w 0 0 [] (resetCollectives (beforeReset f s))) s)) ∧
  (∀ (s : State) (w : Writer) (f : Nat),
      alive s = true →
      accepts w 0x2040 (f + 1) 0x5A s = true →
      f = 4 →
      exec (.functionReset w f) s = .next (framedClk (answerWith w 0 0 [] (resetLinks (beforeReset f s))) s)) ∧
  (∀ (s : State) (w : Writer) (f : Nat),
      alive s = true →
      accepts w 0x2040 (f + 1) 0x5A s = true →
      f = 5 →
      exec (.functionReset w f) s = .next (framedClk (answerWith w 0 0 [] (resetCaller (beforeReset f s))) s)) ∧
  (∀ (s : State) (w : Writer) (f : Nat),
      alive s = true →
      accepts w 0x2040 (f + 1) 0x5A s = true →
      f = 6 →
      exec (.functionReset w f) s = .next (framedClk (answerWith w 0 0 [] (resetRecorder (beforeReset f s))) s)) ∧
  (∀ (s : State) (w : Writer) (f : Nat),
      alive s = true →
      accepts w 0x2040 (f + 1) 0x5A s = true →
      f ≤ 2 →
      inSitout s = true →
      exec (.functionReset w f) s = .next (framedClk (answerWith w 0 0x03000003 [] s) s))

/-- O18. A swap waits for a LOADING shadow and aborts on an EMPTY one (R116). Rules: 04 R116. -/
def Obligations.SwapsWaitOrAbort : Prop :=
  (∀ (s t : State) (c : Nat) (w : BitVec 256),
      alive s = true →
      Issues c w t s →
      cmdOk w.toNat = true →
      cmdOp w.toNat = 0x03 →
      gangBroken c (fld w.toNat 247 244) t = false →
      (∀ a ∈ arraysOf (fld w.toNat 247 244), (arrayOf c a t).shadow ≠ .empty) →
      (∃ a ∈ arraysOf (fld w.toNat 247 244), (arrayOf c a t).shadow = .loading) →
      exec (.swap c) s = .next (framed t s)) ∧
  (∀ (s t : State) (c : Nat) (w : BitVec 256),
      alive s = true →
      Issues c w t s →
      cmdOk w.toNat = true →
      cmdOp w.toNat = 0x03 →
      (∃ a ∈ arraysOf (fld w.toNat 247 244), (arrayOf c a t).shadow = .empty) →
      exec (.swap c) s = .next (framed (faultTask c 0x2204 0 t) s)) ∧
  (∀ (s t : State) (c acc : Nat) (w : BitVec 256) (errs : List (Nat × BitVec 288)) (k : Nat → List (Nat × BitVec 288) → Instr),
      (acc, k) ∈ passRows →
      alive s = true →
      Issues c w t s →
      cmdOk w.toNat = true →
      cmdOp w.toNat = 0x04 →
      fld w.toNat 238 237 = acc →
      bitOf w.toNat 239 = true →
      t.pow.passHold = false →
      t.pow.clamp = false →
      gangBroken c (fld w.toNat 247 244) t = false →
      (∀ a ∈ arraysOf (fld w.toNat 247 244), (arrayOf c a t).shadow ≠ .empty) →
      (∃ a ∈ arraysOf (fld w.toNat 247 244), (arrayOf c a t).shadow = .loading) →
      exec (k c errs) s = .next (framed t s)) ∧
  (∀ (s t : State) (c acc : Nat) (w : BitVec 256) (errs : List (Nat × BitVec 288)) (k : Nat → List (Nat × BitVec 288) → Instr),
      (acc, k) ∈ passRows →
      alive s = true →
      Issues c w t s →
      cmdOk w.toNat = true →
      cmdOp w.toNat = 0x04 →
      fld w.toNat 238 237 = acc →
      bitOf w.toNat 239 = true →
      t.pow.passHold = false →
      t.pow.clamp = false →
      (∃ a ∈ arraysOf (fld w.toNat 247 244), (arrayOf c a t).shadow = .empty) →
      exec (k c errs) s = .next (framed (faultTask c 0x2204 0 t) s))

/-- O19. A wait on a flag completes exactly when the generation has reached its target modulo 2^31 (R143). Rules: 04 R143. -/
def Obligations.FlagWaitsCompleteByDistance : Prop :=
  (∀ (g t : Nat),
      g < 2 ^ 31 →
      t < 2 ^ 31 →
      (reached g t = true ↔ ((g : Int) - (t : Int)) % 2 ^ 31 < 2 ^ 30)) ∧
  (∀ (s t : State) (c : Nat) (w : BitVec 256),
      alive s = true →
      Issues c w t s →
      cmdOk w.toNat = true →
      cmdOp w.toNat = 0x30 →
      bitOf w.toNat 247 = true →
      reached (coreFlag (fld w.toNat 246 239) t) (fld w.toNat 238 208) = true →
      exec (.fwait c) s = .next (framed (advance c (modCore c (fun k => { k with outcome := 0 }) t)) s)) ∧
  (∀ (s t : State) (c : Nat) (w : BitVec 256),
      alive s = true →
      Issues c w t s →
      cmdOk w.toNat = true →
      cmdOp w.toNat = 0x30 →
      bitOf w.toNat 247 = true →
      reached (coreFlag (fld w.toNat 246 239) t) (fld w.toNat 238 208) = false →
      exec (.fwait c) s = .next (framed (holdCmd c (fld w.toNat 206 191) t) s)) ∧
  (∀ (s t : State) (c : Nat) (w : BitVec 256),
      alive s = true →
      Issues c w t s →
      cmdOk w.toNat = true →
      cmdOp w.toNat = 0x30 →
      bitOf w.toNat 247 = false →
      reached (flagGen (fld w.toNat 246 239) t) (fld w.toNat 238 208) = false →
      exec (.fwait c) s = .next (framed (holdCmd c (fld w.toNat 206 191) t) s)) ∧
  (∀ (s t : State) (c : Nat) (w : BitVec 256),
      alive s = true →
      Issues c w t s →
      cmdOk w.toNat = true →
      cmdOp w.toNat = 0x30 →
      bitOf w.toNat 247 = false →
      reached (flagGen (fld w.toNat 246 239) t) (fld w.toNat 238 208) = true →
      flagOutcome (fld w.toNat 246 239) t = 0 →
      exec (.fwait c) s = .next (framed (advance c (modCore c (fun k => { k with outcome := 0 }) t)) s))

/-- O20. A failed programming of a flush is tried once more in the next erased slot, and a second failure writes 0x9503 at
S2 (R523). Rules: 15 R523. -/
def Obligations.FailedProgrammingRetriesOnce : Prop :=
  (∀ (s : State) (f : FlushRun) (img : RecImage) (k : Nat),
      flushAlive s = true →
      s.rcd.flush = some f →
      f.snap = some img →
      f.retried = false →
      erasedSlot (setSlot f.slot ⟨.invalid, none⟩ s) = some k →
      exec (.flushComplete false) s = .next (framed ({ setSlot f.slot ⟨.invalid, none⟩ s with rcd := { (setSlot f.slot ⟨.invalid, none⟩ s).rcd with flush := some { f with retried := true, slot := k } } }) s)) ∧
  (∀ (s : State) (f : FlushRun) (img : RecImage),
      flushAlive s = true →
      s.rcd.flush = some f →
      f.snap = some img →
      f.retried = true →
      exec (.flushComplete false) s = .next (framed (nextFlush (emit 0x9503 0 f.slot (setSlot f.slot ⟨.invalid, none⟩ s))) s)) ∧
  (∀ (s : State) (f : FlushRun) (img : RecImage),
      flushAlive s = true →
      s.rcd.flush = some f →
      f.snap = some img →
      f.retried = false →
      erasedSlot (setSlot f.slot ⟨.invalid, none⟩ s) = none →
      exec (.flushComplete false) s = .next (framed (nextFlush (emit 0x9503 0 f.slot (setSlot f.slot ⟨.invalid, none⟩ s))) s)) ∧
  (severity 0x9503 = 2)

/-- O21. While a collective slot is held, a write that sets the COLLECTIVE bit of FREEZE is refused with 0x0300_0004 (R600).
Rules: 19 R600. -/
def Obligations.HeldCollectivesRefuseFreeze : Prop :=
  (∀ (s : State) (w : Writer) (v : BitVec 8),
      alive s = true →
      accepts w 0x6201 1 v.toNat s = true →
      bitOf v.toNat 0 = true →
      s.col.slots ≠ [] →
      exec (.freeze w v) s = .next (framed (answerWith w 0 0x03000004 [] s) s)) ∧
  (∀ (s : State) (c : Instr) (w : Writer) (tag len v : Nat),
      writesObject c w tag 0x6201 1 len v →
      requestTaken w 0x6201 1 s = true →
      writeGate w 0x6201 1 len v s = 0 →
      nth false s.dict.stageMode (transportNum w.via) = false →
      bitOf v 0 = true →
      s.col.slots ≠ [] →
      exec c s = .next (framedWrite 0x6201 1 (answerWith w tag 0x03000004 [] s) s))

/-- O22. A read of the Count returns the Count of one tick, both halves of it (R28). Rules: 02 R28. -/
def Obligations.CountReadsAsOneValue : Prop :=
  ∀ (s : State) (w : Writer) (a : BitVec 16) (b d : BitVec 24),
      dictIndex (dictHeader a b d) = 0x3000 →
      dictSub (dictHeader a b d) = 1 →
      headerCheck 1 (dictHeader a b d) 0 = 0 →
      requestTaken w 0x3000 1 s = true →
      firmwareDown s = false →
      exec (.dictRead w a b d) s = .next (framed (answerAs w 1 (dictTag (dictHeader a b d)) 0 (leBytes 8 (now s)) s) s)

/-- O23. A written sector reads back as written, and no other byte of memory changes. Rules: 06 R195, 06 R203. Model's
choices: log entries 5, 6 -/
def Obligations.SectorsKeepWhatIsWritten : Prop :=
  ∀ (s : State) (n : Nat) (x : Sector),
      Memory.wf s.mem = true →
      rdSector n (wrSector n x s) = x ∧ (∀ m, m ≠ n → rdSector m (wrSector n x s) = rdSector m s) ∧
      (∀ a, a / 32 ≠ n → rdByte a (wrSector n x s) = rdByte a s) ∧ Memory.wf (wrSector n x s).mem = true

/-- O24. A step with a command waiting is that command on the queue's rest; with none waiting it idles. Rules: chapter 95.
Model's choices: log entry 2 (the empty queue) -/
def Obligations.StepRunsTheFrontCommand : Prop :=
  (∀ (s : State) (c : Instr) (q : List Instr),
      step (s.withQueue (c :: q)) = exec c (s.withQueue q)) ∧
  (∀ (s : State),
      s.pending = [] →
      step s = .next s)

/-- O25. After reset no command waits, the Count is 0, every function is Stopped and every object reads its default. Rules:
02 R29, 02 R59, 18 R576, 18 R587, 13 R452. Model's choices: log entries 1, 5 -/
def Obligations.ResetLeavesTheStatedValues : Prop :=
  (State.reset.pending = [] ∧ State.reset.clk.count = 0 ∧ (∀ f < 7, runOf f State.reset = .stopped) ∧ State.reset.tasks = [] ∧
      (∀ k < 64, linkLive k State.reset = false) ∧ (∀ n < 256, flagGen n State.reset = 0)) ∧
  (∀ (r : RegId),
      r.dflt < 2 ^ 64 →
      rd r State.reset = r.dflt) ∧
  (Memory.wf State.reset.mem = true ∧ (∀ a, rdByte a State.reset = 0))

/-- O26. Every step answers a next state, and takes exactly one command from the queue. Rules: chapter 95. Model's choices:
log entries 4, 18 (no command faults, is refused or touches the queue) -/
def Obligations.EveryStepTakesOneCommand : Prop :=
  ∀ (s : State) (c : Instr) (q : List Instr),
      s.pending = c :: q →
      ∃ t, step s = .next t ∧ t.pending = q

/-- O27. Only the clock, its sources, power, resets of the module and of the Caller move the Count. Rules: 02 R27, 02 R29,
02 R31, 18 R579. Model's choices: log entry 18 -/
def Obligations.CountHasFewMovers : Prop :=
  ∀ (s : State) (t : State) (c : Instr),
      movesCount c = false →
      exec c s = .next t →
      t.clk = s.clk

/-- O28. No command lowers the fused security version or clears a revoked key. Rules: 17 R564, 17 R565, 18 R576. Model's
choices: log entry 18 -/
def Obligations.FusesOnlyRise : Prop :=
  ∀ (s t : State) (v k : Nat),
      step s = .next t →
      v ≤ s.fuse.svn →
      bitOf s.fuse.revoked.toNat k = true →
      v ≤ t.fuse.svn ∧ bitOf t.fuse.revoked.toNat k = true

/-- O29. A module without power, in reset, in recovery or halted takes no command but those of power, pins, dictionary and
recorder. Rules: 14 R499, 16 R557, 17 R563, 18 R576. Model's choices: log entry 19 -/
def Obligations.DeadModuleIgnoresCommands : Prop :=
  ∀ (s : State) (c : Instr),
      alive s = false →
      actsAlways c = false →
      exec c s = .next s

/-- O30. The commands of time, doorbells, links, power, recorder and errors store nothing: every byte and sector of memory
reads as before. Rules: 06 R193, 06 R195, chapter 95. Model's choices: log entries 4, 6, 77 -/
def Obligations.MemoryStaysOutsideStores : Prop :=
  ∀ (s : State) (t : State) (c : Instr),
      storesNothing c = true →
      exec c s = .next t →
      (∀ a, rdByte a t = rdByte a s) ∧ (∀ n, rdSector n t = rdSector n s)

/-- O31. LOOP, BRANCH, FLAG, SYNC, CWAIT and FWAIT issue, wait and jump as their command says, and END completes a task.
Rules: 04 R142, 04 R143, 04 R144, 04 R145, 04 R146, 04 R147. Model's choices: log entries 7, 8, 81, 83, 84 -/
def Obligations.FlowCommandsIssue : Prop :=
  (∀ (s t : State) (c : Nat) (w : BitVec 256),
      alive s = true →
      Issues c w t s →
      cmdOk w.toNat = true →
      cmdOp w.toNat = 0x40 →
      exec (.loop c) s = .next (framed (advance c (modCore c (fun k =>
        { k with ctrs := k.ctrs.set (fld w.toNat 247 246) (fld w.toNat 245 222) }) t)) s)) ∧
  (∀ (s t : State) (c : Nat) (w : BitVec 256),
      alive s = true →
      Issues c w t s →
      cmdOk w.toNat = true →
      cmdOp w.toNat = 0x41 →
      (nth 0 (coreOf c t).ctrs (fld w.toNat 247 246) + (2 ^ 24 - 1)) % 2 ^ 24 ≠ 0 →
      exec (.branch c) s = .next (framed (goTo c
        (ofSigned 24 (((coreOf c t).pc : Int) + toSigned 16 (fld w.toNat 245 230)))
        (modCore c (fun k => { k with
          ctrs := k.ctrs.set (fld w.toNat 247 246) ((nth 0 (coreOf c t).ctrs (fld w.toNat 247 246) + (2 ^ 24 - 1)) % 2 ^ 24) }) t)) s)) ∧
  (∀ (s t : State) (c : Nat) (w : BitVec 256),
      alive s = true →
      Issues c w t s →
      cmdOk w.toNat = true →
      cmdOp w.toNat = 0x41 →
      (nth 0 (coreOf c t).ctrs (fld w.toNat 247 246) + (2 ^ 24 - 1)) % 2 ^ 24 = 0 →
      exec (.branch c) s = .next (framed (advance c
        (modCore c (fun k => { k with ctrs := k.ctrs.set (fld w.toNat 247 246) 0 }) t)) s)) ∧
  (∀ (s t : State) (c : Nat) (w : BitVec 256),
      alive s = true →
      Issues c w t s →
      cmdOk w.toNat = true →
      cmdOp w.toNat = 0x31 →
      exec (.flag c) s = .next (framed (contributeReady (coreFlagUp (fld w.toNat 247 242) (advance c t))) s)) ∧
  (∀ (s t : State) (c : Nat) (w : BitVec 256),
      alive s = true →
      Issues c w t s →
      cmdOk w.toNat = true →
      cmdOp w.toNat = 0x32 →
      syncMet c w.toNat t = true →
      exec (.sync c) s = .next (framed (advance c t) s)) ∧
  (∀ (s t : State) (c : Nat) (w : BitVec 256),
      alive s = true →
      Issues c w t s →
      cmdOk w.toNat = true →
      cmdOp w.toNat = 0x32 →
      syncMet c w.toNat t = false →
      exec (.sync c) s = .next (framed (holdCmd c 0 t) s)) ∧
  (∀ (s t : State) (c : Nat) (w : BitVec 256) (x : Stream),
      alive s = true →
      Issues c w t s →
      cmdOk w.toNat = true →
      cmdOp w.toNat = 0x21 →
      heldStream (streamEng c (fld w.toNat 247 246) t) = some x →
      fld w.toNat 245 228 ≤ x.size →
      cwaitMet c w.toNat t = true →
      exec (.cwait c) s = .next (framed (advance c t) s)) ∧
  (∀ (s t : State) (c : Nat) (w : BitVec 256) (x : Stream),
      alive s = true →
      Issues c w t s →
      cmdOk w.toNat = true →
      cmdOp w.toNat = 0x21 →
      heldStream (streamEng c (fld w.toNat 247 246) t) = some x →
      fld w.toNat 245 228 ≤ x.size →
      cwaitMet c w.toNat t = false →
      exec (.cwait c) s = .next (framed (holdCmd c (fld w.toNat 227 212) t) s)) ∧
  (∀ (s t : State) (c : Nat) (w : BitVec 256),
      alive s = true →
      Issues c w t s →
      cmdOk w.toNat = true →
      cmdOp w.toNat = 0x30 →
      fwaitMet w.toNat t = true →
      (bitOf w.toNat 247 = true ∨ flagOutcome (fld w.toNat 246 239) t = 0 ∨ bitOf w.toNat 207 = true) →
      exec (.fwait c) s = .next (framed (advance c (modCore c (fun k => { k with
        outcome := if bitOf w.toNat 247 then 0 else flagOutcome (fld w.toNat 246 239) t }) t)) s)) ∧
  (∀ (s t : State) (c : Nat) (w : BitVec 256),
      alive s = true →
      Issues c w t s →
      cmdOk w.toNat = true →
      cmdOp w.toNat = 0x30 →
      fwaitMet w.toNat t = true →
      bitOf w.toNat 247 = false →
      flagOutcome (fld w.toNat 246 239) t = 1 →
      bitOf w.toNat 207 = false →
      exec (.fwait c) s = .next (framed (faultTask c 0x2203 0 (modCore c (fun k => { k with outcome := 1 }) t)) s)) ∧
  (∀ (s t : State) (c : Nat) (w : BitVec 256),
      alive s = true →
      Issues c w t s →
      cmdOk w.toNat = true →
      cmdOp w.toNat = 0x30 →
      fwaitMet w.toNat t = false →
      exec (.fwait c) s = .next (framed (holdCmd c (fld w.toNat 206 191) t) s)) ∧
  (∀ (s t : State) (c : Nat) (w : BitVec 256) (a : Nat),
      alive s = true →
      Issues c w t s →
      cmdOk w.toNat = true →
      (coreOf c s).waitAt = some a →
      (coreOf c s).status = 2 →
      (coreOf c s).waitTmo ≠ 0 →
      a + (coreOf c s).waitTmo * 2 ^ beatB s ≤ s.clk.ticks →
      ((cmdOp w.toNat = 0x30 ∧ fwaitMet w.toNat s = false) ∨ (cmdOp w.toNat = 0x21 ∧ cwaitMet c w.toNat s = false)) →
      exec (.waitTimeout c) s = .next (framed (faultTask c 0x2203 0 t) s)) ∧
  (∀ (s t : State) (c : Nat) (w : BitVec 256),
      alive s = true →
      Issues c w t s →
      cmdOk w.toNat = true →
      cmdOp w.toNat = 0x7F →
      coreIdle (coreOf c t) = false →
      exec (.seqEnd c) s = .next (framed (holdCmd c 0 t) s)) ∧
  (∀ (s t : State) (c : Nat) (w : BitVec 256),
      alive s = true →
      Issues c w t s →
      cmdOk w.toNat = true →
      cmdOp w.toNat = 0x7F →
      coreIdle (coreOf c t) = true →
      (coreOf c t).task.isNone = false →
      (∀ e < 4, (streamEng c e t).run = none) →
      (coreOf c t).engines.length = 4 →
      exec (.seqEnd c) s = .next (framed (coreEnded c t) s)) ∧
  (∀ (s t : State) (c : Nat) (w : BitVec 256),
      alive s = true →
      Issues c w t s →
      cmdOk w.toNat = false →
      exec (.loop c) s = .next (framed (faultTask c 0x2201 (coreOf c s).pc t) s) ∧
      exec (.branch c) s = .next (framed (faultTask c 0x2201 (coreOf c s).pc t) s) ∧
      exec (.flag c) s = .next (framed (faultTask c 0x2201 (coreOf c s).pc t) s) ∧
      exec (.mode c) s = .next (framed (faultTask c 0x2201 (coreOf c s).pc t) s) ∧
      exec (.seqEnd c) s = .next (framed (faultTask c 0x2201 (coreOf c s).pc t) s))

/-- O32. MODE, LOAD_W, SWAP and DRAIN take effect as their command says, and a load that ends makes its shadow READY. Rules:
04 R112, 04 R113, 04 R115, 04 R116, 04 R127, 04 R131. Model's choices: log entries 7, 9, 10 -/
def Obligations.WeightSetsAndModes : Prop :=
  (∀ (s t : State) (c : Nat) (w : BitVec 256),
      alive s = true →
      Issues c w t s →
      cmdOk w.toNat = true →
      cmdOp w.toNat = 0x01 →
      ((coreOf c t).arrays.any fun a => !a.flight.isEmpty || a.group.isSome) = false →
      (bitOf w.toNat 247 = false ∨ ∀ a < 4, fld w.toNat (240 + 2 * a) (239 + 2 * a) = 0) →
      exec (.mode c) s = .next (framed (advance c (modCore c (fun k => { k with
        gang := bitOf w.toNat 247, part := (List.range 4).map fun a => fld w.toNat (240 + 2 * a) (239 + 2 * a),
        share := (List.range 4).map fun a => bitOf w.toNat (235 + a),
        ptab := (List.range 4).map fun a => fld w.toNat (180 + 18 * a) (163 + 18 * a) }) t)) s)) ∧
  (∀ (s t : State) (c : Nat) (w : BitVec 256),
      alive s = true →
      Issues c w t s →
      cmdOk w.toNat = true →
      cmdOp w.toNat = 0x01 →
      ((coreOf c t).arrays.any fun a => !a.flight.isEmpty || a.group.isSome) = true →
      exec (.mode c) s = .next (framed (faultTask c 0x2204 0 t) s)) ∧
  (∀ (s t u : State) (c : Nat) (w : BitVec 256) (x : WeightSet) (errs : List (Nat × BitVec 288)),
      alive s = true →
      Issues c w t s →
      cmdOk w.toNat = true →
      cmdOp w.toNat = 0x02 →
      gangBroken c (fld w.toNat 247 244) t = false →
      (∀ a ∈ arraysOf (fld w.toNat 247 244), (arrayOf c a t).shadow = .empty) →
      (bitOf w.toNat 235 = false ∨ frozenAt 3 (0x20000000000 / 32) t = false) →
      snoopLines false (loadRanges w.toNat) t = [] →
      readSet ⟨c, 5, errs, []⟩ w.toNat t = (.ok x, u) →
      exec (.loadW c errs) s = .next (framed (advance c (forEach (arraysOf (fld w.toNat 247 244)) (fun a =>
        modArray c a fun y => { y with shadow := .loading, shadowSet := some x }) u)) s)) ∧
  (∀ (s t : State) (c : Nat) (w : BitVec 256) (errs : List (Nat × BitVec 288)),
      alive s = true →
      Issues c w t s →
      cmdOk w.toNat = true →
      cmdOp w.toNat = 0x02 →
      gangBroken c (fld w.toNat 247 244) t = false →
      (∀ a ∈ arraysOf (fld w.toNat 247 244), (arrayOf c a t).shadow = .empty) →
      (bitOf w.toNat 235 = false ∨ frozenAt 3 (0x20000000000 / 32) t = false) →
      snoopLines false (loadRanges w.toNat) t ≠ [] →
      exec (.loadW c errs) s = .next (framed (forEach (snoopLines false (loadRanges w.toNat) t) (fun l => sendSnoop l none) t) s)) ∧
  (∀ (s : State) (c a : Nat),
      alive s = true →
      (arrayOf c a s).shadow = .loading →
      exec (.loadWComplete c a) s = .next (framed (modArray c a (fun y =>
        if y.shadow = .loading then { y with shadow := .ready } else y) s) s)) ∧
  (∀ (s t : State) (c : Nat) (w : BitVec 256),
      alive s = true →
      Issues c w t s →
      cmdOk w.toNat = true →
      cmdOp w.toNat = 0x03 →
      gangBroken c (fld w.toNat 247 244) t = false →
      (∀ a ∈ arraysOf (fld w.toNat 247 244), (arrayOf c a t).shadow = .ready) →
      exec (.swap c) s = .next (framed (advance c (forEach (arraysOf (fld w.toNat 247 244)) (fun a => modArray c a fun y =>
        { y with active := y.shadowSet, shadowSet := none, shadow := .empty }) t)) s)) ∧
  (∀ (s t : State) (c : Nat) (w : BitVec 256),
      alive s = true →
      Issues c w t s →
      cmdOk w.toNat = true →
      cmdOp w.toNat = 0x05 →
      gangBroken c (fld w.toNat 247 244) t = false →
      exec (.drain c) s = .next (framed (advance c (forEach (arraysOf (fld w.toNat 247 244)) (fun a =>
        modArray c a fun y => { y with drain := some ⟨BitVec.ofNat 256 w.toNat, 0⟩ }) t)) s))

/-- O33. A PASS of each accumulation mode reads its operands and goes in flight; it publishes at its end, and not before its
ring sectors are free. Rules: 04 R116, 04 R118, 04 R119, 04 R121, 04 R154, 05 R179, 14 R501. Model's choices: log
entries 7, 9, 10, 11, 21, 37, 38, 79, 113, 114, 115, 116, 118 -/
def Obligations.PassesIssueAndPublish : Prop :=
  (∀ (s t u v x : State) (c acc mask span : Nat) (w : BitVec 256) (errs : List (Nat × BitVec 288)) (k : Nat → List (Nat × BitVec 288) → Instr) (b : BindState),
      (acc, k) ∈ passRows →
      alive s = true →
      Issues c w t s →
      cmdOk w.toNat = true →
      cmdOp w.toNat = 0x04 →
      fld w.toNat 238 237 = acc →
      t.pow.passHold = false →
      t.pow.clamp = false →
      gangBroken c (fld w.toNat 247 244) t = false →
      (bitOf w.toNat 239 = true → ∀ a ∈ arraysOf (fld w.toNat 247 244), (arrayOf c a t).shadow = .ready) →
      (∀ a ∈ arraysOf (fld w.toNat 247 244), passBroken (coreOf c t) a acc (fld w.toNat 236 225 + 1) (fld w.toNat 243 240) (bitOf w.toNat 239) = false) →
      readShift c w.toNat t = (.ok (mask, span), u) →
      bindState c w.toNat (fld w.toNat 236 225 + 1) u = b →
      (b ≠ .wait ∧ ∀ f, b ≠ .fault f) →
      x = (if bitOf w.toNat 239 then forEach (arraysOf (fld w.toNat 247 244)) (fun a => modArray c a swapped) u else u) →
      passArrays c (coreOf c x) errs (passPlan acc w.toNat mask span b x)
        (arraysOf (fld w.toNat 247 244)) x = (none, v) →
      exec (k c errs) s = .next (framed (advance c (bumpBy (rd Obj.THROTTLE_GAP v) Obj.THROTTLE_CYCLES v)) s)) ∧
  (∀ (s : State) (c a : Nat) (f : PassFlight) (rest : List PassFlight),
      alive s = true →
      (arrayOf c a s).flight = f :: rest →
      s.pow.clamp = false →
      ringFree c (if (coreOf c s).gang then 0 else a) (bySector f.writes) s = true →
      exec (.passPublish c a false) s = .next (framed (takeNotes c f.notes (produce c 7 f.hist
        (produce c (if (coreOf c s).gang then 0 else a) f.writes (modArray c a (fun y => { y with flight := rest }) s)))) s)) ∧
  (∀ (s : State) (c a : Nat) (f : PassFlight) (rest : List PassFlight),
      alive s = true →
      (arrayOf c a s).flight = f :: rest →
      s.pow.clamp = false →
      ringFree c (if (coreOf c s).gang then 0 else a) (bySector f.writes) s = true →
      f.writes ≠ [] →
      exec (.passPublish c a true) s = .next (framed (countRepeat (if a < 4 then 112 + 4 * c + a else 176 + c) (faultTask c 0x2901 (c * 5 + a) s)) s)) ∧
  (∀ (s : State) (c a : Nat) (f : PassFlight) (rest : List PassFlight) (bad : Bool),
      alive s = true →
      (arrayOf c a s).flight = f :: rest →
      (s.pow.clamp = true ∨ ringFree c (if (coreOf c s).gang then 0 else a) (bySector f.writes) s = false) →
      exec (.passPublish c a bad) s = .next s)

/-- O34. Each of the 15 vector operations reads its operands and goes in flight when the vector unit is free; its result is
written when it completes. Rules: 04 R136, 04 R139, 04 R140, 04 R142, 05 R179, 14 R501. Model's choices: log entries 7,
12, 21, 36, 37, 39, 79, 117 -/
def Obligations.VectorOperationsIssueAndComplete : Prop :=
  (∀ (s t u : State) (c op : Nat) (w : BitVec 256) (errs : List (Nat × BitVec 288)) (k : Nat → List (Nat × BitVec 288) → Instr) (v : VopFlight),
      (op, k) ∈ vopRows →
      alive s = true →
      Issues c w t s →
      cmdOk w.toNat = true →
      cmdOp w.toNat = 0x10 →
      fld w.toNat 247 240 = op →
      (coreOf c t).vops = [] →
      vopBody op ⟨c, 4, errs, []⟩ (stepSeed t) w.toNat t = (.ok v, u) →
      exec (k c errs) s = .next (framed (advance c (modCore c (fun q => { q with vops := q.vops ++ [v] }) u)) s)) ∧
  (∀ (s : State) (c : Nat) (v : VopFlight) (rest : List VopFlight),
      alive s = true →
      (coreOf c s).vops = v :: rest →
      ringFree c 4 (bySector v.writes) s = true →
      exec (.vopComplete c false) s = .next (framed (takeNotes c v.notes (produceRest c 4 v.writes
        (v.writes.drop (vopBytes v.cmd.toNat v.done)) (modCore c (fun k => { k with vops := rest }) s))) s)) ∧
  (∀ (s : State) (c : Nat) (v : VopFlight) (rest : List VopFlight),
      alive s = true →
      (coreOf c s).vops = v :: rest →
      ringFree c 4 (bySector v.writes) s = true →
      exec (.vopComplete c true) s = .next (framed (countRepeat (176 + c) (faultTask c 0x2901 (c * 5 + 4) s)) s))

/-- O35. A TASK entry is taken and waits, a bad one completes with reason 3; it begins on free cores; a BARRIER waits for
the earlier entries. Rules: 12 R436, 12 R438, 12 R439, 12 R440, 12 R441, 04 R148, 04 R149, 04 R151. Model's choices: log
entries 4, 40, 82, 84, 100, 127 -/
def Obligations.TasksAreTakenAndBegin : Prop :=
  (∀ (s : State) (q : Nat) (e : BitVec 1024),
      alive s = true →
      entryKind e = 1 →
      queueOpen q s = true →
      bufferFull q s = false →
      queueTurn q s = true →
      inSitout s = false →
      taskBodyOk { Task.init with queue := q, body := e, phase := rd Obj.PHASE s } s = true →
      exec (.task q e) s = .next (framed (modQueue q (fun x => { x with waiting := true })
        { takeHead q (entryCid e) s with tasks := s.tasks ++ [{ Task.init with queue := q, body := e, phase := rd Obj.PHASE s }] }) s)) ∧
  (∀ (s : State) (q : Nat) (e : BitVec 1024),
      alive s = true →
      entryKind e = 1 →
      queueOpen q s = true →
      bufferFull q s = false →
      queueTurn q s = true →
      inSitout s = false →
      taskBodyOk { Task.init with queue := q, body := e, phase := rd Obj.PHASE s } s = false →
      exec (.task q e) s = .next (framed (complete q (entryCid e) (entryIrq e) 3 0x6005
        (emit 0x6005 q (q * 65536 + entryCid e) (takeHead q (entryCid e) s))) s)) ∧
  (∀ (s u : State) (q : Nat) (e : BitVec 1024),
      alive s = true →
      entryKind e = 3 →
      fld e.toNat 998 0 = 0 →
      queueOpen q s = true →
      bufferFull q s = false →
      queueTurn q s = true →
      u = modQueue q (fun x => { x with
          barriers := x.barriers ++ [(entryCid e, entryIrq e, (queueOf q s).open_)], waiting := !(queueOf q s).open_.isEmpty })
          (takeHead q (entryCid e) s) →
      exec (.barrier q e) s = .next (framed (releaseBarriers q ((queueOf q u).barriers.length) u) s)) ∧
  (∀ (s : State) (q cid : Nat) (t : Task),
      alive s = true →
      s.tasks.find? (fun t => t.queue == q && t.key % 65536 == cid && t.state == .waiting) = some t →
      running 0 s = true →
      running 1 s = true →
      startMet t s = true →
      resumeFirst t s = false →
      coresFree t s = true →
      ((preloadRanges t s).any fun r => frozenAt 3 r.1 s || rangeHeld r.1 r.2 s) = false →
      snoopLines false (preloadRanges t s) s = [] →
      exec (.taskBegin q cid) s = .next (framed (beginTask t s) s)) ∧
  (∀ (s u : State) (t : Task),
      (t.preloads.find? fun p => !preloadOk p s) = none →
      preloadAll t s = (true, u) →
      beginTask t s = forEach t.cores (beginCore t) (modQueue t.queue (fun x => { x with waiting := false })
        (modTask t.key (fun x => { x with state := .running }) u))) ∧
  (∀ (s : State) (q cid : Nat) (t : Task),
      alive s = true →
      s.tasks.find? (fun t => t.queue == q && t.key % 65536 == cid && t.state == .waiting) = some t →
      running 0 s = true →
      running 1 s = true →
      startMet t s = true →
      resumeFirst t s = false →
      coresFree t s = false →
      (∀ u ∈ holders t s, u.prio < t.prio ∧ u.spill ≠ 0) →
      exec (.taskBegin q cid) s = .next (framed (forEach (holders t s) (fun u => requestPreempt u (some t.key)) s) s)) ∧
  (∀ (s : State) (c : Nat) (t : Task),
      alive s = true →
      taskOn c s = some t →
      (coreOf c s).preempting = true →
      atBoundary (coreOf c s) = true →
      spillHeld t [c] s = false →
      snoopLines true [spillRange t s c] s = [] →
      (t.cores.any fun k => (coreOf k (saveCore t c s)).task == some t.key) = true →
      exec (.preemptionDone c) s = .next (framed (saveCore t c s) s)) ∧
  (∀ (s : State) (c : Nat) (t : Task),
      alive s = true →
      taskOn c s = some t →
      (coreOf c s).preempting = true →
      atBoundary (coreOf c s) = true →
      spillHeld t [c] s = false →
      snoopLines true [spillRange t s c] s = [] →
      (t.cores.any fun k => (coreOf k (saveCore t c s)).task == some t.key) = false →
      exec (.preemptionDone c) s = .next (framed (preempted t c ((coreClock s - (coreOf c s).preemptCyc) / 1000)
        (coreOf c s).claim (saveCore t c s)) s)) ∧
  (∀ (s u v : State) (q cid : Nat) (t : Task) (ks : List (Nat × Core)),
      alive s = true →
      s.tasks.find? (fun t => t.queue == q && t.key % 65536 == cid && mayResume t s) = some t →
      running 0 s = true →
      running 1 s = true →
      spillHeld t (t.saved.map (·.1)) s = false →
      snoopLines false (t.saved.map fun p => spillRange t s p.1) s = [] →
      u = forEach (t.cores.filter fun c => !(t.saved.any fun p => p.1 == c)) (fun c => modCore c fun k => { k with task := some t.key, status := 0 }) s →
      restoreCores t t.saved u = (.ok ks, v) →
      exec (.taskResume q cid) s = .next (framed (modTask t.key (fun x => { x with state := .running, saved := [] })
        (forEach ks (fun (c, k) => modCore c fun _ => k) v)) s))

/-- O36. A legal stream starts or queues, an illegal one aborts with 0x2301; each address-program instruction acts; a stop
ends the stream. Rules: 05 R156, 05 R157, 05 R159, 05 R160, 05 R161, 05 R164, 05 R167, 05 R168, 05 R182. Model's
choices: log entries 7, 8, 83, 119 -/
def Obligations.StreamsStartAndStop : Prop :=
  (∀ (s t u : State) (c : Nat) (w : BitVec 256) (x : Stream),
      alive s = true →
      Issues c w t s →
      cmdOk w.toNat = true →
      cmdOp w.toNat = 0x20 →
      bitOf w.toNat 245 = false →
      (streamEng c (fld w.toNat 247 246) t).queued = none →
      readStream c (fld w.toNat 244 227) t = (.ok x, u) →
      headerOk c x = true →
      (if x.kind = 1 then indexOk x else progOk false [] x.prog) = true →
      ((coreStreams (coreOf c u)).any fun y => overlaps x y) = false →
      exec (.streamStart c) s = .next (framed (queueStream c (fld w.toNat 247 246) x (advance c u)) s)) ∧
  (∀ (s t u : State) (c : Nat) (w : BitVec 256) (x : Stream),
      alive s = true →
      Issues c w t s →
      cmdOk w.toNat = true →
      cmdOp w.toNat = 0x20 →
      bitOf w.toNat 245 = false →
      (streamEng c (fld w.toNat 247 246) t).queued = none →
      readStream c (fld w.toNat 244 227) t = (.ok x, u) →
      (headerOk c x = false ∨ (if x.kind = 1 then indexOk x else progOk false [] x.prog) = false ∨ ((coreStreams (coreOf c u)).any fun y => overlaps x y) = true) →
      exec (.streamStart c) s = .next (framed (faultNowhere c (fld w.toNat 247 246) 0x2301 (fld w.toNat 247 246) x.faultTensor u) s)) ∧
  (∀ (s t : State) (c : Nat) (w : BitVec 256) (x : Stream),
      alive s = true →
      Issues c w t s →
      cmdOk w.toNat = true →
      cmdOp w.toNat = 0x20 →
      bitOf w.toNat 245 = true →
      (streamEng c (fld w.toNat 247 246) (advance c t)).run = some x →
      x.write = false →
      exec (.streamStop c) s = .next (framed (endStream c (fld w.toNat 247 246) false (advance c t)) s)) ∧
  (∀ (s t : State) (c : Nat) (w : BitVec 256) (x : Stream),
      alive s = true →
      Issues c w t s →
      cmdOk w.toNat = true →
      cmdOp w.toNat = 0x20 →
      bitOf w.toNat 245 = true →
      (streamEng c (fld w.toNat 247 246) (advance c t)).run = some x →
      x.write = true →
      x.held = false →
      writeSettled x = false →
      exec (.streamStop c) s = .next (framed (modRun c (fld w.toNat 247 246) (fun x => { x with stopped := true }) (advance c t)) s)) ∧
  (∀ (s : State) (op c e : Nat) (x : Stream) (k : Nat → Nat → Instr),
      (op, k) ∈ apRows →
      alive s = true →
      (coreOf c s).preempting = false →
      (streamEng c e s).run = some x →
      x.held = false →
      x.suspended = false →
      x.kind = 0 →
      x.ended = false →
      x.todo = [] →
      x.stopped = false →
      apOp (nth 0#64 x.prog x.pc) = op →
      exec (k c e) s = .next (framed (checkComplete c e (modRun c e apStep s)) s)) ∧
  (∀ (s : State) (c e : Nat) (x : Stream),
      alive s = true →
      (streamEng c e s).run = some x →
      x.held = true →
      lookup x s = .here →
      (streamEng c e s).queued = none →
      exec (.streamHeldRelease c e) s = .next (framed (checkComplete c e (modRun c e (fun y => { y with held := false, hasRef := true })
        (forEach x.refs takeRef s))) s))

/-- O37. A stream that a tensor's WINDOW_MODE or WINDOW_LOG2 does not permit aborts its task with code 0x1620; one they
permit is queued. Rules: 06 R230, 06 R231, 06 R232, 05 R161. -/
def Obligations.WindowPolicyStopsAStream : Prop :=
  (∀ (s : State) (c e n : Nat) (x : Stream),
      (lookup x s = .here ∨ ∃ m, lookup x s = .moving m) →
      windowBroken x s = some n →
      queueStream c e x s = faultNowhere c e 0x1620 n n s) ∧
  (∀ (s : State) (x : Stream),
      (windowBroken x s = none ↔ ∀ n ∈ x.refs, modeAllows (tensorOf n s) x = true ∧ capAllows n (tensorOf n s) x s = true) ∧
        (∀ n, windowBroken x s = some n → n ∈ x.refs ∧ (modeAllows (tensorOf n s) x = false ∨ capAllows n (tensorOf n s) x s = false))) ∧
  (∀ (x : Stream) (d : DirEntry),
      (modeAllows d x = true ↔ d.windowMode = 0 ∨ (d.windowMode = 1 ∧ x.write = false ∧ x.nearFloor = false) ∨
        (d.windowMode = 2 ∧ x.write = false ∧ x.nearFloor = true))) ∧
  (∀ (s : State) (n : Nat) (d : DirEntry) (x : Stream),
      (capAllows n d x s = true ↔ d.windowLog2 = 0 ∨
        sumNat (((allStreams s).filter fun y => y.hasRef && y.refs.contains n).map Stream.size) + x.size ≤ 2 ^ d.windowLog2))

/-- O38. Far requests, arrivals, sends and accepted writes move sectors in stream order. Rules: 05 R158, 05 R162, 05 R165,
05 R173, 05 R174, 05 R179, 05 R191, 06 R206. Model's choices: log entries 4, 22, 28, 77, 83, 119 -/
def Obligations.StreamsMoveSectors : Prop :=
  (∀ (s : State) (c e n : Nat),
      alive s = true →
      exec (.streamFarRequest c e n) s = .next (framed (farRequests c e (min n 16) s) s)) ∧
  (∀ (s : State) (c e n : Nat) (x : Stream) (off : Int) (rest : List (Option Int)),
      (coreOf c s).preempting = false →
      (streamEng c e s).run = some x →
      x.held = false →
      x.suspended = false →
      x.write = false →
      x.stopped = false →
      x.kind = 0 →
      x.todo = some off :: rest →
      (if x.fill then x.requested < x.size else x.requested - x.freed < x.size) →
      (¬ (x.nearFloor = true ∧ nearSectors true ≤ nearPos x x.requested)) →
      farSector x off s = some n →
      accessHeld n s = false →
      frozenAt 3 n s = false →
      needsSnoop false n s = false →
      farRequest c e s = modRun c e (fun y => { y with inFlight := y.inFlight ++ [{ FarReq.init with
        pos := x.requested, far := some n, off := off, sector := readOverlay n s }] })
        (modRun c e (fun y => { y with todo := rest, requested := x.requested + 1 }) (streamGoes c e s))) ∧
  (∀ (s : State) (c e pos k : Nat) (x : Stream) (r : FarReq) (d : BitVec 256) (first again : BitVec 288),
      alive s = true →
      (streamEng c e s).run = some x →
      x.inFlight.find? (fun r => r.pos == pos && !x.write) = some r →
      needsSnoop true (nearDevice c x.nearFloor (nearPos x pos)) s = false →
      ((unitOf (r.far.getD 0)).isSome && unitGone ((unitOf (r.far.getD 0)).getD 0) s) = false →
      decodeSector (disturb r.sector first) = .ok d k →
      exec (.sectorArrival c e pos first again) s = .next (framed (landSector c e pos (some r.off) (disturb r.sector first)
        (modRun c e (fun y => { y with inFlight := y.inFlight.filter fun q => q.pos != pos }) s)) s)) ∧
  (∀ (s : State) (c e pos : Nat) (x : Stream) (r : FarReq) (first again : BitVec 288),
      alive s = true →
      (streamEng c e s).run = some x →
      x.inFlight.find? (fun r => r.pos == pos && !x.write) = some r →
      needsSnoop true (nearDevice c x.nearFloor (nearPos x pos)) s = false →
      ((unitOf (r.far.getD 0)).isSome && unitGone ((unitOf (r.far.getD 0)).getD 0) s) = false →
      decodeSector (disturb r.sector first) = .bad →
      decodeSector (disturb (rdSector (r.far.getD 0) s) again) = .bad →
      exec (.sectorArrival c e pos first again) s = .next (framed (faultStream c e 0x2302 (offValue r.off) x.faultTensor (offValue r.off)
        (confirmBad (r.far.getD 0) (modRun c e (fun y => { y with inFlight := y.inFlight.filter fun q => q.pos != pos }) s))) s)) ∧
  (∀ (s : State) (c e n : Nat) (x : Stream) (off : Int) (rest : List (Option Int)),
      alive s = true →
      (coreOf c s).preempting = false →
      (streamEng c e s).run = some x →
      x.held = false →
      x.suspended = false →
      x.write = true →
      (x.stopped = false ∨ writeSettled x = false) →
      x.sent < x.produced →
      x.kind = 0 →
      x.todo = some off :: rest →
      (x.fill = false ∨ x.sent < x.size) →
      farSector x off s = some n →
      frozenAt 4 n s = false →
      exec (.streamWriteSend c e) s = .next (framed (skipNulls c e (x.inFlight.length + 1) (modRun c e (fun y => { y with
        todo := rest, sent := y.sent + 1, requested := y.requested + 1, inFlight := y.inFlight ++ [{ FarReq.init with
          pos := x.sent, far := some n, off := off, sector := rdSector (nearDevice c x.nearFloor (nearPos x x.sent)) s }] }) s)) s)) ∧
  (∀ (s u : State) (c e n : Nat) (x : Stream) (r : FarReq) (rest : List FarReq),
      alive s = true →
      (streamEng c e s).run = some x →
      x.inFlight = r :: rest →
      r.far = some n →
      x.write = true →
      accessHeld n s = false →
      needsSnoop true n s = false →
      u = streamGoes c e s →
      ((unitOf n).isSome && unitGone ((unitOf n).getD 0) u) = false →
      exec (.writeAccepted c e) s = .next (framed (skipNulls c e x.inFlight.length (acceptedOne c e
        (noteFar c n x (fullWrite n r.sector u)))) s))

/-- O39. A host CXL.mem access at a mapped address that nothing holds is served; a snooped access proceeds on the answer or
the timeout. Rules: 12 R426, 12 R427, 12 R428, 12 R429, 12 R430, 12 R431, 12 R432, 12 R435, 14 R492. Model's choices:
log entries 22, 28, 77, 85 -/
def Obligations.HostAccessesRun : Prop :=
  (∀ (s : State) (hpa : BitVec 64) (cache d : Nat) (first again : BitVec 288),
      alive s = true →
      s.host.up = true →
      hostDpa hpa.toNat s = some d →
      lineHeld (d / 64 * 64) s = false →
      (s.host.waitAcc.any fun b => b.dpa / 64 == d / 64 * 64 / 64) = false →
      (s.host.snoopWait.find? fun p => p.2.any fun b => b.dpa / 64 == d / 64 * 64 / 64) = none →
      (cache = 0 ∨ (s.host.snoop.any fun p => p.1 == d / 64 * 64 / 64) = true ∨ s.host.snoop.length < filterLines) →
      exec (.cxlMemRead hpa cache first again) s = .next (framed (serveHostRead (d / 64 * 64) first again
        (trackLine (d / 64 * 64 / 64) cache s)) s)) ∧
  (∀ (s : State) (hpa : BitVec 64) (data : BitVec 512) (mask : BitVec 64) (cache d : Nat),
      alive s = true →
      s.host.up = true →
      hostDpa hpa.toNat s = some d →
      lineHeld (d / 64 * 64) s = false →
      (s.host.waitAcc.any fun b => b.dpa / 64 == d / 64 * 64 / 64) = false →
      (s.host.snoopWait.find? fun p => p.2.any fun b => b.dpa / 64 == d / 64 * 64 / 64) = none →
      (cache = 0 ∨ (s.host.snoop.any fun p => p.1 == d / 64 * 64 / 64) = true ∨ s.host.snoop.length < filterLines) →
      exec (.cxlMemWrite hpa data mask cache) s = .next (framed (serveHostWrite (d / 64 * 64) data mask
        (trackLine (d / 64 * 64 / 64) cache s)) s)) ∧
  (∀ (s : State) (dpa : Nat) (data : BitVec 512) (mask : BitVec 64),
      inSitout s = true →
      serveHostWrite dpa data mask s = emit 0x6010 0 dpa s) ∧
  (∀ (s : State) (dpa a : Nat) (data : BitVec 512) (mask : BitVec 64),
      inSitout s = false →
      hostWindow dpa = .system a →
      serveHostWrite dpa data mask s = emit 0x1609 0 a s) ∧
  (∀ (s : State) (dpa : Nat) (first again : BitVec 288),
      hostWindow dpa = .empty →
      serveHostRead dpa first again s = returnRead dpa 0 (emit 0x6004 0 dpa s)) ∧
  (∀ (s : State) (line : Nat) (d : BitVec 512),
      alive s = true →
      (s.host.snoopWait.any fun p => p.1 == line) = true →
      exec (.backInvalidateAnswer line (some d)) s = .next (framed (snoopDone line
        (serveHostWrite (64 * line) d (BitVec.ofNat 64 (2 ^ 64 - 1)) s)) s)) ∧
  (∀ (s : State) (line : Nat),
      alive s = true →
      (s.host.snoopWait.any fun p => p.1 == line) = true →
      exec (.backInvalidateAnswer line none) s = .next (framed (snoopDone line s) s)) ∧
  (∀ (s : State) (line : Nat),
      alive s = true →
      (s.host.snoopWait.any fun p => p.1 == line) = true →
      snoopLate line s = true →
      exec (.biSnoopTimeout line) s = .next (framed (snoopDone line (emit 0x6006 0 (64 * line) (bump Obj.BI_TIMEOUTS s))) s)) ∧
  (∀ (s : State),
      alive s = true →
      exec .hostRequestLate s = .next (framed (emit 0x6007 0 0 (bump Obj.HOST_LATE s)) s))

/-- O40. Doorbells move the tail and the head of an enabled queue; the buffer drains as the ring has room; the host link
goes up, down and narrow as 12 says. Rules: 12 R421, 12 R422, 12 R423, 12 R425, 12 R427, 12 R437, 12 R445. Model's
choices: log entries 50, 85, 92, 127 -/
def Obligations.DoorbellsAndHostLink : Prop :=
  (∀ (s : State) (q n : Nat),
      alive s = true →
      s.host.up = true →
      q < 16 →
      rd (Obj.QUEUE_ENABLE q) s = 1 →
      n < rd (Obj.SQ_SIZE q) s →
      exec (.sqDoorbell (0x1000 + 8 * q) n) s = .next (framed (modQueue q (fun x => { x with tail := n }) s) s)) ∧
  (∀ (s : State) (off n : Nat),
      (doorbellQueue 0x1000 off = none ∨ ∃ q, doorbellQueue 0x1000 off = some q ∧ (s.host.up = false ∨ rd (Obj.QUEUE_ENABLE q) s ≠ 1 ∨ rd (Obj.SQ_SIZE q) s ≤ n)) →
      exec (.sqDoorbell off n) s = .next s) ∧
  (∀ (s : State) (q n : Nat),
      alive s = true →
      s.host.up = true →
      q < 16 →
      rd (Obj.QUEUE_ENABLE q) s = 1 →
      n < rd (Obj.CQ_SIZE q) s →
      exec (.cqHeadDoorbell (0x1004 + 8 * q) n) s = .next (framed (modQueue q (fun x => { x with cqHead := n }) s) s)) ∧
  (∀ (s : State) (off n : Nat),
      (doorbellQueue 0x1004 off = none ∨ ∃ q, doorbellQueue 0x1004 off = some q ∧ (s.host.up = false ∨ rd (Obj.QUEUE_ENABLE q) s ≠ 1 ∨ rd (Obj.CQ_SIZE q) s ≤ n)) →
      exec (.cqHeadDoorbell off n) s = .next s) ∧
  (∀ (off first q : Nat),
      (doorbellQueue first off = some q ↔ off = first + 8 * q ∧ q < 16)) ∧
  (∀ (s : State) (q : Nat),
      alive s = true →
      exec (.completionDrain q) s = .next (framed (drainQueue q s) s)) ∧
  (∀ (s : State) (q : Nat),
      alive s = true →
      (queueOf q s).timer = true →
      q < 16 →
      (queueOf q s).firstAt + fld (rd (Obj.COALESCE q) s) 15 0 * 1000 ≤ s.clk.ticks →
      exec (.coalesceTimeout q) s = .next (framed (fireVector q s) s)) ∧
  (∀ (s : State) (l : BitVec 16),
      alive s = true →
      s.host.up = true →
      s.host.badLanes = 0 →
      l ≠ 0 →
      (l.toNat % 256 = 0 ∨ l.toNat / 256 = 0) →
      exec (.cxlLaneFailure l) s = .next (framed (emit 0x6001 0 8 (wr Obj.LINK_WIDTH 8 { s with host := { s.host with badLanes := l } })) s)) ∧
  (∀ (s : State) (l : BitVec 16),
      alive s = true →
      s.host.up = true →
      s.host.badLanes ||| l ≠ s.host.badLanes →
      (s.host.badLanes ||| l).toNat % 256 ≠ 0 →
      (s.host.badLanes ||| l).toNat / 256 ≠ 0 →
      (¬ ((s.host.badLanes.toNat % 256 = 0 ∧ l.toNat % 256 = 0) ∨ (s.host.badLanes.toNat / 256 = 0 ∧ l.toNat / 256 = 0))) →
      exec (.cxlLaneFailure l) s = .next (framed (hostLinkDown { s with host := { s.host with badLanes := s.host.badLanes ||| l } }) s)) ∧
  (∀ (s : State) (l : BitVec 16),
      alive s = true →
      s.host.up = true →
      s.host.badLanes ≠ 0 →
      ((s.host.badLanes.toNat % 256 = 0 ∧ l.toNat % 256 = 0) ∨ (s.host.badLanes.toNat / 256 = 0 ∧ l.toNat / 256 = 0)) →
      exec (.cxlLaneFailure l) s = .next (framed { s with host := { s.host with badLanes := s.host.badLanes ||| l } } s)) ∧
  (∀ (s : State),
      alive s = true →
      exec .hostLinkDown s = .next (framed (hostLinkDown s) s)) ∧
  (∀ (s : State),
      s.host.up = true →
      (hostLinkDown s).host.up = false ∧ (hostLinkDown s).host.downAt = some s.pow.opTime ∧
      (hostLinkDown s).tasks = s.tasks ∧ (hostLinkDown s).mem = s.mem ∧ (hostLinkDown s).host.queues = s.host.queues) ∧
  (∀ (s : State) (width rate : Nat),
      alive s = true →
      s.host.up = false →
      4 ≤ s.boot.stepDone →
      exec (.hostLinkUp width rate) s = .next (framed (hostLinkUp width rate s) s)) ∧
  (∀ (s : State) (a : Nat),
      alive s = true →
      s.host.downAt = some a →
      s.host.cancelled = false →
      rd Obj.LINKDOWN_CANCEL s ≠ 0 →
      a + 16 * rd Obj.LINKDOWN_CANCEL s ≤ s.pow.opTime →
      exec .linkdownCancel s = .next (framed (forEach (s.tasks.filter fun t => t.state == .waiting) (fun t s =>
        abortTask t 5 0x6009 true (emit 0x6009 0 t.key s)) { s with host := { s.host with cancelled := true } }) s)) ∧
  (∀ (s : State) (i dpa ways : Nat) (base size : BitVec 64),
      alive s = true →
      s.host.up = true →
      decoderOk i base.toNat size.toNat dpa ways s = true →
      exec (.hdmDecoderCommit i base size dpa ways) s = .next (framed { s with host := { s.host with
        decoders := s.host.decoders.set i ⟨true, base.toNat, size.toNat, dpa, false⟩ } } s)) ∧
  (∀ (s : State) (i dpa ways : Nat) (base size : BitVec 64),
      alive s = true →
      s.host.up = true →
      decoderOk i base.toNat size.toNat dpa ways s = false →
      exec (.hdmDecoderCommit i base size dpa ways) s = .next (framed { s with host := { s.host with
        decoders := s.host.decoders.set i ⟨false, 0, 0, 0, true⟩ } } s))

/-- O41. A sector request that nothing holds is carried out and answered with STATUS 0; a refused one is answered 1 and one
to a lost unit 2. Rules: 07 R234, 07 R235, 07 R236, 06 R207, 06 R208, 06 R211, 07 R257. Model's choices: log entries 22,
26, 27 -/
def Obligations.SectorRequestsAreAnswered : Prop :=
  (∀ (s : State) (u : Nat) (w : BitVec 64),
      alive s = true →
      reqKind w.toNat = 1 →
      servedAtOnce u w.toNat s = true →
      exec (.readRequest u w) s = .next (framed
        (if bitOf w.toNat 48 then answerMem u w.toNat 0 (some (rdSector (unitSector u (reqSector w.toNat)) s)) none s
         else answerMem u w.toNat 0 (some (readOverlay (unitSector u (reqSector w.toNat)) s)) none
           (overlayNote (unitSector u (reqSector w.toNat)) s)) s)) ∧
  (∀ (s : State) (u : Nat) (w : BitVec 64) (p : Sector),
      alive s = true →
      reqKind w.toNat = 2 →
      servedAtOnce u w.toNat s = true →
      exec (.writeRequest u w p) s = .next (framed (answerMem u w.toNat 0 none none
        (fullWrite (unitSector u (reqSector w.toNat)) p s)) s)) ∧
  (∀ (s : State) (u : Nat) (w : BitVec 64) (m : BitVec 32) (p : Sector) (d : BitVec 256) (k : Nat),
      alive s = true →
      reqKind w.toNat = 3 →
      servedAtOnce u w.toNat s = true →
      decodeSector ⟨BitVec.ofNat 256 (overlay 0 p.data.toNat m.toNat), p.chk⟩ = .ok d k →
      exec (.writePartial u w m p) s = .next (framed (answerMem u w.toNat 0 none none
        (wcPartial u (unitSector u (reqSector w.toNat)) d.toNat m.toNat none s)) s)) ∧
  (∀ (s : State) (u : Nat) (w : BitVec 64) (m : BitVec 32) (p : Sector),
      alive s = true →
      reqKind w.toNat = 3 →
      servedAtOnce u w.toNat s = true →
      decodeSector ⟨BitVec.ofNat 256 (overlay 0 p.data.toNat m.toNat), p.chk⟩ = .bad →
      exec (.writePartial u w m p) s = .next (framed (answerMem u w.toNat 0 none none
        (countTransit (unitSector u (reqSector w.toNat)) (emit 0x1601 u 0xFF s))) s)) ∧
  (∀ (s : State) (u : Nat) (w : BitVec 64),
      alive s = true →
      reqKind w.toNat = 5 →
      unitGone u s = false →
      reqRefused u w.toNat = false →
      exec (.regRead u w) s = .next (framed (answerMem u w.toNat 0 none (some (Config.freeWord (drawFree s).1)) (drawFree s).2) s)) ∧
  (∀ (s : State) (u : Nat) (w : BitVec 64),
      alive s = true →
      reqKind w.toNat = 6 →
      unitGone u s = false →
      reqRefused u w.toNat = false →
      exec (.regWrite u w) s = .next (framed (answerMem u w.toNat 0 none none s) s)) ∧
  (∀ (s : State) (u : Nat) (w : BitVec 64) (m : BitVec 32) (p : Sector),
      alive s = true →
      unitGone u s = false →
      (reqKind w.toNat ≠ 1 ∨ reqRefused u w.toNat = true → exec (.readRequest u w) s = .next (framed (answerMem u w.toNat 1 none none s) s)) ∧
      (reqKind w.toNat ≠ 2 ∨ reqRefused u w.toNat = true → exec (.writeRequest u w p) s = .next (framed (answerMem u w.toNat 1 none none s) s)) ∧
      (reqKind w.toNat ≠ 3 ∨ reqRefused u w.toNat = true → exec (.writePartial u w m p) s = .next (framed (answerMem u w.toNat 1 none none s) s)) ∧
      (reqKind w.toNat ≠ 5 ∨ reqRefused u w.toNat = true → exec (.regRead u w) s = .next (framed (answerMem u w.toNat 1 none none s) s)) ∧
      (reqKind w.toNat ≠ 6 ∨ reqRefused u w.toNat = true → exec (.regWrite u w) s = .next (framed (answerMem u w.toNat 1 none none s) s))) ∧
  (∀ (s : State) (u : Nat) (w : BitVec 64) (m : BitVec 32) (p : Sector),
      alive s = true →
      unitGone u s = true →
      exec (.readRequest u w) s = .next (framed (answerMem u w.toNat 2 none none s) s) ∧
      exec (.writeRequest u w p) s = .next (framed (answerMem u w.toNat 2 none none s) s) ∧
      exec (.writePartial u w m p) s = .next (framed (answerMem u w.toNat 2 none none s) s) ∧
      exec (.regRead u w) s = .next (framed (answerMem u w.toNat 2 none none s) s) ∧
      exec (.regWrite u w) s = .next (framed (answerMem u w.toNat 2 none none s) s))

/-- O42. Expired merge windows, due refreshes, retrain holds and margin checks do what 06 and 07 give them. Rules: 06 R208,
06 R209, 07 R239, 07 R240, 07 R242, 07 R243, 07 R245, 07 R246, 07 R247, 07 R261. Model's choices: log entries 4, 86, 88 -/
def Obligations.MergesRefreshesAndRetrains : Prop :=
  (∀ (s : State) (n : Nat) (e : WcEntry),
      alive s = true →
      wcEntry n s = some e →
      e.since + rd Obj.WC_WINDOW s ≤ s.clk.ticks →
      accessHeld n s = false →
      unitGone e.unit s = false →
      exec (.wcWindowExpire e.unit n) s = .next (framed (wcMerge e s) s)) ∧
  (∀ (s : State) (pc n : Nat),
      alive s = true →
      unitGone (pcUnit pc) s = false →
      heldByTraining (unitSector (pcUnit pc) 0) s = false →
      debtOf pc s ≤ 3 →
      debtOf pc s + 1 ≤ n →
      exec (.refresh pc n) s = .next (framed (releaseAccesses false { s with mo := { s.mo with
        debt := spSet 0 pc 0 s.mo.debt, precedence := s.mo.precedence.filter (· != pc) } }) s)) ∧
  (∀ (s : State) (pc n : Nat),
      alive s = true →
      unitGone (pcUnit pc) s = false →
      (heldByTraining (unitSector (pcUnit pc) 0) s = true ∨ n = 0) →
      debtOf pc s ≤ 2 →
      s.mo.precedence.contains pc = false →
      exec (.refresh pc n) s = .next (framed (releaseAccesses false { s with mo := { s.mo with
        debt := spSet 0 pc (debtOf pc s + 1) s.mo.debt, precedence := s.mo.precedence.filter (· != pc) } }) s)) ∧
  (∀ (s : State) (pc n : Nat),
      alive s = true →
      unitGone (pcUnit pc) s = false →
      (heldByTraining (unitSector (pcUnit pc) 0) s = true ∨ n = 0) →
      debtOf pc s = 4 →
      exec (.refresh pc n) s = .next (framed (releaseAccesses false (loseUnit (lossUnit (pcUnit pc)) 7 { s with mo := { s.mo with
        debt := spSet 0 pc 5 s.mo.debt, precedence := insertBy id pc (s.mo.precedence.filter (· != pc)) } })) s)) ∧
  (∀ (s : State) (u : Nat) (f : RetrainFig) (g : Fig),
      alive s = true →
      s.mo.figTodo.find? (fun f => f.todo.head? == some u) = some f →
      s.cal.figs.find? (fun g => figTag g == f.entry) = some g →
      (s.mo.training.any fun r => r.unit == u) = false →
      unitGone u s = false →
      now s + 4500 ≤ g.deadline →
      retrainReady u s = true →
      exec (.retrainChannel u) s = .next (framed (beginRetrain u false s) s)) ∧
  (∀ (s : State) (u : Nat) (f : RetrainFig) (g : Fig),
      alive s = true →
      s.mo.figTodo.find? (fun f => f.todo.head? == some u) = some f →
      s.cal.figs.find? (fun g => figTag g == f.entry) = some g →
      (s.mo.training.any fun r => r.unit == u) = false →
      unitGone u s = false →
      g.deadline < now s + 4500 →
      exec (.retrainChannel u) s = .next (framed (retrainDone u (emit 0x1703 u u s)) s)) ∧
  (∀ (s : State) (u : Nat) (r : Retrain),
      alive s = true →
      s.mo.training.find? (fun r => r.unit == u) = some r →
      unitGone u s = false →
      exec (.retrainHoldEnd u true) s = .next (framed (releaseAccesses false (onlyIf (!r.urgent) (retrainDone u)
        (onlyIf (!r.urgent) (bump Obj.FIGURE_RETRAINS) (retrained u (holdEnds u r s))))) s)) ∧
  (∀ (s : State) (u : Nat) (r : Retrain),
      alive s = true →
      s.mo.training.find? (fun r => r.unit == u) = some r →
      r.second = false →
      unitGone u s = false →
      exec (.retrainHoldEnd u false) s = .next (framed (emit 0x1704 u u (holdAgain u r s)) s)) ∧
  (∀ (s : State) (u : Nat) (r : Retrain),
      alive s = true →
      s.mo.training.find? (fun r => r.unit == u) = some r →
      r.second = true →
      unitGone u s = false →
      exec (.retrainHoldEnd u false) s = .next (framed (releaseAccesses false (onlyIf (!r.urgent) (retrainDone u)
        (loseUnit (lossUnit u) 1 (holdEnds u r s)))) s)) ∧
  (∀ (s : State) (u : Nat) (r : Retrain) (ok : Bool),
      alive s = true →
      s.mo.training.find? (fun r => r.unit == u) = some r →
      unitGone u s = true →
      exec (.retrainHoldEnd u ok) s = .next (framed (releaseAccesses false (onlyIf (!r.urgent) (retrainDone u) (holdEnds u r s))) s)) ∧
  (∀ (s : State) (u m : Nat),
      alive s = true →
      unitGone u s = false →
      heldByTraining (unitSector u 0) s = false →
      rd Obj.ALARM_MARGIN (wr (Obj.CHAN_MARGIN u) (min m 255) s) ≤ m →
      s.clk.ticks < spGet 0 s.mo.trainedAt u + rd Obj.RETRAIN_MAX_AGE (wr (Obj.CHAN_MARGIN u) (min m 255) s) * 10 ^ 9 →
      exec (.marginCheck u m) s = .next (framed (wr (Obj.CHAN_MARGIN u) (min m 255) s) s)) ∧
  (∀ (s : State) (u m : Nat),
      alive s = true →
      unitGone u s = false →
      heldByTraining (unitSector u 0) s = false →
      (m < rd Obj.ALARM_MARGIN (wr (Obj.CHAN_MARGIN u) (min m 255) s) ∨ spGet 0 s.mo.trainedAt u + rd Obj.RETRAIN_MAX_AGE (wr (Obj.CHAN_MARGIN u) (min m 255) s) * 10 ^ 9 ≤ s.clk.ticks) →
      s.mo.alarms.contains u = false →
      exec (.marginCheck u m) s = .next (framed { wr (Obj.CHAN_MARGIN u) (min m 255) s with
        mo := { s.mo with alarms := s.mo.alarms ++ [u] } } s)) ∧
  (∀ (s : State) (u : Nat),
      alive s = true →
      s.mo.alarms.contains u = true →
      retrainComing u s = false →
      retrainReady u s = true →
      unitGone u s = false →
      exec (.urgentRetrain u) s = .next (framed (emit 0x1702 u u (bump Obj.URGENT_RETRAINS (beginRetrain u true s))) s))

/-- O43. The patrol corrects what it reads and reports what it cannot; temperatures and silence move and lose stacks and
packages. Rules: 07 R248, 07 R250, 07 R251, 07 R252, 07 R255, 07 R261, 07 R263, 15 R516, 15 R633. Model's choices: log
entries 3, 22, 102, 108, 109 -/
def Obligations.PatrolTemperaturesAndLosses : Prop :=
  (∀ (s u : State) (slow : Bool) (d : BitVec 256) (first again : BitVec 288),
      alive s = true →
      (patrolOf slow s).active = true →
      (frozenAt 7 ((patrolOf slow s).pointer / 32) s = false ∨ scrubOpen slow s = true ∨ inSitout s = true) →
      accessHeld ((patrolOf slow s).pointer / 32) s = false →
      patrolMay slow s = true →
      unitGone ((unitOf ((patrolOf slow s).pointer / 32)).getD 0) s = false →
      needsSnoop (decodeSector (rdSector ((patrolOf slow s).pointer / 32) s) != .ok (rdSector ((patrolOf slow s).pointer / 32) s).data 0) ((patrolOf slow s).pointer / 32) s = false →
      u = patrolSpend slow s →
      decodeSector (disturb (rdSector ((patrolOf slow s).pointer / 32) u) first) = .ok d 0 →
      exec (.patrolRead slow first again) s = .next (framed (patrolAdvance slow u) s)) ∧
  (∀ (s u : State) (slow : Bool) (d : BitVec 256) (k : Nat) (first again : BitVec 288),
      alive s = true →
      (patrolOf slow s).active = true →
      (frozenAt 7 ((patrolOf slow s).pointer / 32) s = false ∨ scrubOpen slow s = true ∨ inSitout s = true) →
      accessHeld ((patrolOf slow s).pointer / 32) s = false →
      patrolMay slow s = true →
      unitGone ((unitOf ((patrolOf slow s).pointer / 32)).getD 0) s = false →
      needsSnoop (decodeSector (rdSector ((patrolOf slow s).pointer / 32) s) != .ok (rdSector ((patrolOf slow s).pointer / 32) s).data 0) ((patrolOf slow s).pointer / 32) s = false →
      u = patrolSpend slow s →
      decodeSector (disturb (rdSector ((patrolOf slow s).pointer / 32) u) first) = .ok d (k + 1) →
      exec (.patrolRead slow first again) s = .next (framed (patrolAdvance slow (noteCorrected ((patrolOf slow s).pointer / 32) (k + 1) (wrSector ((patrolOf slow s).pointer / 32) (encodeSector d) u))) s)) ∧
  (∀ (s u : State) (slow : Bool) (first again : BitVec 288),
      alive s = true →
      (patrolOf slow s).active = true →
      (frozenAt 7 ((patrolOf slow s).pointer / 32) s = false ∨ scrubOpen slow s = true ∨ inSitout s = true) →
      accessHeld ((patrolOf slow s).pointer / 32) s = false →
      patrolMay slow s = true →
      unitGone ((unitOf ((patrolOf slow s).pointer / 32)).getD 0) s = false →
      needsSnoop (decodeSector (rdSector ((patrolOf slow s).pointer / 32) s) != .ok (rdSector ((patrolOf slow s).pointer / 32) s).data 0) ((patrolOf slow s).pointer / 32) s = false →
      u = patrolSpend slow s →
      decodeSector (disturb (rdSector ((patrolOf slow s).pointer / 32) u) first) = .bad →
      decodeSector (disturb (rdSector ((patrolOf slow s).pointer / 32) u) again) = .bad →
      exec (.patrolRead slow first again) s = .next (framed (patrolAdvance slow (patrolBad ((patrolOf slow s).pointer / 32) u)) s)) ∧
  (∀ (s u : State) (slow : Bool) (d : BitVec 256) (k : Nat) (first again : BitVec 288),
      alive s = true →
      (patrolOf slow s).active = true →
      (frozenAt 7 ((patrolOf slow s).pointer / 32) s = false ∨ scrubOpen slow s = true ∨ inSitout s = true) →
      accessHeld ((patrolOf slow s).pointer / 32) s = false →
      patrolMay slow s = true →
      unitGone ((unitOf ((patrolOf slow s).pointer / 32)).getD 0) s = false →
      needsSnoop (decodeSector (rdSector ((patrolOf slow s).pointer / 32) s) != .ok (rdSector ((patrolOf slow s).pointer / 32) s).data 0) ((patrolOf slow s).pointer / 32) s = false →
      u = patrolSpend slow s →
      decodeSector (disturb (rdSector ((patrolOf slow s).pointer / 32) u) first) = .bad →
      decodeSector (disturb (rdSector ((patrolOf slow s).pointer / 32) u) again) = .ok d k →
      exec (.patrolRead slow first again) s = .next (framed (patrolAdvance slow (countTransit ((patrolOf slow s).pointer / 32) (emit 0x1601 (memSource ((patrolOf slow s).pointer / 32)) 0xFF u))) s)) ∧
  (∀ (s : State) (slow : Bool) (first again : BitVec 288),
      alive s = true →
      (patrolOf slow s).active = true →
      (frozenAt 7 ((patrolOf slow s).pointer / 32) s = false ∨ scrubOpen slow s = true ∨ inSitout s = true) →
      accessHeld ((patrolOf slow s).pointer / 32) s = false →
      patrolMay slow s = true →
      unitGone ((unitOf ((patrolOf slow s).pointer / 32)).getD 0) s = true →
      exec (.patrolRead slow first again) s = .next (framed (patrolAdvance slow s) s)) ∧
  (∀ (s : State) (slow : Bool) (first again : BitVec 288),
      patrolMay slow s = false →
      exec (.patrolRead slow first again) s = .next s) ∧
  (∀ (s : State) (slow : Bool),
      patrolMay slow s = true ↔ inSitout s = true ∨
        ((scrubOpen slow s = false ∨ behindPace slow s = true) ∧ (patrolOf slow s).nextAt ≤ 1000 * s.clk.ticks)) ∧
  (∀ (s : State) (slow : Bool),
      alive s = true →
      (patrolOf slow s).active = true →
      (patrolOf slow s).behind = false →
      (patrolOf slow s).startAt + (patrolOf slow s).period * 10 ^ 9 ≤ s.clk.ticks →
      exec (.patrolPeriodEnd slow) s = .next (framed (emit 0x1711 0 (b2n slow) (modPatrol slow (fun p => { p with behind := true }) s)) s)) ∧
  (∀ (s v : State) (u : Nat) (t : BitVec 16),
      alive s = true →
      u < 8 →
      105 * 8 < t.toInt →
      nth 0 s.mo.thermal u ≠ 3 →
      v = { wr (Obj.STACK_TEMP (u + 1)) t.toNat s with mo := { s.mo with
          below92 := belowSince u 92 t.toInt s.clk.ticks s.mo.below92, below83 := belowSince u 83 t.toInt s.clk.ticks s.mo.below83 } } →
      exec (.memoryTempReading u t) s = .next (framed (loseUnit u 6 (setThermal u 3 v)) s)) ∧
  (∀ (s v : State) (u : Nat) (t : BitVec 16),
      alive s = true →
      u < 8 →
      95 * 8 < t.toInt →
      t.toInt ≤ 105 * 8 →
      nth 0 s.mo.thermal u < 2 →
      v = { wr (Obj.STACK_TEMP (u + 1)) t.toNat s with mo := { s.mo with
          below92 := belowSince u 92 t.toInt s.clk.ticks s.mo.below92, below83 := belowSince u 83 t.toInt s.clk.ticks s.mo.below83 } } →
      exec (.memoryTempReading u t) s = .next (framed (emit 0x1731 u u (setThermal u 2 v)) s)) ∧
  (∀ (s v : State) (u : Nat) (t : BitVec 16),
      alive s = true →
      u < 8 →
      85 * 8 < t.toInt →
      t.toInt ≤ 95 * 8 →
      nth 0 s.mo.thermal u = 0 →
      v = { wr (Obj.STACK_TEMP (u + 1)) t.toNat s with mo := { s.mo with
          below92 := belowSince u 92 t.toInt s.clk.ticks s.mo.below92, below83 := belowSince u 83 t.toInt s.clk.ticks s.mo.below83 } } →
      exec (.memoryTempReading u t) s = .next (framed (emit 0x1730 u u (setThermal u 1 v)) s)) ∧
  (∀ (s v : State) (u : Nat) (t : BitVec 16),
      alive s = true →
      u < 8 →
      t.toInt ≤ 85 * 8 →
      v = { wr (Obj.STACK_TEMP (u + 1)) t.toNat s with mo := { s.mo with
          below92 := belowSince u 92 t.toInt s.clk.ticks s.mo.below92, below83 := belowSince u 83 t.toInt s.clk.ticks s.mo.below83 } } →
      exec (.memoryTempReading u t) s = .next (framed v s)) ∧
  (∀ (s v : State) (u : Nat) (t : BitVec 16),
      alive s = true →
      8 ≤ u →
      u < 20 →
      105 * 8 < t.toInt →
      nth 0 s.mo.thermal u ≠ 3 →
      v = { wr (Obj.PACKAGE_TEMP (u + 1)) t.toNat s with mo := { s.mo with
          below92 := belowSince u 92 t.toInt s.clk.ticks s.mo.below92, below83 := belowSince u 83 t.toInt s.clk.ticks s.mo.below83 } } →
      exec (.memoryTempReading u t) s = .next (framed (loseUnit (14 + (u - 8)) 6 (setThermal u 3 v)) s)) ∧
  (∀ (s : State) (u : Nat),
      alive s = true →
      nth 0 s.mo.thermal u = 2 →
      belowFor u s.mo.below92 s = true →
      exec (.thermalHotExit u) s = .next (framed (setThermal u 1 s) s)) ∧
  (∀ (s : State) (u : Nat),
      alive s = true →
      nth 0 s.mo.thermal u = 1 →
      belowFor u s.mo.below83 s = true →
      exec (.thermalHotExit u) s = .next (framed (setThermal u 0 s) s)) ∧
  (∀ (s : State) (u : Nat) (m : List (Nat × Nat)),
      s.clk.ticks + 1 < spGet 0 m u + 10 ^ 9 →
      belowFor u m s = false) ∧
  (∀ (s : State) (u : Nat),
      alive s = true →
      u < 14 →
      exec (.requestSilentTimeout u) s = .next (framed (loseUnit u 5 s) s) ∧
      exec (.unitInternalFault u) s = .next (framed (loseUnit u 8 s) s)) ∧
  (∀ (s : State) (b : Nat),
      alive s = true →
      b < 6 →
      exec (.replayFailTimeout b) s = .next (framed (loseUnit (8 + b) 9 s) s) ∧
      exec (.bufferLinkReplay b) s = .next (framed (forEach (List.range 8) (fun i => bump (Obj.CHAN_REPLAYS (256 + 8 * b + i))) s) s)) ∧
  (∀ (s v : State) (u reason : Nat),
      lostReason u s = 0 →
      v = abandonUnits (forEach (u :: (packagesOf u).filter fun p => lostReason p s == 0)
          (fun p s => { s with mo := { s.mo with lost := spSet 0 p reason s.mo.lost } }) s) →
      (u < 8 → loseUnit u reason s = faultS3 0x1740 u (u * 256 + reason) v) ∧
        (8 ≤ u → u < 14 → loseUnit u reason s = faultS3 0x1741 (u - 8) ((u - 8) * 256 + reason) v) ∧
        (14 ≤ u → loseUnit u reason s = faultS3 0x1742 (u - 14) ((u - 14) * 256 + reason) v)) ∧
  (∀ (u p : Nat),
      (p ∈ packagesOf u ↔ 8 ≤ u ∧ u < 14 ∧ (p = 14 + 2 * (u - 8) ∨ p = 15 + 2 * (u - 8)))) ∧
  (∀ (s : State),
      alive s = true →
      (opSec s + 1) % 60 ≠ 0 →
      s.rcd.heldSec = 0 →
      exec .binBoundary s = .next (framed { s with
        pow := { s.pow with opTime := (opSec s + 1) * 16 }, mo := { s.mo with transit := [] } } s)) ∧
  (∀ (s : State),
      alive s = true →
      (opSec s + 1) % 60 ≠ 0 →
      s.rcd.heldSec ≠ 0 →
      ∃ t, exec .binBoundary s = .next t ∧ t.pow.opTime = (opSec s + 1) * 16 ∧ t.rcd.heldSec = 0 ∧ t.mo.transit = [] ∧
        t.rcd.batch = s.rcd.batch ++ [⟨0x9504, 0, s.rcd.heldSec % 2 ^ 32, s.clk.count, (opSec s + 1) * 16, false⟩])

/-- O44. A traffic generator starts, runs its range and stops; an arbiter grants the next request by rank and rotation;
FREEZE takes effect. Rules: 07 R258, 07 R259, 19 R590, 19 R592, 19 R593, 19 R594, 19 R598, 19 R600. Model's choices: log
entries 25, 58, 77, 104 -/
def Obligations.TrafficGeneratorsAndArbiters : Prop :=
  (∀ (s : State) (w : Writer),
      alive s = true →
      accepts w 0xE100 7 1 s = true →
      exec (.tgStart w) s = .next (framed (answerWith w 0 (tgStart (selectorOf w.via 0xE100 s) s).1 []
        (tgStart (selectorOf w.via 0xE100 s) s).2) s)) ∧
  (∀ (s : State) (sel : Nat),
      ((tgSelected sel).any fun u => (tgOf u s).status == 1) = false →
      ((tgSelected sel).any fun u => (tgOf u s).mode != 0 && (!tierFree u s || inSitout s || !s.cal.figs.isEmpty)) = false →
      tgStart sel s = (0, forEach (tgSelected sel) (fun u => modTg u fun t => { t with status := 1, errors := 0, first := 0 }) s)) ∧
  (∀ (s : State) (sel : Nat),
      (((tgSelected sel).any fun u => (tgOf u s).status == 1) = true ∨ ((tgSelected sel).any fun u => (tgOf u s).mode != 0 && (!tierFree u s || inSitout s || !s.cal.figs.isEmpty)) = true) →
      tgStart sel s = (0x03000004, s)) ∧
  (∀ (s : State) (w : Writer),
      alive s = true →
      accepts w 0xE100 7 2 s = true →
      exec (.tgStop w) s = .next (framed (answerWith w 0 0 [] (forEach (tgSelected (selectorOf w.via 0xE100 s)) (fun u => modTg u fun t =>
        if t.status = 1 then { t with status := 4 } else t) s)) s)) ∧
  (∀ (s : State) (u : Nat) (errs : List (Nat × BitVec 288)),
      alive s = true →
      (tgOf u s).status = 1 →
      ((tgOf u s).mode ≠ 0 ∨ frozenAt 7 (unitSector u (tgOf u s).start) s = false) →
      tgHeld u s = false →
      unitGone u s = false →
      exec (.tgRunEnd u errs) s = .next (framed (modTg u (fun t => { t with status := if t.errors = 0 then 2 else 3 })
        ((List.range (if (tgOf u s).count = 0 then unitSectors u - (tgOf u s).start
          else min (tgOf u s).count (unitSectors u - (tgOf u s).start))).foldl
          (fun t i => tgRunSector u errs (tgOf u s) ((tgOf u s).start + i) t) s)) s)) ∧
  (∀ (s u : State) (a room : Nat) (raised : List (Nat × Nat × Nat × Bool)) (done : List Nat) (r : ArbReq),
      alive s = true →
      a < 400 →
      (u = { s with arb := { s.arb with
          waiting := s.arb.waiting ++ (raised.filter fun x => decide (1 ≤ x.1 ∧ x.1 ≤ 7)).map fun x =>
            ({ arb := a, cls := x.1, requester := x.2.1 % 256, id := x.2.2.1, stepStarted := x.2.2.2 } : ArbReq)
          granted := s.arb.granted.filter fun r => !(r.arb == a && done.contains r.id) } }) →
      grantOf a room u = some r →
      exec (.arbiterGrant a room raised done) s = .next (framed (grant r u) s)) ∧
  (∀ (s u : State) (a room : Nat) (raised : List (Nat × Nat × Nat × Bool)) (done : List Nat),
      alive s = true →
      a < 400 →
      (u = { s with arb := { s.arb with
          waiting := s.arb.waiting ++ (raised.filter fun x => decide (1 ≤ x.1 ∧ x.1 ≤ 7)).map fun x =>
            ({ arb := a, cls := x.1, requester := x.2.1 % 256, id := x.2.2.1, stepStarted := x.2.2.2 } : ArbReq)
          granted := s.arb.granted.filter fun r => !(r.arb == a && done.contains r.id) } }) →
      grantOf a room u = none →
      exec (.arbiterGrant a room raised done) s = .next (framed u s)) ∧
  (∀ (s : State) (w : Writer) (v : BitVec 8),
      alive s = true →
      accepts w 0x6201 1 v.toNat s = true →
      (bitOf v.toNat 0 = false ∨ s.col.slots = []) →
      exec (.freeze w v) s = .next (framed (answerWith w 0 0 [] (contributeReady (releaseAccesses false (wr Obj.FREEZE v.toNat s)))) s)) ∧
  (∀ (s : State) (w : Writer) (v : BitVec 8),
      alive s = true →
      accepts w 0x6201 1 v.toNat s = true →
      bitOf v.toNat 0 = true →
      s.col.slots ≠ [] →
      exec (.freeze w v) s = .next (framed (answerWith w 0 0x03000004 [] s) s))

/-- O45. Directory commands are taken in order and accepted or refused as 06 R221 says; a move waits for its references and
its copy ends with one directory write. Rules: 06 R217, 06 R218, 06 R219, 06 R220, 06 R221, 06 R222, 06 R224, 12 R436,
12 R438. Model's choices: log entries 22, 90, 110, 111 -/
def Obligations.DirectoryCommandsRun : Prop :=
  (∀ (s : State) (op q : Nat) (e : BitVec 1024) (k : Nat → BitVec 1024 → Instr),
      (op, k) ∈ dirRows →
      alive s = true →
      entryKind e = 2 →
      (jobOfEntry q e).op = op →
      queueOpen q s = true →
      bufferFull q s = false →
      queueTurn q s = true →
      (¬ (fld e.toNat 998 512 ≠ 0 ∨ (op ≠ 1 ∧ op ≠ 8 ∧ fld e.toNat 255 0 ≠ 0))) →
      inSitout s = false →
      exec (k q e) s = .next (framed (acceptJob (jobOfEntry q e) (takeHead q (entryCid e) s)) s)) ∧
  (∀ (s : State) (op q : Nat) (e : BitVec 1024) (k : Nat → BitVec 1024 → Instr),
      (op, k) ∈ dirRows →
      alive s = true →
      entryKind e = 2 →
      (jobOfEntry q e).op = op →
      queueOpen q s = true →
      bufferFull q s = false →
      queueTurn q s = true →
      (fld e.toNat 998 512 ≠ 0 ∨ (op ≠ 1 ∧ op ≠ 8 ∧ fld e.toNat 255 0 ≠ 0)) →
      exec (k q e) s = .next (framed (complete q (entryCid e) (entryIrq e) 3 0x6005
        (emit 0x6005 q (q * 65536 + entryCid e) (takeHead q (entryCid e) s))) s)) ∧
  (∀ (s : State) (j : DirJob),
      j.op = 1 →
      jobForm j = true →
      (tensorOf j.tensor s).state = 0 →
      imageAllowed j (entryOf j.image.toNat) = true →
      inTensorSpace j.tier j.dest (entryOf j.image.toNat).size = true →
      beginJob j s = endJob j 0 0 (setTensor j.tensor { entryOf j.image.toNat with
        state := 1, tier := j.tier, home := j.dest, written := false, resValid := false, resTier := 0, reserve := 0, refs := 0 }
          (undefOverlaps j.tensor j.dest (entryOf j.image.toNat).size s))) ∧
  (∀ (s : State) (j : DirJob),
      j.op = 2 →
      jobForm j = true →
      (tensorOf j.tensor s).state = 1 →
      (tensorOf j.tensor s).refs = 0 →
      beginJob j s = endJob j 0 0 (setTensor j.tensor (entryOf 0) s)) ∧
  (∀ (s : State) (j : DirJob),
      j.op = 2 →
      (tensorOf j.tensor s).refs ≠ 0 →
      beginJob j s = endJob j 3 0x1608 (emit 0x1608 0 2 s)) ∧
  (∀ (s : State) (j : DirJob),
      j.op = 3 →
      jobForm j = true →
      (tensorOf j.tensor s).state = 1 →
      moveAllowed j (tensorOf j.tensor s) = true →
      beginJob j s = beginMove j s) ∧
  (∀ (s : State) (j : DirJob),
      j.op = 3 →
      ((tensorOf j.tensor s).state ≠ 1 ∨ moveAllowed j (tensorOf j.tensor s) = false) →
      beginJob j s = endJob j 3 0x1608 (emit 0x1608 0 3 s)) ∧
  (∀ (s : State) (t : Nat) (j : DirJob),
      alive s = true →
      jobOn t s = some j →
      j.phase = .waitRefs →
      (activeJobs s).length < 8 →
      (tensorOf t s).refs = 0 →
      j.op = 3 →
      exec (.moverStart t) s = .next (framed (takeRef t (setJob j { j with phase := .copying } s)) s)) ∧
  (∀ (s u : State) (t : Nat) (j : DirJob),
      alive s = true →
      jobOn t s = some j →
      frozenAt 5 (tensorOf t s).home s = false →
      j.phase = .copying →
      jobHeld j s = false →
      (tensorOf t s).refs ≤ 1 →
      snoopLines false [((tensorOf t s).home, (tensorOf t s).size)] s = [] →
      snoopLines true (jobWrites j s) s = [] →
      u = (if j.toReserve then finishCopy j (tensorOf t s).reserve (tensorOf t s).resTier false s else finishCopy j j.dest j.tier j.keep s) →
      exec (.moverDone t) s = .next (framed (nextJob t u.jobs.length u) s)) ∧
  (∀ (s u : State) (j : DirJob) (dst tier : Nat),
      copySectors (tensorOf j.tensor s).home dst (tensorOf j.tensor s).size s = (true, u) →
      finishCopy j dst tier false s = endJob j 0 0 (bumpBy (tensorOf j.tensor s).size Obj.MOVED_SECTORS (bump Obj.MOVES
        (modTensor j.tensor (fun e => { e with
          state := 1, home := dst, tier := tier, reserve := e.home, resTier := e.tier, resValid := false, written := false })
          (undefOverlaps j.tensor dst (tensorOf j.tensor s).size u))))) ∧
  (∀ (s u : State) (j : DirJob) (dst tier : Nat) (keep : Bool),
      copySectors (tensorOf j.tensor s).home dst (tensorOf j.tensor s).size s = (false, u) →
      finishCopy j dst tier keep s = moverFailed j u)

/-- O46. A triggered set begins, its blocks reach their units, a step runs where nothing takes its boundary and its results
are stored. Rules: 08 R279, 08 R282, 08 R283, 08 R284, 08 R285, 08 R287, 08 R288, 08 R293, 08 R295, 09 R307. Model's
choices: log entries 22, 88, 89, 103, 129 -/
def Obligations.UpdateSetsAndSteps : Prop :=
  (∀ (s : State) (n : Nat),
      alive s = true →
      running 2 s = true →
      (s.upd.kept.find? fun n => mayBegin n s) = some n →
      exec (.setBegin n) s = .next (framed (beginSet n (nsqFor (setEntry n s) s) s) s)) ∧
  (∀ (s : State) (tag n b : Nat) (r : SetRun) (errs : List (BitVec 288)),
      alive s = true →
      setRunOf n s = some r →
      r.torn = false →
      frozenAt 2 (tensorOf (setEntry r.set_ s).landing s).home s = false →
      b = r.next →
      b < setBlocks (setEntry r.set_ s) s →
      setMayRun r.set_ s = true →
      dispatchHeld (setEntry r.set_ s) b s = false →
      exec (.updateWork tag n (.moment b) errs) s = .next (framed (dispatchMoment tag r errs s) s)) ∧
  (∀ (s : State) (tag n b : Nat) (r : SetRun) (d : Delta) (errs : List (BitVec 288)),
      alive s = true →
      setRunOf n s = some r →
      r.torn = false →
      frozenAt 2 (tensorOf (setEntry r.set_ s).masterT s).home s = false →
      s.upd.deltas.find? (fun d => d.set_ == r.set_ && d.block == b) = some d →
      exec (.updateWork tag n (.master b) errs) s = .next (framed (sendWork tag r.set_ 1 b 0 ((List.range 4).map fun i => dataSector
        ((List.range 8).foldl (fun a j => a + (nth 0 d.values (8 * i + j)).toNat * 2 ^ (32 * j)) 0)) errs
        { s with upd := { s.upd with deltas := dropFirst (fun x => x == d) s.upd.deltas } }) s)) ∧
  (∀ (s : State) (u w b : Nat) (xs : List Sector) (ds : List (BitVec 256)) (errs : List (BitVec 288)),
      unitGone u s = false →
      reqRefused u w = false →
      reqKind w = 4 →
      fld b 6 0 = 0 →
      arriveSectors xs errs = some ds →
      takeWork u w b xs errs s = modUnit (updUnitOf (unitSector u (reqSector w))) (fun x => { x with queue := x.queue ++
        [{ BlockRun.init with set_ := fld b 63 53, block := fld b 52 16, exp := fld b 15 8, part := fld b 7 7,
                              payload := ds.map encodeSector }] }) (answerMem u w 0 none none s)) ∧
  (∀ (s : State) (u w b : Nat) (xs : List Sector) (errs : List (BitVec 288)),
      (unitGone u s = true ∨ reqRefused u w = true ∨ reqKind w ≠ 4 ∨ fld b 6 0 ≠ 0) →
      takeWork u w b xs errs s = answerMem u w (if unitGone u s then 2 else 1) none none s) ∧
  (∀ (s : State) (u : Nat) (b : BlockRun) (bs : List BlockRun),
      alive s = true →
      (unitState u s).step = [] →
      nextStep u s = b :: bs →
      boundaryTaken u b.set_ s = true →
      exec (.updateStepStart u) s = .next (framed (giveBoundary u s) s)) ∧
  (∀ (s : State) (u : Nat),
      giveBoundary u s = if (unitState u s).gave then s else bump Obj.SUSPENSIONS (modUnit u (fun x => { x with gave := true }) s)) ∧
  (∀ (s t : State) (u : Nat) (b : BlockRun) (bs l : List BlockRun),
      alive s = true →
      (unitState u s).step = [] →
      nextStep u s = b :: bs →
      boundaryTaken u b.set_ s = false →
      placesFree (b :: bs) s = true →
      setMayRun b.set_ s = true →
      setVacant (setEntry b.set_ s) s = false →
      snoopLines false (stepRanges (b :: bs) s) s = [] →
      setDamaged (setEntry b.set_ s) s = false →
      loadBlocks (b :: bs) s = (some l, t) →
      exec (.updateStepStart u) s = .next (framed (modUnit u (fun x => { x with
        queue := x.queue.drop (b :: bs).length, step := l, ip := 0, gave := false }) t) s)) ∧
  (∀ (s t : State) (u : Nat) (b : BlockRun) (bs : List BlockRun),
      alive s = true →
      (unitState u s).step = b :: bs →
      (partSpan (progOf (setEntry b.set_ s).prog s) b.part).2 ≤ (partSpan (progOf (setEntry b.set_ s).prog s) b.part).1 + (unitState u s).ip →
      snoopLines true (stepRanges (b :: bs) s) s = [] →
      t = finishSet b.set_ (modUnit u (fun x => { x with step := [], ip := 0 }) (forEach (b :: bs) storeBlock s)) →
      exec (.updateStepEnd u) s = .next (framed (releaseAccesses true (dropTorn t)) s)) ∧
  (∀ (s : State) (w : Writer) (v : BitVec 32),
      alive s = true →
      accepts w 0x7030 1 v.toNat s = true →
      (begunNow (v.toNat % 2048) s = true ∨ s.upd.landed.contains (v.toNat % 2048) = false ∨ running 2 s = false ∨ (setEntry (v.toNat % 2048) s).valid = false) →
      exec (.reapply w v) s = .next (framed (answerWith w 0 0x03000004 [] s) s)) ∧
  (∀ (s : State) (w : Writer) (v : BitVec 32) (n : Nat),
      alive s = true →
      accepts w 0x7030 1 v.toNat s = true →
      n = v.toNat % 2048 →
      begunNow n s = false →
      s.upd.landed.contains n = true →
      running 2 s = true →
      (setEntry n s).valid = true →
      ((setEntry n s).clip = false ∨ nth false s.upd.nsqValid (setEntry n s).clipGroup = true) →
      exec (.reapply w v) s = .next (framed (answerWith w 0 0 [] (startSet n (emit 0x2406 n n
        { s with upd := { s.upd with triggered := insertBy id n (s.upd.triggered.filter (· != n)) } }))) s)) ∧
  (∀ (s : State) (n : Nat),
      (setReachable (setEntry n s) s = true → startSet n s = beginSet n (nsqFor (setEntry n s) s) s) ∧
        (setReachable (setEntry n s) s = false → startSet n s =
          { s with upd := { s.upd with kept := insertBy id n (s.upd.kept.filter (· != n)) } })) ∧
  (∀ (s : State) (w : Writer) (v : BitVec 64),
      alive s = true →
      accepts w 0x7100 4 v.toNat s = true →
      runOf 2 s ≠ .stopped →
      exec (.startStep w v) s = .next (framed (answerWith w 0 0x03000001 [] s) s)) ∧
  (∀ (s : State) (w : Writer) (v : BitVec 64),
      alive s = true →
      accepts w 0x7100 4 v.toNat s = true →
      runOf 2 s = .stopped →
      exec (.startStep w v) s = .next (framed (answerWith w 0 0 [] (openNewStep (setStep v.toNat 0 s))) s))

/-- O47. Each update instruction, when it is the next of the running step, acts on every block of the step and the step
moves on; another leaves everything as it is. Rules: 08 R271, 08 R272, 08 R273, 08 R274, 08 R275, 08 R296, 08 R297.
Model's choices: log entries 21, 91, 103 -/
def Obligations.UpdateInstructionsRun : Prop :=
  (∀ (s : State) (op u n : Nat) (i : UpdInstr) (k : Nat → Instr) (g : UpdInstr → Nat → Nat → Nat → Nat),
      (op, k, g) ∈ updRows →
      alive s = true →
      currentInstr u op s = some (i, n) →
      exec (k u) s = .next (framed (modUnit u (fun x => { x with step := x.step.map (execArith g i n s), ip := x.ip + 1 }) s) s)) ∧
  (∀ (s : State) (op u : Nat) (k : Nat → Instr) (g : UpdInstr → Nat → Nat → Nat → Nat),
      (op, k, g) ∈ updRows →
      currentInstr u op s = none →
      exec (k u) s = .next s) ∧
  (∀ (s : State) (u n : Nat) (i : UpdInstr),
      alive s = true →
      currentInstr u 0xA s = some (i, n) →
      exec (.cvt u) s = .next (framed (modUnit u (fun x => { x with step := x.step.map (cvtBlock i n s), ip := x.ip + 1 }) s) s)) ∧
  (∀ (s : State) (u n : Nat) (i : UpdInstr),
      alive s = true →
      currentInstr u 0x10 s = some (i, n) →
      exec (.ld u) s = .next (framed (modUnit u (fun x => { x with step := x.step.map (fun b => setD i (fun j _ => (nth 0 b.state (32 * i.a + j)).toNat) b), ip := x.ip + 1 }) s) s)) ∧
  (∀ (s : State) (u n : Nat) (i : UpdInstr),
      alive s = true →
      currentInstr u 0x12 s = some (i, n) →
      exec (.ldg u) s = .next (framed (modUnit u (fun x => { x with step := x.step.map (fun b => setD i (fun j _ => toFp32 (carryVal b.exp (gradInt b j))) b), ip := x.ip + 1 }) s) s)) ∧
  (∀ (s : State) (u n : Nat) (i : UpdInstr),
      alive s = true →
      currentInstr u 0x13 s = some (i, n) →
      exec (.ldd u) s = .next (framed (modUnit u (fun x => { x with step := x.step.map (fun b => setD i (fun j _ =>
        fld (nth ⟨0, 0⟩ b.payload (j / 8)).data.toNat (32 * (j % 8) + 31) (32 * (j % 8))) b), ip := x.ip + 1 }) s) s)) ∧
  (∀ (s : State) (u n : Nat) (i : UpdInstr),
      alive s = true →
      currentInstr u 0x14 s = some (i, n) →
      exec (.updEmit u) s = .next (framed (modUnit u (fun x => { x with step := x.step.map (fun b => { b with lanes := b.lanes.map fun l => { l with
        delta := BitVec.ofNat 32 (updOperand (blockCtx b s) l.f i.a) } }), ip := x.ip + 1 }) s) s)) ∧
  (∀ (s : State) (u n m : Nat) (i : UpdInstr) (b : BlockRun) (bs : List BlockRun),
      alive s = true →
      currentInstr u 0x11 s = some (i, n) →
      (unitState u s).step = b :: bs →
      sumNat ((b :: bs).map (stNonfinite i s)) = m →
      (m = 0 ∨ (setRunOf b.set_ s).map (·.noted) = some true) →
      exec (.st u) s = .next (framed (bumpBy m Obj.NONFINITE_STORES (modUnit u (fun x => { x with
        step := x.step.map (fun b => stBlock i s b), ip := x.ip + 1 }) s)) s)) ∧
  (∀ (s : State) (u n m : Nat) (i : UpdInstr) (b : BlockRun) (bs : List BlockRun) (r : SetRun),
      alive s = true →
      currentInstr u 0x11 s = some (i, n) →
      (unitState u s).step = b :: bs →
      sumNat ((b :: bs).map (stNonfinite i s)) = m →
      0 < m →
      setRunOf b.set_ s = some r →
      r.noted = false →
      exec (.st u) s = .next (framed (emit 0x2405 b.set_ b.set_ (modSetRun b.set_ (fun r => { r with noted := true })
        (bumpBy m Obj.NONFINITE_STORES (modUnit u (fun x => { x with
          step := x.step.map (fun b => stBlock i s b), ip := x.ip + 1 }) s)))) s))

/-- O48. A DESC opens a transfer or is refused with its reason; DATA lands in place; the reports of the far end move the
transfers of this one. Rules: 09 R313, 09 R314, 09 R316, 09 R326, 09 R327, 10 R353, 10 R363, 10 R366, 10 R367, 10 R368,
14 R492, 14 R496. Model's choices: log entries 17, 28, 34, 57, 112 -/
def Obligations.RoutedTransfersRun : Prop :=
  (∀ (s : State) (k op t n part : Nat) (f : Flit) (row : Nat → Flit → Instr),
      (op, row) ∈ descRows →
      alive s = true →
      s.net.local_.contains (k, f) = true →
      f.kind = 1 →
      descOp (flitData f 0) = op →
      inSitout (taken k f s) = false →
      descTarget f (taken k f s) = .ok (t, n, part) →
      part ≠ 3 →
      descLen (flitData f 0) ≠ 0 →
      exec (row k f) s = .next (framed (answerDesc f 1 0 t { taken k f s with net := { (taken k f s).net with
        rxX := (taken k f s).net.rxX.filter (fun y => !(y.peer == f.src && y.no == f.xfer)) ++ [{ Xfer.init with
          peer := f.src, no := f.xfer, desc := BitVec.ofNat 256 (flitData f 0),
          extra := (List.range 7).map fun i => dataSector (flitData f (i + 1)), tensor := t, opened := true, set_ := n, part := part }] } }) s)) ∧
  (∀ (s : State) (k op r : Nat) (f : Flit) (row : Nat → Flit → Instr),
      (op, row) ∈ descRows →
      alive s = true →
      s.net.local_.contains (k, f) = true →
      f.kind = 1 →
      descOp (flitData f 0) = op →
      inSitout (taken k f s) = false →
      descTarget f (taken k f s) = .error r →
      exec (row k f) s = .next (framed (answerDesc f 3 r 0 (onlyIf (op == 1 && r == 1) (emit 0x8007 0 1) (taken k f s))) s)) ∧
  (∀ (s : State) (k op : Nat) (f : Flit) (row : Nat → Flit → Instr),
      (op, row) ∈ descRows →
      alive s = true →
      s.net.local_.contains (k, f) = true →
      f.kind = 1 →
      descOp (flitData f 0) = op →
      inSitout (taken k f s) = true →
      exec (row k f) s = .next (framed (answerDesc f 3 3 0 (taken k f s)) s)) ∧
  (∀ (s : State) (k t n : Nat) (f : Flit),
      alive s = true →
      s.net.local_.contains (k, f) = true →
      f.kind = 1 →
      descOp (flitData f 0) = 2 →
      inSitout (taken k f s) = false →
      descTarget f (taken k f s) = .ok (t, n, 3) →
      exec (.restore k f) s = .next (framed (restoreEnds (fld (flitData f 3) 191 128) (answerDesc f 2 0 0 (taken k f s))) s)) ∧
  (∀ (s : State) (k : Nat) (f : Flit) (x : Xfer),
      alive s = true →
      s.net.local_.contains (k, f) = true →
      f.kind = 2 →
      s.net.rxX.find? (fun x => x.peer == f.src && x.no == f.xfer) = some x →
      (tensorOf x.tensor s).state ≠ 2 →
      (List.range (carried f).length).any (fun i => frozenAt 2 ((tensorOf x.tensor s).home + descStart x.desc.toNat + 8 * f.foff + i) s) = false →
      (xferWhole x (f.foff :: x.got) = true → rangeHeld ((tensorOf x.tensor s).home + descStart x.desc.toNat) (descLen x.desc.toNat) s = false) →
      snoopLines true [((tensorOf x.tensor s).home + descStart x.desc.toNat + 8 * f.foff, (carried f).length)] s = [] →
      exec (.dataFlit k f) s = .next (framed (acceptData f x (taken k f s)) s)) ∧
  (∀ (s : State) (k : Nat) (f : Flit),
      alive s = true →
      s.net.local_.contains (k, f) = true →
      f.kind = 2 →
      s.net.rxX.find? (fun x => x.peer == f.src && x.no == f.xfer) = none →
      exec (.dataFlit k f) s = .next (framed (emit 0x3015 0 f.src (taken k f s)) s)) ∧
  (∀ (s : State) (k : Nat) (f : Flit) (x : Xfer),
      alive s = true →
      s.net.local_.contains (k, f) = true →
      f.kind = 3 →
      fld (flitData f 0) 255 248 = 1 →
      answeredTx f (taken k f s) = some x →
      x.opened = false →
      reportHeld f s = false →
      snoopLines false (reportRanges f s) s = [] →
      exec (.opened k f) s = .next (framed (transferOpened x (taken k f s)) s)) ∧
  (∀ (s : State) (k : Nat) (f : Flit) (x : Xfer),
      alive s = true →
      s.net.local_.contains (k, f) = true →
      f.kind = 3 →
      fld (flitData f 0) 255 248 = 2 →
      answeredTx f (taken k f s) = some x →
      exec (.complete k f) s = .next (framed (transferComplete x (taken k f s)) s)) ∧
  (∀ (s : State) (k : Nat) (f : Flit) (x : Xfer),
      alive s = true →
      s.net.local_.contains (k, f) = true →
      f.kind = 3 →
      fld (flitData f 0) 255 248 = 3 →
      answeredTx f (taken k f s) = some x →
      reportHeld f s = false →
      exec (.refused k f) s = .next (framed (transferRefused x (fld (flitData f 0) 247 240) (taken k f s)) s)) ∧
  (∀ (s : State) (k n : Nat) (f : Flit),
      alive s = true →
      s.net.local_.contains (k, f) = true →
      f.kind = 3 →
      fld (flitData f 0) 255 248 = 0x10 →
      matchSet false (fld (flitData f 0) 215 192) (fld (flitData f 0) 191 152) (taken k f s) = some n →
      (recOf n (taken k f s)).step = fld (flitData f 0) 151 88 →
      exec (.appliedReport k f) s = .next (framed (confirmStep (setRec n { recOf n (taken k f s) with partner := true } (taken k f s))) s)) ∧
  (∀ (s : State) (k : Nat) (f : Flit),
      alive s = true →
      s.net.local_.contains (k, f) = true →
      f.kind = 3 →
      fld (flitData f 0) 255 248 = 0x11 →
      (s.trn.syncEntry.isSome = true ∨ inSitout s = true) →
      exec (.syncOffer k f) s = .next (framed (compareSync f (sendSync 0x12 (taken k f s))) s)) ∧
  (∀ (s : State) (k : Nat) (f : Flit),
      alive s = true →
      s.net.local_.contains (k, f) = true →
      f.kind = 3 →
      fld (flitData f 0) 255 248 = 0x12 →
      exec (.syncAnswer k f) s = .next (framed (compareSync f (taken k f s)) s))

/-- O49. A VL0 flit reaches its collective, is staged for one that has not started, or is discarded; abort tokens abort or
are kept until the deadline. Rules: 11 R392, 11 R394, 11 R397, 11 R398, 11 R408, 11 R410, 11 R411, 11 R412, 11 R635, 14
R494, 14 R502. Model's choices: log entries 17, 28, 33, 98, 128 -/
def Obligations.CollectiveFlitsAndTokens : Prop :=
  (∀ (s u : State) (k kind : Nat) (f : Flit) (row : Nat → Flit → Instr) (c : Coll),
      (kind, row) ∈ vl0Rows →
      alive s = true →
      f.vl = 0 →
      f.kind = kind →
      u = engineTurn s →
      (linkOf k u).rx.contains f = true →
      slotOf (flitTag f) u = some c →
      c.kind = 0 →
      snoopLines true [((tensorOf (collDest c) u).home, (tensorOf (collDest c) u).size)] u = [] →
      exec (row k f) s = .next (framed (handleFlit k f (takenRx k f u)) s)) ∧
  (∀ (s u : State) (k kind : Nat) (f : Flit) (row : Nat → Flit → Instr) (c : Coll),
      (kind, row) ∈ vl0Rows →
      alive s = true →
      f.vl = 0 →
      f.kind = kind →
      u = engineTurn s →
      (linkOf k u).rx.contains f = true →
      slotOf (flitTag f) u = some c →
      c.kind ≠ 0 →
      (c.kind ≠ 6 ∨ flitRound f ≤ c.round) →
      exec (row k f) s = .next (framed (handleFlit k f (takenRx k f u)) s)) ∧
  (∀ (s u : State) (k kind : Nat) (f : Flit) (row : Nat → Flit → Instr),
      (kind, row) ∈ vl0Rows →
      alive s = true →
      f.vl = 0 →
      f.kind = kind →
      u = engineTurn s →
      (linkOf k u).rx.contains f = true →
      slotOf (flitTag f) u = none →
      tagEnded (flitTag f) u = true →
      exec (row k f) s = .next (framed (takenRx k f u) s)) ∧
  (∀ (s u : State) (k kind : Nat) (f : Flit) (row : Nat → Flit → Instr),
      (kind, row) ∈ vl0Rows →
      alive s = true →
      f.vl = 0 →
      f.kind = kind →
      u = engineTurn s →
      (linkOf k u).rx.contains f = true →
      slotOf (flitTag f) u = none →
      tagEnded (flitTag f) u = false →
      tagDeadline (flitTag f) u = none →
      exec (row k f) s = .next (framed (emit 0x3109 0 (flitTag f) (takenRx k f u)) s)) ∧
  (∀ (s u : State) (k kind : Nat) (f : Flit) (row : Nat → Flit → Instr) (d : Nat),
      (kind, row) ∈ vl0Rows →
      alive s = true →
      f.vl = 0 →
      f.kind = kind →
      u = engineTurn s →
      (linkOf k u).rx.contains f = true →
      slotOf (flitTag f) u = none →
      tagEnded (flitTag f) u = false →
      tagDeadline (flitTag f) u = some d →
      u.col.staged.length < 131072 →
      exec (row k f) s = .next (framed { takenRx k f u with col := { (takenRx k f u).col with
        staged := (takenRx k f u).col.staged ++ [(k, f, d)] } } s)) ∧
  (∀ (s u : State) (k : Nat) (f : Flit) (c : Coll),
      alive s = true →
      f.vl = 0 →
      f.kind = 0xA →
      u = engineTurn s →
      (linkOf k u).rx.contains f = true →
      slotOf (flitTag f) u = some c →
      c.kind = 0 →
      snoopLines true [((tensorOf (collDest c) u).home, (tensorOf (collDest c) u).size)] u = [] →
      exec (.plain k f) s = .next (framed (digestRound 3 (flitTag f) (handleFlit k f (takenRx k f u))) s)) ∧
  (∀ (s u : State) (k : Nat) (f : Flit) (c : Coll),
      alive s = true →
      f.vl = 0 →
      f.kind = 0xA →
      u = engineTurn s →
      (linkOf k u).rx.contains f = true →
      slotOf (flitTag f) u = some c →
      c.kind = 6 →
      flitRound f ≤ c.round →
      exec (.plain k f) s = .next (framed (digestRound 3 (flitTag f) (handleFlit k f (takenRx k f u))) s)) ∧
  (∀ (s u : State) (k : Nat) (f : Flit),
      alive s = true →
      f.vl = 2 →
      f.kind = 7 →
      u = engineTurn s →
      (linkOf k u).rx.contains f = true →
      fld f.hdr.toNat 105 98 ≠ 1 →
      fld f.hdr.toNat 105 98 ≠ 2 →
      bitOf f.hdr.toNat 106 = true →
      exec (.abortToken k f) s = .next (framed (forEach ((takenRx k f u).col.slots.filter fun c => (collLinks c).contains k) (fun c =>
        tokenAbort c (fld f.hdr.toNat 97 74)) (takenRx k f u)) s)) ∧
  (∀ (s u : State) (k : Nat) (f : Flit) (c : Coll),
      alive s = true →
      f.vl = 2 →
      f.kind = 7 →
      u = engineTurn s →
      (linkOf k u).rx.contains f = true →
      fld f.hdr.toNat 105 98 ≠ 1 →
      fld f.hdr.toNat 105 98 ≠ 2 →
      bitOf f.hdr.toNat 106 = false →
      slotOf (flitTag f) (takenRx k f u) = some c →
      exec (.abortToken k f) s = .next (framed (tokenAbort c (fld f.hdr.toNat 97 74) (takenRx k f u)) s)) ∧
  (∀ (s u : State) (k d : Nat) (f : Flit),
      alive s = true →
      f.vl = 2 →
      f.kind = 7 →
      u = engineTurn s →
      (linkOf k u).rx.contains f = true →
      fld f.hdr.toNat 105 98 ≠ 1 →
      fld f.hdr.toNat 105 98 ≠ 2 →
      bitOf f.hdr.toNat 106 = false →
      slotOf (flitTag f) (takenRx k f u) = none →
      tagEnded (flitTag f) (takenRx k f u) = false →
      tagDeadline (flitTag f) (takenRx k f u) = some d →
      exec (.abortToken k f) s = .next (framed { (takenRx k f u) with col := { (takenRx k f u).col with
        tokens := ((takenRx k f u).col.tokens.filter fun t => t.tag != flitTag f) ++
          [⟨flitTag f, fld f.hdr.toNat 97 74, fld f.hdr.toNat 105 98, d⟩] } } s)) ∧
  (∀ (s u : State) (tag : Nat) (c : Coll),
      alive s = true →
      u = engineTurn s →
      slotOf tag u = some c →
      exec (.collectiveLocalFault tag) s = .next (framed (countRepeat 192 (localFault c u)) s)) ∧
  (∀ (s : State) (tag : Nat),
      alive s = true →
      (s.col.staged.any fun p => flitTag p.2.1 == tag && decide (p.2.2 ≤ now s)) = true →
      exec (.stagedFlitExpire tag) s = .next (framed (emit 0x3109 0 tag { s with col := { s.col with staged := s.col.staged.filter fun p => flitTag p.2.1 != tag } }) s)) ∧
  (∀ (s : State) (tag : Nat),
      alive s = true →
      exec (.keptTokenExpire tag) s = .next { s with col := { s.col with tokens := s.col.tokens.filter fun t => !(t.tag == tag && decide (t.deadline ≤ now s)) } })

/-- O50. A collective runs its rounds and completes; the Bow commits, rolls forward or leaves open the step; digests end in
their comparison. Rules: 09 R318, 09 R319, 09 R321, 09 R329, 09 R331, 09 R332, 11 R402, 11 R403. Model's choices: log
entries 35, 54, 98, 112, 129 -/
def Obligations.CollectivesEndAndStepsCommit : Prop :=
  (∀ (s u : State) (tag : Nat) (c : Coll),
      alive s = true →
      u = engineTurn s →
      slotOf tag u = some c →
      c.kind = 0 →
      c.phase = .running →
      recordsDone c = true →
      redoAny c = true →
      c.round < 31 →
      ((sourceRanges c u).any fun r => rangeHeld r.1 r.2 u) = false →
      snoopLines false (sourceRanges c u) u = [] →
      exec (.roundStart tag) s = .next (framed (nextRound tag c u) s)) ∧
  (∀ (s u : State) (tag : Nat) (c : Coll),
      alive s = true →
      u = engineTurn s →
      slotOf tag u = some c →
      collDone c = true →
      rangeHeld (tensorOf (collDest c) u).home (tensorOf (collDest c) u).size u = false →
      collOp c = 1 →
      exec (.collectiveComplete tag) s = .next (framed (landingDone (collDest c) (endColl c u)) s)) ∧
  (∀ (s u : State) (tag g : Nat) (c : Coll),
      alive s = true →
      u = engineTurn s →
      slotOf tag u = some c →
      collDone c = true →
      rangeHeld (tensorOf (collDest c) u).home (tensorOf (collDest c) u).size u = false →
      collOp c = 5 →
      clipGroupOf c.tensor (endColl c u) = some g →
      exec (.collectiveComplete tag) s = .next (framed (clipDone g (collDest c) (endColl c u)) s)) ∧
  (∀ (s u : State) (tag : Nat) (c : Coll),
      alive s = true →
      u = engineTurn s →
      slotOf tag u = some c →
      collDone c = true →
      rangeHeld (tensorOf (collDest c) u).home (tensorOf (collDest c) u).size u = false →
      collOp c ≠ 1 →
      collOp c ≠ 5 →
      exec (.collectiveComplete tag) s = .next (framed (endColl c u) s)) ∧
  (∀ (s u : State) (tag : Nat) (c : Coll),
      alive s = true →
      u = engineTurn s →
      slotOf tag u = some c →
      c.kind = 1 →
      finalsDone c = true →
      bowSum c 0 = collP c →
      bowSum c 1 = collP c * openStep u →
      exec (.bowResult tag) s = .next (framed (freeSlot c 0 (commitStep (bump Obj.COMPLETED u))) s)) ∧
  (∀ (s u : State) (tag : Nat) (c : Coll),
      alive s = true →
      u = engineTurn s →
      slotOf tag u = some c →
      c.kind = 1 →
      finalsDone c = true →
      (collP c : Int) * openStep u < bowSum c 1 →
      c.c0 = some true →
      exec (.bowResult tag) s = .next (framed (freeSlot c 0 (emit 0x8006 0 (openStep (bump Obj.COMPLETED u))
        (commitStep (bump Obj.COMPLETED u)))) s)) ∧
  (∀ (s u : State) (tag : Nat) (c : Coll),
      alive s = true →
      u = engineTurn s →
      slotOf tag u = some c →
      c.kind = 1 →
      finalsDone c = true →
      bowSum c 0 ≠ collP c →
      (bowSum c 1 ≤ (collP c : Int) * openStep u ∨ c.c0 ≠ some true) →
      exec (.bowResult tag) s = .next (framed (freeSlot c 1 (emit 0x8002 0 ((collP c : Int) - bowSum c 0).toNat
        (bump Obj.BOWS_OPEN (bump Obj.COMPLETED u)))) s)) ∧
  (∀ (s u : State) (tag : Nat) (c : Coll),
      alive s = true →
      u = engineTurn s →
      slotOf tag u = some c →
      c.deadline < now u + rd Obj.BOW_MARGIN u * 2 ^ beatB u →
      exec (.bowMarginExpire tag) s = .next (framed (contributeBow tag false u) s)) ∧
  (∀ (s u v : State) (entry t : Nat) (d : DigestRun) (c : Coll) (partner : Option (Nat × List (BitVec 128))),
      alive s = true →
      u = engineTurn s →
      (digestRuns entry u).find? (fun d => d.tensor == t && !d.done) = some d →
      u.col.slots.find? (fun c => c.tag == entry && c.kind == 6) = some c →
      rangeHeld (tensorOf t u).home (tensorOf t u).size u = false →
      digestEntryHeld t u = false →
      snoopLines false [((tensorOf t u).home, (tensorOf t u).size)] u = [] →
      v = takeDigest d (digestCompares entry u) partner u →
      (digestRuns entry v).all (·.done) = false →
      exec (.digestComputed entry t partner) s = .next (framed v s)) ∧
  (∀ (s u v : State) (entry t : Nat) (d : DigestRun) (c : Coll) (partner : Option (Nat × List (BitVec 128))),
      alive s = true →
      u = engineTurn s →
      (digestRuns entry u).find? (fun d => d.tensor == t && !d.done) = some d →
      u.col.slots.find? (fun c => c.tag == entry && c.kind == 6) = some c →
      rangeHeld (tensorOf t u).home (tensorOf t u).size u = false →
      digestEntryHeld t u = false →
      snoopLines false [((tensorOf t u).home, (tensorOf t u).size)] u = [] →
      v = takeDigest d (digestCompares entry u) partner u →
      (digestRuns entry v).all (·.done) = true →
      bitOf (digestCompares entry u) 0 = true →
      exec (.digestComputed entry t partner) s = .next (framed (digestRound 3 c.tag (contributeDigests c.tag v)) s)) ∧
  (∀ (s u v : State) (entry t : Nat) (d : DigestRun) (c : Coll) (partner : Option (Nat × List (BitVec 128))),
      alive s = true →
      u = engineTurn s →
      (digestRuns entry u).find? (fun d => d.tensor == t && !d.done) = some d →
      u.col.slots.find? (fun c => c.tag == entry && c.kind == 6) = some c →
      rangeHeld (tensorOf t u).home (tensorOf t u).size u = false →
      digestEntryHeld t u = false →
      snoopLines false [((tensorOf t u).home, (tensorOf t u).size)] u = [] →
      v = takeDigest d (digestCompares entry u) partner u →
      (digestRuns entry v).all (·.done) = true →
      bitOf (digestCompares entry u) 0 = false →
      exec (.digestComputed entry t partner) s = .next (framed (endCompare c.tag v) s))

/-- O51. RESTORE_CONTROL begins a restore or seeding on either side, cancels one, and is refused in Sit-out or while one
runs; HISTORY_RESET forgets. Rules: 03 R100, 09 R326, 09 R327, 14 R492. Model's choices: log entries 34, 97, 112 -/
def Obligations.RestoresAndSeedingsBegin : Prop :=
  (∀ (s : State) (w : Writer) (n : Nat),
      alive s = true →
      accepts w 0x7120 1 1 s = true →
      inSitout s = false →
      s.trn.restore = none →
      (namedSets true s).find? (fun n => begunNow n s && !appliedNow n s) = some n →
      exec (.restoreDonate w) s = .next (framed (answerWith w 0 0 [] (failRestore n (beginRestore 1 { RestoreRun.init with kind := 1 } s))) s)) ∧
  (∀ (s : State) (w : Writer) (again : List Nat),
      alive s = true →
      accepts w 0x7120 1 1 s = true →
      inSitout s = false →
      s.trn.restore = none →
      (namedSets true s).find? (fun n => begunNow n s && !appliedNow n s) = none →
      again = (namedSets true s).filter (fun n => !begunNow n s && s.trn.retained.contains (setEntry n s).landing) →
      exec (.restoreDonate w) s = .next (framed (answerWith w 0 0 [] (restoreGo (forEach again startSet
        (beginRestore 1 { RestoreRun.init with
          kind := 1, sets := (namedSets true s).filter fun n => !again.contains n, waitApply := again } s)))) s)) ∧
  (∀ (s : State) (w : Writer),
      alive s = true →
      accepts w 0x7120 1 2 s = true →
      inSitout s = false →
      s.trn.restore = none →
      exec (.restoreReceive w) s = .next (framed (answerWith w 0 0 [] (setStep (committedStep s) 2 (beginRestore 2 { RestoreRun.init with kind := 2 } s))) s)) ∧
  (∀ (s : State) (w : Writer),
      alive s = true →
      accepts w 0x7120 1 3 s = true →
      inSitout s = false →
      s.trn.restore = none →
      exec (.seedMirror w) s = .next (framed (answerWith w 0 0 [] (restoreGo (beginRestore 1
        { RestoreRun.init with kind := 3, sets := namedSets false s } s))) s)) ∧
  (∀ (s : State) (w : Writer),
      alive s = true →
      accepts w 0x7120 1 4 s = true →
      inSitout s = false →
      s.trn.restore = none →
      exec (.receiveMirror w) s = .next (framed (answerWith w 0 0 [] (beginRestore 2 { RestoreRun.init with kind := 4 } s)) s)) ∧
  (∀ (s : State) (w : Writer),
      alive s = true →
      accepts w 0x7120 1 5 s = true →
      inSitout s = false →
      exec (.restoreCancel w) s = .next (framed (answerWith w 0 0 [] (if rd Obj.STEP_STATE (setRestore 0 none s) = 2
        then setStep (committedStep (setRestore 0 none s)) 0 (setRestore 0 none s) else setRestore 0 none s)) s)) ∧
  (∀ (s : State) (w : Writer) (v : Nat) (row : Writer → Instr),
      (v, row) ∈ [(1, Instr.restoreDonate), (2, .restoreReceive), (3, .seedMirror), (4, .receiveMirror)] →
      alive s = true →
      accepts w 0x7120 1 v s = true →
      (s.trn.restore.isSome = true ∨ inSitout s = true) →
      exec (row w) s = .next (framed (answerWith w 0 (if inSitout s then 0x03000003 else 0x03000004) [] s) s)) ∧
  (∀ (s : State) (w : Writer) (v : BitVec 32),
      alive s = true →
      accepts w 0x4103 1 v.toNat s = true →
      exec (.historyReset w v) s = .next (framed (answerWith w 0 0 [] (historyUnknown (v.toNat % 2 ^ 24) s)) s))

/-- O52. A loss of light, of alignment, of the slot check or of time takes a link down with its reason; timers bring it
back. Rules: 10 R357, 10 R358, 10 R360, 10 R374, 10 R375, 10 R376. Model's choices: log entries 4, 125, 128 -/
def Obligations.LinksGoDownAndRetrain : Prop :=
  (∀ (s : State) (k : Nat),
      alive s = true →
      exec (.lossOfLight k) s = .next (framed (onlyIf (linkLive k s) (linkDown k 1) s) s)) ∧
  (∀ (s : State) (k : Nat),
      alive s = true →
      exec (.scrcTimeout k) s = .next (framed (onlyIf (linkLive k s) (linkDown k 4) s) s)) ∧
  (∀ (s : State) (k : Nat),
      alive s = true →
      exec (.alignmentLost k) s = .next (framed (onlyIf ((linkOf k s).state == .up) (linkDown k 2) s) s)) ∧
  (∀ (s : State) (k : Nat),
      alive s = true →
      exec (.trainingTimeout k) s = .next (framed (onlyIf ((linkOf k s).state == .training && stateFor k 500000000 s) (linkDown k 9) s) s)) ∧
  (∀ (s : State) (k : Nat),
      alive s = true →
      (linkOf k s).state = .hold →
      stateFor k 8001 s = true →
      exec (.holdTimeout k) s = .next (framed (ringNext k (linkDown k 8 s)) s)) ∧
  (∀ (s : State) (k : Nat),
      alive s = true →
      ((linkOf k s).state ≠ .hold ∨ stateFor k 8001 s = false) →
      exec (.holdTimeout k) s = .next s) ∧
  (∀ (s : State) (k : Nat),
      alive s = true →
      exec (.linkRetryTimer k) s = .next (framed (onlyIf ((linkOf k s).state == .down && lightOk k s && stateFor k 1000000000 s) (startTraining k) s) s)) ∧
  (∀ (s : State) (k : Nat),
      alive s = true →
      exec (.linkUsableTimer k) s = .next (framed (onlyIf (linkLive k s && decide ((linkOf k s).upAt + 10000000000 ≤ s.clk.ticks)) (modLink k fun l => { l with usable := true }) s) s))

/-- O53. Training brings a link UP or finds a loop; lasers, optical engines and LINK_CONTROL decide which links have light.
Rules: 10 R357, 10 R360, 10 R372, 10 R374, 10 R376, 16 R549, 18 R576, 14 R504. Model's choices: log entries 30, 32 -/
def Obligations.TrainingEndsAndLasersRule : Prop :=
  (∀ (s : State) (k n m r b : Nat),
      alive s = true →
      (linkOf k s).state = .training →
      n = nodeId s →
      nodeId s ≠ 0 →
      exec (.linkTrainingComplete k n m r b) s = .next (framed (linkDown k 5 (modLink k (fun l => { l with farNode := n, farLink := m }) s)) s)) ∧
  (∀ (s : State) (k n m r b : Nat),
      alive s = true →
      (linkOf k s).state = .training →
      (n ≠ nodeId s ∨ nodeId s = 0) →
      exec (.linkTrainingComplete k n m r b) s = .next (framed (trainedLink k n m r b s) s)) ∧
  (∀ (s : State) (k n m r b : Nat),
      alive s = true →
      (linkOf k s).state ≠ .training →
      exec (.linkTrainingComplete k n m r b) s = .next (framed s s)) ∧
  (∀ (s : State) (e v b : Nat),
      alive s = true →
      (b ≤ 90 ∨ nth true (engineOf e s).warned v = true) →
      exec (.laserBiasCheck e v b true) s = .next (framed (lightLinks (modEngine e (fun x => { x with laserOk := x.laserOk.set v true }) s)) s)) ∧
  (∀ (s : State) (e v b : Nat),
      alive s = true →
      90 < b →
      nth true (engineOf e s).warned v = false →
      exec (.laserBiasCheck e v b true) s = .next (framed (lightLinks (modEngine e (fun x => { x with laserOk := x.laserOk.set v true }) (emit 0x3022 e (e * 2 + v) (modEngine e (fun x => { x with warned := x.warned.set v true }) s)))) s)) ∧
  (∀ (s : State) (e v b : Nat),
      alive s = true →
      ∃ t, exec (.laserBiasCheck e v b false) s = .next (framed (forEach (engineLinks e) (fun k u =>
        onlyIf ((linkOf k u).state != .lockedOut) (darken k 6) u) t) s) ∧
      t = modEngine e (fun x => { x with laserOk := x.laserOk.set v false }) (onlyIf (decide (90 < b) && !nth true (engineOf e s).warned v)
        (fun u => emit 0x3022 e (e * 2 + v) (modEngine e (fun x => { x with warned := x.warned.set v true }) u)) s)) ∧
  (∀ (s : State) (e : Nat),
      alive s = true →
      e < 8 →
      (engineOf e s).faulted = false →
      exec (.opticalEngineFault e) s = .next (framed (forEach (engineLinks e) (fun k => darken k 6) (emit 0x3901 e e (modEngine e (fun x => { x with faulted := true }) s))) s)) ∧
  (∀ (s : State) (e : Nat),
      alive s = true →
      e < 8 →
      (engineOf e s).hotOff = false →
      (engineOf e s).hot90At.any (fun a => decide (a + 100000000 ≤ s.clk.ticks)) = true →
      exec (.opticalEngineOvertemp e) s = .next (framed (forEach (engineLinks e) (fun k => darken k 6) (emit 0x5112 e e (modEngine e (fun x => { x with hotOff := true }) s))) s)) ∧
  (∀ (s : State) (e : Nat) (t : BitVec 16),
      alive s = true →
      exec (.opticalEngineTempReading e t) s = .next (framed (engineRead e (toSigned 16 t.toNat) s) s)) ∧
  (∀ (s : State) (w : Writer) (k : Nat),
      alive s = true →
      accepts w 0x8002 (k + 1) 0 s = true →
      exec (.linkDisable w k) s = .next (framed (answerWith w 0 0 [] (darken k 7 (wr (Obj.LINK_CONTROL (k + 1)) 0 (saveDue [(Obj.LINK_CONTROL (k + 1)).key] s)))) s)) ∧
  (∀ (s : State) (w : Writer) (k : Nat),
      alive s = true →
      accepts w 0x8002 (k + 1) 1 s = true →
      exec (.linkEnable w k) s = .next (framed (answerWith w 0 0 [] (linkEnabled k s)) s)) ∧
  (∀ (s : State) (w : Writer) (k : Nat),
      alive s = true →
      accepts w 0x8002 (k + 1) 2 s = true →
      exec (.linkRetrain w k) s = .next (framed (answerWith w 0 0 [] (linkRetrained k s)) s))

/-- O54. A frame in order with good slot and flits is accepted; another is replayed, ignored or ends the link. Rules: 10
R346, 10 R349, 10 R350, 10 R351, 10 R353, 10 R358, 10 R363, 10 R374, 10 R376. Model's choices: log entries 16, 30, 31,
32, 120, 121 -/
def Obligations.FramesAreReceived : Prop :=
  (∀ (s : State) (k : Nat) (x : BitVec 640) (fl : List Flit) (bad : Bool) (cor : Nat),
      alive s = true →
      (linkOf k s).state = .down →
      (bad = false ∧ scrcOk x.toNat = true) →
      fld x.toNat 542 539 = 2 →
      lightOk k s = true →
      exec (.frameReceive k x fl bad cor) s = .next (framed (startTraining k s) s)) ∧
  (∀ (s : State) (k : Nat) (x : BitVec 640) (fl : List Flit) (bad : Bool) (cor : Nat),
      alive s = true →
      linkLive k s = false →
      ((linkOf k s).state = .down → ¬ ((bad = false ∧ scrcOk x.toNat = true) ∧ fld x.toNat 542 539 = 2 ∧ lightOk k s = true)) →
      exec (.frameReceive k x fl bad cor) s = .next (framed (s) s)) ∧
  (∀ (s : State) (k : Nat) (x : BitVec 640) (fl : List Flit) (bad : Bool) (cor : Nat),
      alive s = true →
      linkLive k s = true →
      (bad = false ∧ scrcOk x.toNat = true) →
      (fld x.toNat 527 504 ≠ (linkOf k s).farNode ∨ fld x.toNat 533 528 ≠ (linkOf k s).farLink) →
      exec (.frameReceive k x fl bad cor) s = .next (framed (linkDown k 5 s) s)) ∧
  (∀ (s : State) (k : Nat) (x : BitVec 640) (fl : List Flit) (bad : Bool) (cor : Nat),
      alive s = true →
      linkLive k s = true →
      (¬ ((bad = false ∧ scrcOk x.toNat = true) ∧ (fld x.toNat 527 504 ≠ (linkOf k s).farNode ∨ fld x.toNat 533 528 ≠ (linkOf k s).farLink))) →
      16 ≤ (linkOf k (takeSlot k x.toNat bad cor s)).nakRun →
      exec (.frameReceive k x fl bad cor) s = .next (framed (linkDown k 3 (takeSlot k x.toNat bad cor s)) s)) ∧
  (∀ (s : State) (k : Nat) (x : BitVec 640) (fl : List Flit) (bad : Bool) (cor : Nat),
      alive s = true →
      linkLive k s = true →
      (¬ ((bad = false ∧ scrcOk x.toNat = true) ∧ (fld x.toNat 527 504 ≠ (linkOf k s).farNode ∨ fld x.toNat 533 528 ≠ (linkOf k s).farLink))) →
      (linkOf k (takeSlot k x.toNat bad cor s)).nakRun < 16 →
      (bad = true ∨ scrcOk x.toNat = false ∨ fl.all hcrcOk = false) →
      exec (.frameReceive k x fl bad cor) s = .next (framed (modLink k (fun l => { l with nak := true }) (takeSlot k x.toNat bad cor s)) s)) ∧
  (∀ (s : State) (k : Nat) (x : BitVec 640) (fl : List Flit) (bad : Bool) (cor : Nat),
      alive s = true →
      linkLive k s = true →
      (¬ ((bad = false ∧ scrcOk x.toNat = true) ∧ (fld x.toNat 527 504 ≠ (linkOf k s).farNode ∨ fld x.toNat 533 528 ≠ (linkOf k s).farLink))) →
      (linkOf k (takeSlot k x.toNat bad cor s)).nakRun < 16 →
      bad = false →
      scrcOk x.toNat = true →
      fl.all hcrcOk = true →
      fld x.toNat 575 560 ≠ ((linkOf k s).rxNo + 1) % 65536 →
      exec (.frameReceive k x fl bad cor) s = .next (framed (takeSlot k x.toNat bad cor s) s)) ∧
  (∀ (s : State) (k : Nat) (x : BitVec 640) (fl : List Flit) (bad : Bool) (cor : Nat),
      alive s = true →
      linkLive k s = true →
      (¬ ((bad = false ∧ scrcOk x.toNat = true) ∧ (fld x.toNat 527 504 ≠ (linkOf k s).farNode ∨ fld x.toNat 533 528 ≠ (linkOf k s).farLink))) →
      (linkOf k (takeSlot k x.toNat bad cor s)).nakRun < 16 →
      bad = false →
      scrcOk x.toNat = true →
      fl.all hcrcOk = true →
      fld x.toNat 575 560 = ((linkOf k s).rxNo + 1) % 65536 →
      exec (.frameReceive k x fl bad cor) s = .next (framed (acceptFrame k x.toNat fl (takeSlot k x.toNat bad cor s)) s))

/-- O55. A transmitter fills its next position with a replayed frame, the Sit-out token, the flit of the highest turn that
has a credit, or an idle flit. Rules: 10 R349, 10 R353, 10 R354, 10 R355, 10 R356, 10 R358, 11 R399, 11 R411. Model's
choices: log entries 32, 87, 120 -/
def Obligations.FlitsAreTransmitted : Prop :=
  (∀ (s t : State) (k : Nat),
      alive s = true →
      t = routesRetried s →
      (linkOf k t).state ≠ .up →
      exec (.flitTransmit k) s = .next (framed (t) s)) ∧
  (∀ (s t : State) (k : Nat),
      alive s = true →
      t = routesRetried s →
      (linkOf k t).state = .up →
      (linkOf k t).again.isSome = true →
      exec (.flitTransmit k) s = .next (framed (replayFlit k t) s)) ∧
  (∀ (s t : State) (k : Nat),
      alive s = true →
      t = routesRetried s →
      (linkOf k t).state = .up →
      (linkOf k t).again = none →
      (linkOf k t).tokenDue = true →
      (linkOf k t).token0 = true →
      exec (.flitTransmit k) s = .next (framed (placeFlit k (sitoutToken t) (modLink k (fun l => { l with tokenDue := false, token0 := false }) t)) s)) ∧
  (∀ (s t : State) (k : Nat),
      alive s = true →
      t = routesRetried s →
      (linkOf k t).state = .up →
      (linkOf k t).again = none →
      ((linkOf k t).tokenDue = false ∨ (linkOf k t).token0 = false) →
      (linkOf k t).cur = [] →
      (linkOf k t).replaying ≠ [] →
      exec (.flitTransmit k) s = .next (framed (replayFlit k t) s)) ∧
  (∀ (s t : State) (k : Nat),
      alive s = true →
      t = routesRetried s →
      (linkOf k t).state = .up →
      (linkOf k t).again = none →
      ((linkOf k t).tokenDue = false ∨ (linkOf k t).token0 = false) →
      ((linkOf k t).cur ≠ [] ∨ (linkOf k t).replaying = []) →
      replayRoom k t = false →
      exec (.flitTransmit k) s = .next (framed (placeFlit k idleFlit t) s)) ∧
  (∀ (s t : State) (k : Nat),
      alive s = true →
      t = routesRetried s →
      (linkOf k t).state = .up →
      (linkOf k t).again = none →
      ((linkOf k t).tokenDue = false ∨ (linkOf k t).token0 = false) →
      ((linkOf k t).cur ≠ [] ∨ (linkOf k t).replaying = []) →
      replayRoom k t = true →
      (chooseFlit k t).1 = none →
      exec (.flitTransmit k) s = .next (framed (placeFlit k idleFlit (windowStep k (chooseFlit k t).2 t)) s)) ∧
  (∀ (s t : State) (k : Nat) (f g : Flit) (l : Link),
      alive s = true →
      t = routesRetried s →
      (linkOf k t).state = .up →
      (linkOf k t).again = none →
      ((linkOf k t).tokenDue = false ∨ (linkOf k t).token0 = false) →
      ((linkOf k t).cur ≠ [] ∨ (linkOf k t).replaying = []) →
      replayRoom k t = true →
      (chooseFlit k t).1 = some f →
      useCredit f (linkOf k (windowStep k (chooseFlit k t).2 t)) = some (g, l) →
      exec (.flitTransmit k) s = .next (framed (sendFlit k f g l (windowStep k (chooseFlit k t).2 t)) s))

/-- O56. Ring calibration holds each link of an engine in turn; a hold ends with the link UP and replaying; an asymmetry
calibration stores its figure. Rules: 10 R357, 10 R358, 10 R359, 10 R371. Model's choices: log entries 4, 61, 120 -/
def Obligations.HoldsRingsAndAsymmetry : Prop :=
  (∀ (s : State) (k : Nat),
      alive s = true →
      ringLink s = some k →
      ringMayStart s = true →
      (linkOf k s).state = .up →
      exec (.ringCalLink k) s = .next (framed (announceHold k s) s)) ∧
  (∀ (s : State) (k : Nat),
      alive s = true →
      ringLink s = some k →
      ringMayStart s = true →
      (linkOf k s).state = .hold →
      exec (.ringCalLink k) s = .next (framed s s)) ∧
  (∀ (s : State) (k : Nat),
      alive s = true →
      ringLink s = some k →
      ringMayStart s = true →
      linkLive k s = false →
      exec (.ringCalLink k) s = .next (framed (ringNext k s) s)) ∧
  (∀ (s : State) (k : Nat) (r : RingFig) (rest : List RingFig),
      alive s = true →
      ringLink s = some k →
      ringMayStart s = false →
      s.net.ringFigs = r :: rest →
      exec (.ringCalLink k) s = .next (framed (endFigure r.entry 0 { s with net := { s.net with ringFigs := rest } }) s)) ∧
  (∀ (s : State) (k : Nat),
      alive s = true →
      ringLink s ≠ some k →
      exec (.ringCalLink k) s = .next (framed s s)) ∧
  (∀ (s : State) (k : Nat),
      alive s = true →
      (linkOf k s).state = .hold →
      exec (.holdEnd k) s = .next (framed (ringNext k (modLink k (fun l => { replayAll l with state := .up, stateAt := s.clk.ticks }) s)) s)) ∧
  (∀ (s : State) (k : Nat),
      alive s = true →
      (linkOf k s).state ≠ .hold →
      exec (.holdEnd k) s = .next (framed s s)) ∧
  (∀ (s : State) (e : Nat),
      alive s = true →
      (engineOf e s).calAge + rd Obj.RING_MAX_AGE s ≤ opSec s →
      (s.net.ringFigs.any fun r => r.urgent && r.engines.contains e) = false →
      ringBusy e s = false →
      e < 8 →
      exec (.ringMaxAgeExpire e) s = .next (framed (emit 0x3021 e e (bump Obj.URGENT_RING_CALS { s with net := { s.net with ringFigs := ⟨0, [e], 0, true⟩ :: s.net.ringFigs } })) s)) ∧
  (∀ (s : State) (w : Writer),
      alive s = true →
      accepts w 0x8005 13 1 s = true →
      s.tim.servo = .locked →
      (¬ (rd Obj.TIME_MODE s = 0 ∧ rd Obj.PTP_LINK s = selectorOf w.via 0x8005 s)) →
      linkLive (selectorOf w.via 0x8005 s) s = true →
      exec (.asymCal w) s = .next (framed (answerWith w 0 0 [] (modLink (selectorOf w.via 0x8005 s) (fun l => { l with asymCal := true, asymAt := s.clk.ticks }) s)) s)) ∧
  (∀ (s : State) (k : Nat) (b : Bool) (a : BitVec 32),
      alive s = true →
      (linkOf k s).asymCal = true →
      b = true →
      s.tim.servo = .locked →
      (linkOf k s).asymAt + 64000000000 ≤ s.clk.ticks →
      exec (.asymCalEnd k b a) s = .next (framed (saveDue [(Obj.ASYM_VALID k).key, (Obj.LINK_ASYM k).key] (wr (Obj.ASYM_VALID k) 1 (wr (Obj.LINK_ASYM k) a.toNat (modLink k (fun l => { l with asymCal := false }) s)))) s)) ∧
  (∀ (s : State) (k : Nat) (b : Bool) (a : BitVec 32),
      alive s = true →
      (linkOf k s).asymCal = true →
      b = true →
      s.tim.servo = .locked →
      s.clk.ticks < (linkOf k s).asymAt + 64000000000 →
      exec (.asymCalEnd k b a) s = .next s) ∧
  (∀ (s : State) (k : Nat) (b : Bool) (a : BitVec 32),
      alive s = true →
      (linkOf k s).asymCal = true →
      (b = false ∨ s.tim.servo ≠ .locked) →
      exec (.asymCalEnd k b a) s = .next (framed (asymFails k s) s))

/-- O57. A dictionary write is refused with its abort code, or acts by the class of its object: selector, write-only,
control, staged, needing Stopped, or at once. Rules: 13 R449, 13 R451, 13 R455, 13 R456, 13 R457, 13 R458, 13 R459, 13
R460, 13 R475, 13 R477. Model's choices: log entries 18, 23, 69, 70, 72, 126 -/
def Obligations.DictionaryWritesActByClass : Prop :=
  (∀ (s : State) (c : Instr) (w : Writer) (tag idx sub len v : Nat),
      writesObject c w tag idx sub len v →
      requestTaken w idx sub s = true →
      writeGate w idx sub len v s ≠ 0 →
      exec c s = .next (framedWrite idx sub (answerWith w tag (writeGate w idx sub len v s) [] (s)) s)) ∧
  (∀ (s : State) (c : Instr) (w : Writer) (tag idx sub len v : Nat) (r : ObjRow),
      writesObject c w tag idx sub len v →
      requestTaken w idx sub s = true →
      writeGate w idx sub len v s = 0 →
      findObj idx sub = .ok r →
      isSelector idx sub = true →
      exec c s = .next (framedWrite idx sub (answerWith w tag (0) [] (setSelector w.via idx v s)) s)) ∧
  (∀ (s : State) (c : Instr) (w : Writer) (tag idx sub len v : Nat) (r : ObjRow),
      writesObject c w tag idx sub len v →
      requestTaken w idx sub s = true →
      writeGate w idx sub len v s = 0 →
      findObj idx sub = .ok r →
      isSelector idx sub = false →
      r.access = .wo →
      exec c s = .next (framedWrite idx sub (answerWith w tag ((writeAction w idx sub v s).1) [] ((writeAction w idx sub v s).2)) s)) ∧
  (∀ (s : State) (c : Instr) (w : Writer) (tag idx sub len v : Nat) (r : ObjRow),
      writesObject c w tag idx sub len v →
      requestTaken w idx sub s = true →
      writeGate w idx sub len v s = 0 →
      findObj idx sub = .ok r →
      isSelector idx sub = false →
      r.access ≠ .wo →
      0x2000 ≤ idx →
      idx ≤ 0x2FFF →
      exec c s = .next (framedWrite idx sub (answerWith w tag ((writeControl w idx sub v s).1) [] ((writeControl w idx sub v s).2)) s)) ∧
  (∀ (s : State) (c : Instr) (w : Writer) (tag idx sub len v : Nat) (r : ObjRow),
      writesObject c w tag idx sub len v →
      requestTaken w idx sub s = true →
      writeGate w idx sub len v s = 0 →
      findObj idx sub = .ok r →
      isSelector idx sub = false →
      r.access ≠ .wo →
      (¬ (0x2000 ≤ idx ∧ idx ≤ 0x2FFF)) →
      (r.change = .commit ∨ nth false s.dict.stageMode (transportNum w.via) = true) →
      exec c s = .next (framedWrite idx sub (answerWith w tag ((stage w (keyOf idx sub (selOf w.via idx sub s)) v s).1) [] ((stage w (keyOf idx sub (selOf w.via idx sub s)) v s).2)) s)) ∧
  (∀ (s : State) (c : Instr) (w : Writer) (tag idx sub len v : Nat) (r : ObjRow) (f : Nat),
      writesObject c w tag idx sub len v →
      requestTaken w idx sub s = true →
      writeGate w idx sub len v s = 0 →
      findObj idx sub = .ok r →
      isSelector idx sub = false →
      r.access ≠ .wo →
      (¬ (0x2000 ≤ idx ∧ idx ≤ 0x2FFF)) →
      r.change ≠ .commit →
      nth false s.dict.stageMode (transportNum w.via) = false →
      r.change = .stopped →
      ownerFn idx = some f →
      f ≠ 15 →
      runOf f s ≠ .stopped →
      exec c s = .next (framedWrite idx sub (answerWith w tag (0x03000001) [] (s)) s)) ∧
  (∀ (s : State) (c : Instr) (w : Writer) (tag idx sub len v : Nat) (r : ObjRow),
      writesObject c w tag idx sub len v →
      requestTaken w idx sub s = true →
      writeGate w idx sub len v s = 0 →
      findObj idx sub = .ok r →
      isSelector idx sub = false →
      r.access ≠ .wo →
      (¬ (0x2000 ≤ idx ∧ idx ≤ 0x2FFF)) →
      r.change ≠ .commit →
      nth false s.dict.stageMode (transportNum w.via) = false →
      (r.change ≠ .stopped ∨ ownerFn idx = none ∨ (∃ f, ownerFn idx = some f ∧ (f = 15 ∨ runOf f s = .stopped))) →
      exec c s = .next (framedWrite idx sub (answerWith w tag ((applyValue (keyOf idx sub (selOf w.via idx sub s)) v s).1) [] ((applyValue (keyOf idx sub (selOf w.via idx sub s)) v s).2)) s))

/-- O58. READ, SELECT_READ, READ_SEGMENT and the drop of a Cavo response answer with the object's bytes or an abort code.
Rules: 13 R447, 13 R448, 13 R450, 13 R473, 13 R475, 13 R476, 13 R477, 14 R499, 19 R604. Model's choices: log entries 69,
70, 71, 80, 126 -/
def Obligations.DictionaryReadsAnswer : Prop :=
  (∀ (s : State) (w : Writer) (a : BitVec 16) (b d : BitVec 24),
      requestTaken w (dictIndex (dictHeader a b d)) (dictSub (dictHeader a b d)) s = true →
      headerCheck 1 (dictHeader a b d) 0 = 0 →
      firmwareDown s = true →
      exec (.dictRead w a b d) s = .next (framed (answerAs w 1 (dictTag (dictHeader a b d)) 0x05000003 [] s) s)) ∧
  (∀ (s : State) (w : Writer) (a : BitVec 16) (b d : BitVec 24) (e : Nat),
      requestTaken w (dictIndex (dictHeader a b d)) (dictSub (dictHeader a b d)) s = true →
      headerCheck 1 (dictHeader a b d) 0 = 0 →
      firmwareDown s = false →
      findObj (dictIndex (dictHeader a b d)) (dictSub (dictHeader a b d)) = .error e →
      exec (.dictRead w a b d) s = .next (framed (answerAs w 1 (dictTag (dictHeader a b d)) e (if isBar w then List.replicate 8 0xFF#8 else []) s) s)) ∧
  (∀ (s : State) (w : Writer) (a : BitVec 16) (b d : BitVec 24) (r : ObjRow),
      requestTaken w (dictIndex (dictHeader a b d)) (dictSub (dictHeader a b d)) s = true →
      headerCheck 1 (dictHeader a b d) 0 = 0 →
      firmwareDown s = false →
      findObj (dictIndex (dictHeader a b d)) (dictSub (dictHeader a b d)) = .ok r →
      isBar w = true →
      r.size = 0 →
      dictIndex (dictHeader a b d) ≠ 0x1000 →
      exec (.dictRead w a b d) s = .next (framed (answerAs w 1 (dictTag (dictHeader a b d)) 0x01000001 (List.replicate 8 0xFF#8) s) s)) ∧
  (∀ (s : State) (w : Writer) (a : BitVec 16) (b d : BitVec 24) (r : ObjRow),
      requestTaken w (dictIndex (dictHeader a b d)) (dictSub (dictHeader a b d)) s = true →
      headerCheck 1 (dictHeader a b d) 0 = 0 →
      firmwareDown s = false →
      findObj (dictIndex (dictHeader a b d)) (dictSub (dictHeader a b d)) = .ok r →
      (isBar w = false ∨ r.size ≠ 0 ∨ dictIndex (dictHeader a b d) = 0x1000) →
      r.access = .wo →
      exec (.dictRead w a b d) s = .next (framed (answerAs w 1 (dictTag (dictHeader a b d)) 0x01000004 [] s) s)) ∧
  (∀ (s : State) (w : Writer) (a : BitVec 16) (b d : BitVec 24) (r : ObjRow),
      requestTaken w (dictIndex (dictHeader a b d)) (dictSub (dictHeader a b d)) s = true →
      headerCheck 1 (dictHeader a b d) 0 = 0 →
      firmwareDown s = false →
      findObj (dictIndex (dictHeader a b d)) (dictSub (dictHeader a b d)) = .ok r →
      (isBar w = false ∨ r.size ≠ 0 ∨ dictIndex (dictHeader a b d) = 0x1000) →
      r.access ≠ .wo →
      exec (.dictRead w a b d) s = .next (framed (answerAs w 1 (dictTag (dictHeader a b d)) 0 (if r.size = 0 then ((readBytes w.via r (dictIndex (dictHeader a b d)) (dictSub (dictHeader a b d)) s).1.drop 0).take 240 else (readBytes w.via r (dictIndex (dictHeader a b d)) (dictSub (dictHeader a b d)) s).1)
        (readBytes w.via r (dictIndex (dictHeader a b d)) (dictSub (dictHeader a b d)) s).2) s)) ∧
  (∀ (s : State) (w : Writer) (a : BitVec 16) (b d : BitVec 24) (v : List Byte),
      requestTaken w (dictIndex (dictHeader a b d)) (dictSub (dictHeader a b d)) s = true →
      requestTaken w (dictIndex (dictHeader a b d)) 1 s = true →
      headerCheck 3 (dictHeader a b d) v.length = 0 →
      (writeObject w (dictIndex (dictHeader a b d)) 1 v.length (ofLeBytes v) s).1 = 0 →
      exec (.selectRead w a b d v) s = .next (framedWrite (dictIndex (dictHeader a b d)) 1 (readRequest w 3 (dictTag (dictHeader a b d)) (dictIndex (dictHeader a b d)) (dictSub (dictHeader a b d)) 0 (writeObject w (dictIndex (dictHeader a b d)) 1 v.length (ofLeBytes v) s).2) s)) ∧
  (∀ (s : State) (w : Writer) (a : BitVec 16) (b d : BitVec 24) (v : List Byte),
      requestTaken w (dictIndex (dictHeader a b d)) (dictSub (dictHeader a b d)) s = true →
      requestTaken w (dictIndex (dictHeader a b d)) 1 s = true →
      headerCheck 3 (dictHeader a b d) v.length = 0 →
      (writeObject w (dictIndex (dictHeader a b d)) 1 v.length (ofLeBytes v) s).1 ≠ 0 →
      exec (.selectRead w a b d v) s = .next (framedWrite (dictIndex (dictHeader a b d)) 1 (answerAs w 3 (dictTag (dictHeader a b d)) (writeObject w (dictIndex (dictHeader a b d)) 1 v.length (ofLeBytes v) s).1 [] (writeObject w (dictIndex (dictHeader a b d)) 1 v.length (ofLeBytes v) s).2) s)) ∧
  (∀ (s : State) (w : Writer) (a : BitVec 16) (b d : BitVec 24) (v : List Byte),
      requestTaken w (dictIndex (dictHeader a b d)) (dictSub (dictHeader a b d)) s = true →
      headerCheck 4 (dictHeader a b d) v.length = 0 →
      (v.length ≠ 4 ∨ isDomain (dictIndex (dictHeader a b d)) (dictSub (dictHeader a b d)) = false) →
      exec (.readSegment w a b d v) s = .next (framed (answerAs w 4 (dictTag (dictHeader a b d)) 0x01000005 [] s) s)) ∧
  (∀ (s : State) (w : Writer) (a : BitVec 16) (b d : BitVec 24) (v : List Byte),
      requestTaken w (dictIndex (dictHeader a b d)) (dictSub (dictHeader a b d)) s = true →
      headerCheck 4 (dictHeader a b d) v.length = 0 →
      v.length = 4 →
      isDomain (dictIndex (dictHeader a b d)) (dictSub (dictHeader a b d)) = true →
      exec (.readSegment w a b d v) s = .next (framed (readRequest w 4 (dictTag (dictHeader a b d)) (dictIndex (dictHeader a b d)) (dictSub (dictHeader a b d)) (ofLeBytes v) s) s)) ∧
  (∀ (s : State) (w : Writer) (a : BitVec 16) (b d : BitVec 24),
      requestTaken w (dictIndex (dictHeader a b d)) (dictSub (dictHeader a b d)) s = true →
      headerCheck 1 (dictHeader a b d) 0 ≠ 0 →
      exec (.dictRead w a b d) s = .next (framed (answerAs w (dictCommand (dictHeader a b d)) (dictTag (dictHeader a b d)) (headerCheck 1 (dictHeader a b d) 0) [] s) s)) ∧
  (∀ (s : State) (w : Writer) (a : BitVec 16) (b d : BitVec 24) (v : List Byte),
      requestTaken w (dictIndex (dictHeader a b d)) (dictSub (dictHeader a b d)) s = true →
      headerCheck 2 (dictHeader a b d) v.length ≠ 0 →
      exec (.dictWrite w a b d v) s = .next (framedWrite (dictIndex (dictHeader a b d)) (dictSub (dictHeader a b d)) (answerAs w (dictCommand (dictHeader a b d)) (dictTag (dictHeader a b d)) (headerCheck 2 (dictHeader a b d) v.length) [] s) s)) ∧
  (∀ (s : State) (w : Writer) (a : BitVec 16) (b d : BitVec 24) (v : List Byte),
      requestTaken w (dictIndex (dictHeader a b d)) (dictSub (dictHeader a b d)) s = true →
      requestTaken w (dictIndex (dictHeader a b d)) 1 s = true →
      headerCheck 3 (dictHeader a b d) v.length ≠ 0 →
      exec (.selectRead w a b d v) s = .next (framedWrite (dictIndex (dictHeader a b d)) 1 (answerAs w (dictCommand (dictHeader a b d)) (dictTag (dictHeader a b d)) (headerCheck 3 (dictHeader a b d) v.length) [] s) s)) ∧
  (∀ (s : State) (w : Writer) (a : BitVec 16) (b d : BitVec 24) (v : List Byte),
      requestTaken w (dictIndex (dictHeader a b d)) (dictSub (dictHeader a b d)) s = true →
      headerCheck 4 (dictHeader a b d) v.length ≠ 0 →
      exec (.readSegment w a b d v) s = .next (framed (answerAs w (dictCommand (dictHeader a b d)) (dictTag (dictHeader a b d)) (headerCheck 4 (dictHeader a b d) v.length) [] s) s)) ∧
  (∀ (s : State) (p : Flit × Nat),
      alive s = true →
      lateResponse s = some p →
      exec (.dictResponseDrop) s = .next (framed (dropResponse p.1 s) s)) ∧
  (∀ (s : State),
      alive s = true →
      lateResponse s = none →
      exec (.dictResponseDrop) s = .next (framed s s))

/-- O59. A commit starts, arms, disarms, discards or validates by COMMIT_CONTROL, and goes on at its time, its boundaries
and its timeout. Rules: 13 R453, 13 R460, 13 R461, 13 R462, 13 R463, 13 R467, 13 R468, 02 R45. Model's choices: log
entries 59, 60, 94, 95 -/
def Obligations.CommitsStartArmAndEnd : Prop :=
  (∀ (s t : State) (w : Writer),
      alive s = true →
      accepts w 0x2010 3 1 s = true →
      commitBusy s = false →
      commitOwner w s = true →
      t = touchStaging w s →
      t.trn.phase = none →
      setLegal (rd Obj.COMMIT_SET t) = true →
      ((rd Obj.COMMIT_TIME t) = 0 ∨ now t ≤ (rd Obj.COMMIT_TIME t)) →
      ((rd Obj.COMMIT_TIME t) = 0 ∨ bitOf (rd Obj.COMMIT_SET t) 5 = false ∨ ((nextB (rd Obj.COMMIT_SET t) t = beatB t ∨ onMeasure (commitGrid (rd Obj.COMMIT_SET t) t) (rd Obj.COMMIT_TIME t) = true) ∧ onMeasure (beatB t) (rd Obj.COMMIT_TIME t) = true)) →
      exec (.commitStart w) s = .next (framed (answerWith w 0 0 [] (beginAtTime { t with dict := { t.dict with commit := some { Commit.init with
          phase := .waitTime, fset := BitVec.ofNat 16 (rd Obj.COMMIT_SET t), time := BitVec.ofNat 64 (rd Obj.COMMIT_TIME t),
          applyAt := if bitOf (rd Obj.COMMIT_SET t) 5 = true ∧ (rd Obj.COMMIT_TIME t) ≠ 0 then some (rd Obj.COMMIT_TIME t) else none } } })) s)) ∧
  (∀ (s t : State) (w : Writer),
      alive s = true →
      accepts w 0x2010 3 2 s = true →
      commitBusy s = false →
      commitOwner w s = true →
      t = touchStaging w s →
      setLegal (rd Obj.COMMIT_SET t) = true →
      exec (.arm w) s = .next (framed (answerWith w 0 0 [] ({ t with dict := { t.dict with commit := some { Commit.init with fset := BitVec.ofNat 16 (rd Obj.COMMIT_SET t) } } })) s)) ∧
  (∀ (s t : State) (w : Writer),
      alive s = true →
      accepts w 0x2010 3 3 s = true →
      commitBusy s = false →
      commitOwner w s = true →
      t = touchStaging w s →
      exec (.disarm w) s = .next (framed (answerWith w 0 0 [] ({ t with dict := { t.dict with commit := none } })) s)) ∧
  (∀ (s t : State) (w : Writer),
      alive s = true →
      accepts w 0x2010 3 4 s = true →
      commitBusy s = false →
      commitOwner w s = true →
      t = touchStaging w s →
      exec (.discard w) s = .next (framed (answerWith w 0 0 [] (unstage (fun x => inSet (rd Obj.COMMIT_SET t) x.key) t)) s)) ∧
  (∀ (s : State) (w : Writer),
      alive s = true →
      accepts w 0x2010 3 4 s = true →
      commitOwner w s = false →
      w.via = .i3c →
      exec (.discard w) s = .next (framed (answerWith w 0 0 [] (releaseStaging s)) s)) ∧
  (∀ (s t : State) (w : Writer),
      alive s = true →
      accepts w 0x2010 3 5 s = true →
      commitBusy s = false →
      commitOwner w s = true →
      t = touchStaging w s →
      setLegal (rd Obj.COMMIT_SET t) = true →
      (validated (stagedIn (rd Obj.COMMIT_SET t) t) t).1 = none →
      exec (.validateOnly w) s = .next (framed (answerWith w 0 0 [] (wr Obj.COMMIT_RESULT 0 t)) s)) ∧
  (∀ (s t : State) (w : Writer) (e a : Nat),
      alive s = true →
      accepts w 0x2010 3 5 s = true →
      commitBusy s = false →
      commitOwner w s = true →
      t = touchStaging w s →
      setLegal (rd Obj.COMMIT_SET t) = true →
      (validated (stagedIn (rd Obj.COMMIT_SET t) t) t).1 = some (e, a) →
      exec (.validateOnly w) s = .next (framed (answerWith w 0 0 [] (wr Obj.COMMIT_RESULT e (wr Obj.COMMIT_FAILED_AT a t))) s)) ∧
  (∀ (s : State) (w : Writer),
      alive s = true →
      accepts w 0x2010 3 1 s = true →
      commitBusy s = false →
      commitOwner w s = false →
      exec (.commitStart w) s = .next (framed (answerWith w 0 0x04000003 [] s) s)) ∧
  (∀ (s : State) (w : Writer),
      alive s = true →
      accepts w 0x2010 3 2 s = true →
      commitBusy s = false →
      commitOwner w s = false →
      exec (.arm w) s = .next (framed (answerWith w 0 0x04000003 [] s) s)) ∧
  (∀ (s : State) (w : Writer),
      alive s = true →
      accepts w 0x2010 3 3 s = true →
      commitBusy s = false →
      commitOwner w s = false →
      exec (.disarm w) s = .next (framed (answerWith w 0 0x04000003 [] s) s)) ∧
  (∀ (s : State) (w : Writer),
      alive s = true →
      accepts w 0x2010 3 5 s = true →
      commitBusy s = false →
      commitOwner w s = false →
      exec (.validateOnly w) s = .next (framed (answerWith w 0 0x04000003 [] s) s)) ∧
  (∀ (s : State) (c : Commit),
      alive s = true →
      s.dict.commit = some c →
      c.phase = .waitTime →
      commitBegin c s ≤ now s →
      exec (.commitTimeReached) s = .next (framed (stopForCommit s) s)) ∧
  (∀ (s t : State) (c : Commit),
      alive s = true →
      s.dict.commit = some c →
      c.phase = .stopping →
      t = forEach ([0, 1, 2, 3, 4, 6].filter fun f => bitOf c.fset.toNat f) (fun f u => onlyIf (runOf f u == .stopping && atSafe f u) (setRun f .stopped) u) s →
      commitSafe c.fset.toNat t = true →
      exec .commitSafeBoundary s = .next (framed (validateCommit c t) s)) ∧
  (∀ (s : State) (c : Commit),
      alive s = true →
      s.dict.commit = some c →
      c.phase = .stopping →
      c.figure = none →
      (c.deadline ≤ s.clk.ticks ∨ (c.applyAt.any fun t => decide (t < now s)) = true) →
      exec (.commitTimeoutExpire) s = .next (framed (failCommit 0x04000006 0 s) s)) ∧
  (∀ (s : State),
      alive s = true →
      s.dict.owner.isSome = true →
      s.dict.idleAt + rd Obj.STAGE_IDLE s ≤ opSec s →
      exec .stageIdleExpire s = .next (framed (releaseStaging s) s))

/-- O60. RUN_CONTROL stops and starts the functions, a Stopping function ends at its safe boundary, and the saved image is
written or voided. Rules: 13 R452, 13 R454, 13 R457, 13 R469, 13 R470, 13 R471, 18 R585. Model's choices: log entries
52, 69, 78, 100 -/
def Obligations.FunctionsStopAndStartAndSave : Prop :=
  (∀ (s : State) (w : Writer) (f : Nat),
      alive s = true →
      accepts w 0x2001 (f + 1) 1 s = true →
      (2 < f ∨ inSitout s = false) →
      s.boot.ready = true →
      commitHolds f s = false →
      f ≠ 5 →
      running f s = false →
      exec (.runControlStart w f) s = .next (framed (answerWith w 0 0 [] (startFn f s)) s)) ∧
  (∀ (s : State) (w : Writer) (f : Nat),
      alive s = true →
      accepts w 0x2001 (f + 1) 1 s = true →
      (2 < f ∨ inSitout s = false) →
      s.boot.ready = true →
      commitHolds f s = false →
      f ≠ 5 →
      f ≠ 6 →
      running f s = true →
      exec (.runControlStart w f) s = .next (framed (answerWith w 0 0 [] (s)) s)) ∧
  (∀ (s : State) (w : Writer) (f : Nat),
      alive s = true →
      accepts w 0x2001 (f + 1) 1 s = true →
      (2 < f ∨ inSitout s = false) →
      s.boot.ready = true →
      commitHolds f s = false →
      f = 5 →
      exec (.runControlStart w f) s = .next (framed (answerWith w 0 0x03000004 [] (s)) s)) ∧
  (∀ (s : State) (w : Writer) (f : Nat),
      alive s = true →
      accepts w 0x2001 (f + 1) 1 s = true →
      (2 < f ∨ inSitout s = false) →
      s.boot.ready = true →
      commitHolds f s = false →
      f = 6 →
      running 6 s = true →
      exec (.runControlStart w f) s = .next (framed (answerWith w 0 0x03000004 [] (s)) s)) ∧
  (∀ (s : State) (w : Writer) (f : Nat),
      alive s = true →
      accepts w 0x2001 (f + 1) 2 s = true →
      (2 < f ∨ inSitout s = false) →
      s.boot.ready = true →
      commitHolds f s = false →
      f ≠ 5 →
      f ≠ 6 →
      exec (.runControlStop w f) s = .next (framed (answerWith w 0 0 [] (stopFn f s)) s)) ∧
  (∀ (s : State) (w : Writer) (f : Nat),
      alive s = true →
      accepts w 0x2001 (f + 1) 2 s = true →
      (2 < f ∨ inSitout s = false) →
      s.boot.ready = true →
      commitHolds f s = false →
      f = 6 →
      exec (.runControlStop w f) s = .next (framed (answerWith w 0 0x03000004 [] (s)) s)) ∧
  (∀ (s : State) (w : Writer) (f : Nat),
      alive s = true →
      accepts w 0x2001 (f + 1) 2 s = true →
      (2 < f ∨ inSitout s = false) →
      s.boot.ready = true →
      commitHolds f s = false →
      f = 5 →
      s.cal.firing = true →
      exec (.runControlStop w f) s = .next (framed (answerWith w 0 0 [] (setRun 5 .stopping { s with cal := { s.cal with stopDue := some (s.cal.stopDue.getD .runControl) } })) s)) ∧
  (∀ (s : State) (w : Writer) (f : Nat),
      alive s = true →
      accepts w 0x2001 (f + 1) 2 s = true →
      (2 < f ∨ inSitout s = false) →
      s.boot.ready = true →
      commitHolds f s = false →
      f = 5 →
      s.cal.firing = false →
      exec (.runControlStop w f) s = .next (framed (answerWith w 0 0 [] (s)) s)) ∧
  (∀ (s : State) (f : Nat),
      alive s = true →
      f ≠ 5 →
      runOf f s = .stopping →
      atSafe f s = true →
      exec (.functionSafeBoundary f) s = .next (framed (setRun f .stopped s) s)) ∧
  (∀ (s : State) (w : Writer),
      alive s = true →
      accepts w 0x2020 1 1 s = true →
      exec (.saveNow w true) s = .next (framed (answerWith w 0 0 []
        (bump Obj.FLASH_WRITES (wr Obj.SAVE_STATE 0 { s with
          flash := { s.flash with image := some (imageNow s), voided := false }, boot := { s.boot with saveDirty := false } }))) s)) ∧
  (∀ (s : State) (w : Writer),
      alive s = true →
      accepts w 0x2020 1 1 s = true →
      exec (.saveNow w false) s = .next (framed (answerWith w 0 0 [] (emit 0x9304 0 3 (wr Obj.SAVE_STATE 3 s))) s)) ∧
  (∀ (s : State) (w : Writer),
      alive s = true →
      accepts w 0x2020 1 2 s = true →
      exec (.saveVoid w) s = .next (framed (answerWith w 0 0 [] { s with flash := { s.flash with voided := true } }) s)) ∧
  (∀ (s : State) (ok : Bool),
      alive s = true →
      s.boot.saveDirty = true →
      (s.rcd.flush.any fun f => f.powerFail) = false →
      exec (.savedImageWrite ok) s = .next (framed (writeImage ok s) s))
end

