-- ==== Sys2Proof/Laws/Sparse.lean ====
section
/-! SUPPORT. The laws of sparse maps: read after write, and the canonical form every write keeps. -/

set_option Elab.async false

namespace Sys2Proof.Machine

variable {V : Type}

theorem spGet_of_above (d : V) (k b : Nat) (m : List (Nat × V)) (h : spAbove b m = true) (hk : k ≤ b) : spGet d m k = d := by
  cases m with
  | nil => rfl
  | cons p m =>
    simp [spAbove] at h
    have h1 : k < p.1 := by omega
    have h2 : k ≠ p.1 := by omega
    simp [spGet, h1, h2]

theorem spAbove_mono (a b : Nat) (m : List (Nat × V)) (hab : a ≤ b) (h : spAbove b m = true) : spAbove a m = true := by
  simp only [spAbove, List.all_eq_true, decide_eq_true_eq] at *
  intro p hp; have := h p hp; omega

theorem spGet_insert_self (d : V) (k : Nat) (v : V) (m : List (Nat × V)) : spGet d (spInsert k v m) k = v := by
  induction m with
  | nil => simp [spInsert, spGet]
  | cons p m ih =>
    obtain ⟨j, w⟩ := p
    simp only [spInsert]
    split
    · simp [spGet]
    · split
      · simp [spGet]
      · rename_i h1 h2; simp [spGet, h2, h1, ih]

theorem spGet_insert_ne (d : V) (k l : Nat) (v : V) (m : List (Nat × V)) (h : l ≠ k) :
    spGet d (spInsert k v m) l = spGet d m l := by
  induction m with
  | nil => simp only [spInsert, spGet]; split <;> simp_all
  | cons p m ih =>
    obtain ⟨j, w⟩ := p
    simp only [spInsert]
    split
    · simp only [spGet, h, if_false]
      split
      · rw [if_neg (by omega), if_pos (by omega)]
      · rfl
    · split
      · rename_i h1 h2; subst h2
        simp only [spGet, h, if_false]
      · simp only [spGet, ih]

theorem spGet_erase_self (d : V) (k : Nat) (m : List (Nat × V)) (hs : spSorted m = true) : spGet d (spErase k m) k = d := by
  induction m with
  | nil => rfl
  | cons p m ih =>
    obtain ⟨j, w⟩ := p
    simp only [spSorted, Bool.and_eq_true] at hs
    simp only [spErase]
    split
    · rename_i h; simp only [spGet]; rw [if_neg (by omega), if_pos h]
    · split
      · rename_i h1 h2; subst h2; exact spGet_of_above d k k m hs.1 (Nat.le_refl _)
      · rename_i h1 h2; simp only [spGet, h2, h1, if_false]; exact ih hs.2

theorem spGet_erase_ne (d : V) (k l : Nat) (m : List (Nat × V)) (hs : spSorted m = true) (h : l ≠ k) :
    spGet d (spErase k m) l = spGet d m l := by
  induction m with
  | nil => rfl
  | cons p m ih =>
    obtain ⟨j, w⟩ := p
    simp only [spSorted, Bool.and_eq_true] at hs
    simp only [spErase]
    split
    · rfl
    · split
      · rename_i h1 h2; subst h2
        simp only [spGet, h, if_false]
        split
        · rename_i h3; exact spGet_of_above d l k m hs.1 (by omega)
        · rfl
      · simp only [spGet, ih hs.2]

theorem spInsert_above (b k : Nat) (v : V) (m : List (Nat × V)) (hk : b < k) (h : spAbove b m = true) :
    spAbove b (spInsert k v m) = true := by
  induction m with
  | nil => simp [spInsert, spAbove, hk]
  | cons p m ih =>
    obtain ⟨j, w⟩ := p
    simp only [spAbove, List.all_cons, Bool.and_eq_true, decide_eq_true_eq] at h ih
    simp only [spInsert]
    split
    · simp [spAbove, hk, h.1]; simpa using h.2
    · split
      · simp [spAbove, hk]; simpa using h.2
      · simp only [spAbove, List.all_cons, Bool.and_eq_true, decide_eq_true_eq]
        exact ⟨h.1, ih h.2⟩

theorem spInsert_sorted (k : Nat) (v : V) (m : List (Nat × V)) (hs : spSorted m = true) : spSorted (spInsert k v m) = true := by
  induction m with
  | nil => simp [spInsert, spSorted, spAbove]
  | cons p m ih =>
    obtain ⟨j, w⟩ := p
    simp only [spSorted, Bool.and_eq_true] at hs
    simp only [spInsert]
    split
    · rename_i h
      simp only [spSorted, Bool.and_eq_true]
      refine ⟨?_, hs⟩
      have := spAbove_mono k j m (by omega) hs.1
      simp only [spAbove, List.all_cons, Bool.and_eq_true, decide_eq_true_eq] at *
      exact ⟨h, this⟩
    · split
      · rename_i h1 h2; subst h2; simp only [spSorted, Bool.and_eq_true]; exact hs
      · rename_i h1 h2
        simp only [spSorted, Bool.and_eq_true]
        exact ⟨spInsert_above j k v m (by omega) hs.1, ih hs.2⟩

theorem spErase_above (b k : Nat) (m : List (Nat × V)) (h : spAbove b m = true) : spAbove b (spErase k m) = true := by
  induction m with
  | nil => rfl
  | cons p m ih =>
    obtain ⟨j, w⟩ := p
    simp only [spErase]
    split
    · exact h
    · simp only [spAbove, List.all_cons, Bool.and_eq_true] at h ih
      split
      · exact h.2
      · simp only [spAbove, List.all_cons, Bool.and_eq_true]; exact ⟨h.1, ih h.2⟩

theorem spErase_sorted (k : Nat) (m : List (Nat × V)) (hs : spSorted m = true) : spSorted (spErase k m) = true := by
  induction m with
  | nil => rfl
  | cons p m ih =>
    obtain ⟨j, w⟩ := p
    have hs' := hs
    simp only [spSorted, Bool.and_eq_true] at hs
    simp only [spErase]
    split
    · exact hs'
    · split
      · exact hs.2
      · simp only [spSorted, Bool.and_eq_true]; exact ⟨spErase_above j k m hs.1, ih hs.2⟩

theorem spErase_all (q : Nat × V → Bool) (k : Nat) (m : List (Nat × V)) (h : m.all q = true) : (spErase k m).all q = true := by
  induction m with
  | nil => rfl
  | cons p m ih =>
    obtain ⟨j, w⟩ := p
    simp only [spErase]
    split
    · exact h
    · simp only [List.all_cons, Bool.and_eq_true] at h ih
      split
      · exact h.2
      · simp only [List.all_cons, Bool.and_eq_true]; exact ⟨h.1, ih h.2⟩

theorem spInsert_all (q : Nat × V → Bool) (k : Nat) (v : V) (m : List (Nat × V)) (hq : q (k, v) = true) (h : m.all q = true) :
    (spInsert k v m).all q = true := by
  induction m with
  | nil => simp [spInsert, hq]
  | cons p m ih =>
    obtain ⟨j, w⟩ := p
    simp only [List.all_cons, Bool.and_eq_true] at h ih
    simp only [spInsert]
    split
    · simp only [List.all_cons, Bool.and_eq_true]; exact ⟨hq, h⟩
    · split
      · simp only [List.all_cons, Bool.and_eq_true]; exact ⟨hq, h.2⟩
      · simp only [List.all_cons, Bool.and_eq_true]; exact ⟨h.1, ih h.2⟩

variable [DecidableEq V]

/-- Read after write at the same key. -/
theorem spGet_set_self (d : V) (k : Nat) (v : V) (m : List (Nat × V)) (hs : spSorted m = true) : spGet d (spSet d k v m) k = v := by
  unfold spSet; split
  · rename_i h; rw [spGet_erase_self d k m hs, h]
  · exact spGet_insert_self d k v m

/-- Read after write at another key. -/
theorem spGet_set_ne (d e : V) (k l : Nat) (v : V) (m : List (Nat × V)) (hs : spSorted m = true) (h : l ≠ k) :
    spGet d (spSet e k v m) l = spGet d m l := by
  unfold spSet; split
  · exact spGet_erase_ne d k l m hs h
  · exact spGet_insert_ne d k l v m h

theorem spSet_sorted (d : V) (k : Nat) (v : V) (m : List (Nat × V)) (hs : spSorted m = true) : spSorted (spSet d k v m) = true := by
  unfold spSet; split
  · exact spErase_sorted k m hs
  · exact spInsert_sorted k v m hs

/-- A write keeps the canonical form. -/
theorem spSet_wf (d : V) (k : Nat) (v : V) (m : List (Nat × V)) (h : spWf d m = true) : spWf d (spSet d k v m) = true := by
  simp only [spWf, Bool.and_eq_true] at h ⊢
  refine ⟨spSet_sorted d k v m h.1, ?_⟩
  unfold spSet; split
  · exact spErase_all _ k m h.2
  · rename_i hv; exact spInsert_all _ k v m (by simp [hv]) h.2

theorem spWf_sorted (d : V) (m : List (Nat × V)) (h : spWf d m = true) : spSorted m = true := by
  simp only [spWf, Bool.and_eq_true] at h; exact h.1

end Sys2Proof.Machine
end

