-- ==== Sys2Proof/Laws/Frame.lean ====
section
/-! SUPPORT. What each frame and each write command does, said once: the lemmas proofs about commands cite instead of unfolding
them. -/

set_option Elab.async false

namespace Sys2Proof.Machine

open Sys2Proof

/-! ### Frames -/

theorem run_alive (f : State → State) (s : State) (h : alive s = true) : run f s = .next (framed (f s) s) := by
  simp [run, h, framed]

theorem run_dead (f : State → State) (s : State) (h : alive s = false) : run f s = .next s := by simp [run, h]

theorem runClk_alive (f : State → State) (s : State) (h : alive s = true) : runClk f s = .next (framedClk (f s) s) := by
  simp [runClk, h, framedClk]

theorem runClk_dead (f : State → State) (s : State) (h : alive s = false) : runClk f s = .next s := by simp [runClk, h]

theorem runFuse_alive (f : State → State) (s : State) (h : alive s = true) : runFuse f s = .next (framedFuse (f s) s) := by
  simp [runFuse, h, framedFuse]

theorem runFuse_dead (f : State → State) (s : State) (h : alive s = false) : runFuse f s = .next s := by simp [runFuse, h]

theorem runFw_alive (f : State → State) (s : State) (h : alive s = true) : runFw f s = .next (framed (f s) s) := by
  simp [runFw, h, framed]

theorem runFw_on (f : State → State) (s : State) (h : alive s = true ∨ s.pow.phase = .recovery) :
    runFw f s = .next (framed (f s) s) := by
  rcases h with h | h <;> simp [runFw, h, framed]

theorem runAny_eq (f : State → State) (s : State) : runAny f s = .next (framed (f s) s) := rfl

theorem runReset_eq (f : State → State) (s : State) : runReset f s = .next (framedReset (f s) s) := rfl

theorem runWrite_eq (idx sub : Nat) (f : State → State) (s : State) :
    runWrite idx sub f s = .next (framedWrite idx sub (f s) s) := rfl

@[simp] theorem framed_self (s : State) : framed s s = s := rfl
@[simp] theorem framedClk_self (s : State) : framedClk s s = s := rfl
@[simp] theorem framedFuse_self (s : State) : framedFuse s s = s := rfl
@[simp] theorem framed_pending (t s : State) : (framed t s).pending = s.pending := rfl
@[simp] theorem framed_clk (t s : State) : (framed t s).clk = s.clk := rfl
@[simp] theorem framed_fuse (t s : State) : (framed t s).fuse = s.fuse := rfl
@[simp] theorem framed_mem (t s : State) : (framed t s).mem = t.mem := rfl
@[simp] theorem framed_regs (t s : State) : (framed t s).regs = t.regs := rfl

/-! ### Counters -/

/-- A counter that rises leaves the memory tiers as they are. -/
@[simp] theorem bumpBy_mo (n : Nat) (r : RegId) (s : State) : (bumpBy n r s).mo = s.mo := by
  simp only [bumpBy]
  split
  · rfl
  · split <;> rfl

/-- The hold of a channel that ends loses no unit. -/
@[simp] theorem holdEnds_gone (u unit : Nat) (r : Retrain) (s : State) : unitGone unit (holdEnds u r s) = unitGone unit s := by
  have h : (holdEnds u r s).mo.lost = s.mo.lost := by simp only [holdEnds, bumpBy_mo]
  unfold unitGone lostReason
  rw [h]

/-! ### Write commands -/

/-- An accepted write is its rule's state, answered. -/
theorem command_accepted (w : Writer) (idx sub v : Nat) (f : State → Nat × State) (s : State)
    (h : accepts w idx sub v s = true) : command w idx sub v f s = answerWith w 0 (f s).1 [] (f s).2 := by
  simp only [accepts, Bool.and_eq_true, beq_iff_eq, bne_iff_ne, ne_eq] at h
  simp only [command, h.1.1, h.1.2, h.2, false_and, or_false, Bool.true_eq_false, if_false, if_true]

/-- A write its gate refuses changes nothing but the answer. -/
theorem command_refused (w : Writer) (idx sub v code : Nat) (f : State → Nat × State) (s : State)
    (h : refuses w idx sub v code s = true) : command w idx sub v f s = answerWith w 0 code [] s := by
  simp only [refuses, Bool.and_eq_true, beq_iff_eq, bne_iff_ne, ne_eq] at h
  obtain ⟨⟨⟨h1, h2⟩, h3⟩, h4⟩ := h
  simp only [command, h1, h2, h4, h3, false_and, or_false, Bool.true_eq_false, if_false]

/-- A request that is taken, with a header of its command, is carried out. -/
theorem request_taken (w : Writer) (cmd : Nat) (h : BitVec 64) (len : Nat) (taken : State → Bool) (f : State → State) (s : State)
    (ht : taken s = true) (hh : headerCheck cmd h len = 0) : request w cmd h len taken f s = f s := by
  simp [request, ht, hh]

/-- A request whose header is none of its command is answered with the code of the refusal. -/
theorem request_refused (w : Writer) (cmd : Nat) (h : BitVec 64) (len : Nat) (taken : State → Bool) (f : State → State) (s : State)
    (ht : taken s = true) (hh : headerCheck cmd h len ≠ 0) :
    request w cmd h len taken f s = answerAs w (dictCommand h) (dictTag h) (headerCheck cmd h len) [] s := by
  simp [request, ht, hh]

/-- A dictionary write that is taken is written by its object's rule and answered. -/
theorem exec_writes (c : Instr) (w : Writer) (tag idx sub len v : Nat) (s : State) (hc : writesObject c w tag idx sub len v)
    (h : requestTaken w idx sub s = true) : exec c s = .next (framedWrite idx sub
      (answerWith w tag (writeObject w idx sub len v s).1 [] (writeObject w idx sub len v s).2) s) := by
  rcases hc with ⟨a, b, d, hd, bs, rfl, rfl, hh, rfl, rfl, rfl, rfl, rfl⟩ | ⟨x, rfl, rfl, rfl, rfl⟩
  · simp only [exec, execDictWrite]
    rw [runWrite_eq, request_taken _ _ _ _ _ _ _ h hh]
  · simp only [exec, execObjectWrite]
    rw [runWrite_eq]
    simp only [h, Bool.true_eq_false, if_false]

/-- A delivered flit that a row names is taken by it. -/
theorem takeLocal_taken (k : Nat) (f : Flit) (p : Bool) (g : State → State) (s : State)
    (h : s.net.local_.contains (k, f) = true) (hp : p = true) : takeLocal k f p g s = g (taken k f s) := by
  simp only [takeLocal, h, hp, and_self, if_true]; rfl

/-- A flit that has not been delivered, or that another row names, is left where it is. -/
theorem takeLocal_not (k : Nat) (f : Flit) (p : Bool) (g : State → State) (s : State)
    (h : s.net.local_.contains (k, f) = false ∨ p = false) : takeLocal k f p g s = s := by
  rcases h with h | h
  · simp only [takeLocal, h, Bool.false_eq_true, false_and, if_false]
  · simp only [takeLocal, h, Bool.false_eq_true, and_false, if_false]

/-- A flit in a receive buffer that a row names is taken by it. -/
theorem takeRx_taken (k : Nat) (f : Flit) (g : State → State) (s : State) (h : (linkOf k s).rx.contains f = true) :
    takeRx k f g s = g (takenRx k f s) := by
  simp only [takeRx, h, if_true]; rfl

/-- An engine's access to lines the host does not hold proceeds. -/
theorem afterSnoops_clear (wr : Bool) (ranges : List (Nat × Nat)) (f : State → State) (s : State)
    (h : snoopLines wr ranges s = []) : afterSnoops wr ranges f s = f s := by simp only [afterSnoops, h]

/-- An engine's access to lines the host holds sends their snoops, and is not carried out. -/
theorem afterSnoops_held (wr : Bool) (ranges : List (Nat × Nat)) (f : State → State) (s : State)
    (h : snoopLines wr ranges s ≠ []) :
    afterSnoops wr ranges f s = forEach (snoopLines wr ranges s) (fun l => sendSnoop l none) s := by
  cases hl : snoopLines wr ranges s with
  | nil => exact absurd hl h
  | cons a l => simp only [afterSnoops, hl]

/-! ### Commands of the sequencer -/

/-- A legal command that a row names is carried out by it. -/
theorem issue_of_issues (c : Nat) (p : Nat → Bool) (f : Nat → State → State) (w : BitVec 256) (t s : State)
    (h : Issues c w t s) (hl : cmdOk w.toNat = true) (hp : p w.toNat = true) : issue c p f s = f w.toNat t := by
  obtain ⟨h1, h2, h3, h4, h5⟩ := h
  have h6 : ¬ (((coreOf c s).status ≠ 1 ∧ (coreOf c s).status ≠ 2) ∨ (coreOf c s).preempting = true) := by
    rw [h2]; rcases h1 with h | h <;> simp [h]
  have h7 : consumeClean (coreSector c ((coreOf c s).base + (coreOf c s).pc)) s = (some w, t) := by rw [← h4, h5]
  simp only [issue, if_neg h6, if_neg (Nat.not_le.mpr h3), h7, hl, hp, if_true, Bool.true_eq_false, if_false]

/-- A command no row may carry out aborts its task with code 0x2201. -/
theorem issue_illegal (c : Nat) (p : Nat → Bool) (f : Nat → State → State) (w : BitVec 256) (t s : State)
    (h : Issues c w t s) (hl : cmdOk w.toNat = false) : issue c p f s = faultTask c 0x2201 (coreOf c s).pc t := by
  obtain ⟨h1, h2, h3, h4, h5⟩ := h
  have h6 : ¬ (((coreOf c s).status ≠ 1 ∧ (coreOf c s).status ≠ 2) ∨ (coreOf c s).preempting = true) := by
    rw [h2]; rcases h1 with h | h <;> simp [h]
  have h7 : consumeClean (coreSector c ((coreOf c s).base + (coreOf c s).pc)) s = (some w, t) := by rw [← h4, h5]
  simp only [issue, if_neg h6, if_neg (Nat.not_le.mpr h3), h7, hl, if_true]

/-! ### Registers -/

/-- A register reads what was written to it, as far as its size goes. -/
theorem rd_wr (r : RegId) (v : Nat) (s : State) (hs : spSorted s.regs = true) (h64 : r.size ≤ 8) :
    rd r (wr r v s) = v % 2 ^ (8 * r.size) := by
  simp only [rd, wr, spGet_set_self _ _ _ _ hs, BitVec.toNat_ofNat]
  apply Nat.mod_eq_of_lt
  exact Nat.lt_of_lt_of_le (Nat.mod_lt _ (Nat.two_pow_pos _)) (Nat.pow_le_pow_right (by omega) (by omega))

/-- A register of another key reads as before. -/
theorem rd_wr_ne (r q : RegId) (v : Nat) (s : State) (hs : spSorted s.regs = true) (h : q.key ≠ r.key) :
    rd q (wr r v s) = rd q s := by
  simp only [rd, wr, spGet_set_ne _ _ _ _ _ _ hs h]

theorem wr_sorted (r : RegId) (v : Nat) (s : State) (hs : spSorted s.regs = true) : spSorted (wr r v s).regs = true :=
  spSet_sorted _ _ _ _ hs

end Sys2Proof.Machine
end

