-- ==== Sys2Proof/Laws/Memory.lean ====
section
/-! SUPPORT. What the memory operations do, said once: they touch the memory alone, they keep its canonical form, and a sector
stored reads as it was stored while every other one reads as before. -/

set_option Elab.async false

namespace Sys2Proof.Machine

open Sys2Proof

/-! ### They touch the memory alone -/

theorem wrSector_frame (n : Nat) (x : Sector) (s : State) : wrSector n x s = { s with mem := (wrSector n x s).mem } := rfl

theorem wrData_frame (n d : Nat) (s : State) : wrData n d s = { s with mem := (wrData n d s).mem } := by unfold wrData; rfl

theorem setTensor_frame (t : Nat) (e : DirEntry) (s : State) : setTensor t e s = { s with mem := (setTensor t e s).mem } := by
  unfold setTensor; exact wrData_frame _ _ _

theorem modTensor_frame (t : Nat) (f : DirEntry → DirEntry) (s : State) :
    modTensor t f s = { s with mem := (modTensor t f s).mem } := setTensor_frame t (f (tensorOf t s)) s

theorem takeRef_frame (t : Nat) (s : State) : takeRef t s = { s with mem := (takeRef t s).mem } := modTensor_frame t _ s

@[simp] theorem takeRef_sec (t : Nat) (s : State) : (takeRef t s).sec = s.sec := by rw [takeRef_frame]

theorem dropRef_frame (t : Nat) (s : State) : dropRef t s = { s with mem := (dropRef t s).mem } := modTensor_frame t _ s

/-- What every step of a list keeps, the whole list keeps. -/
theorem forEach_keeps {α β : Type} (g : State → β) (l : List α) (f : α → State → State) (h : ∀ a s, g (f a s) = g s)
    (s : State) : g (forEach l f s) = g s := by
  induction l generalizing s with
  | nil => rfl
  | cons a l ih => exact (ih (f a s)).trans (h a s)

/-- What holds of a state and is kept by every step of a list holds after the whole list. -/
theorem forEach_inv {α : Type} (P : State → Prop) (l : List α) (f : α → State → State) (h : ∀ a s, P s → P (f a s))
    (s : State) (hs : P s) : P (forEach l f s) := by
  induction l generalizing s with
  | nil => exact hs
  | cons a l ih => exact ih (f a s) (h a s hs)

/-! ### They keep the canonical form -/

theorem putBytes_wf (bs : List Byte) (k : Nat) (m : List Host.Cell) (h : spWf 0#8 m = true) : spWf 0#8 (putBytes k bs m) = true := by
  induction bs generalizing k m with
  | nil => exact h
  | cons b bs ih => exact ih _ _ (spSet_wf _ _ _ _ h)

theorem Memory.wf_init : Memory.wf Memory.init = true := rfl

theorem State.reset_mem_wf : Memory.wf State.reset.mem = true := rfl

theorem wrSector_wf (n : Nat) (x : Sector) (s : State) (h : s.mem.wf = true) : (wrSector n x s).mem.wf = true := by
  simp only [Memory.wf, Bool.and_eq_true] at *
  exact ⟨putBytes_wf _ _ _ h.1, putBytes_wf _ _ _ h.2⟩

theorem wrData_wf (n d : Nat) (s : State) (h : s.mem.wf = true) : (wrData n d s).mem.wf = true := wrSector_wf _ _ _ h

theorem wrMasked_wf (n x m : Nat) (s : State) (h : s.mem.wf = true) : (wrMasked n x m s).mem.wf = true := by
  unfold wrMasked
  split
  · exact wrData_wf _ _ _ h
  · split
    · exact wrData_wf _ _ _ h
    · exact h

theorem wrSectors_wf (xs : List Sector) (n : Nat) (s : State) (h : s.mem.wf = true) : (wrSectors n xs s).mem.wf = true := by
  induction xs generalizing n s with
  | nil => exact h
  | cons x xs ih => exact ih _ _ (wrSector_wf _ _ _ h)

theorem wrByte_wf (a : Nat) (b : Byte) (s : State) (h : s.mem.wf = true) : (wrByte a b s).mem.wf = true := wrMasked_wf _ _ _ _ h

theorem wrBytes_wf (bs : List Byte) (a : Nat) (s : State) (h : s.mem.wf = true) : (wrBytes a bs s).mem.wf = true := by
  induction bs generalizing a s with
  | nil => exact h
  | cons b bs ih => exact ih _ _ (wrByte_wf _ _ _ h)

theorem makeUndef_wf (a len : Nat) (s : State) (h : s.mem.wf = true) : (makeUndef a len s).mem.wf = true := by
  unfold makeUndef
  split
  · exact h
  · exact h

theorem setTensor_wf (t : Nat) (e : DirEntry) (s : State) (h : s.mem.wf = true) : (setTensor t e s).mem.wf = true :=
  wrData_wf _ _ _ h

theorem modTensor_wf (t : Nat) (f : DirEntry → DirEntry) (s : State) (h : s.mem.wf = true) : (modTensor t f s).mem.wf = true :=
  setTensor_wf _ _ _ h

end Sys2Proof.Machine
end

