-- ==== Sys2Proof/Laws/SectorCode.lean ====
section
/-! SUPPORT. Facts of the sector code that proofs use without decoding again. -/

set_option Elab.async false

namespace Sys2Proof.Machine

open Sys2Proof

set_option maxRecDepth 20000

/-- A sector with three wrong symbols that no two symbols explain: it is uncorrectable (06 R202). -/
theorem decodeSector_three : decodeSector ⟨0x030201#256, 0#32⟩ = .bad := by decide +kernel

/-- The sector of zeros is whole. -/
theorem decodeSector_zero : decodeSector ⟨0#256, 0#32⟩ = .ok 0#256 0 := by decide +kernel

end Sys2Proof.Machine
end

