-- ==== Sys2Proof/Laws/Servo.lean ====
section
/-! SUPPORT. What entering a state of the servo does, said once: outside LOCKED it writes SERVO_STATE alone; as LOCKED is left it
also ends the asymmetry calibrations. -/

set_option Elab.async false

namespace Sys2Proof.Machine

open Sys2Proof

/-- The end of the calibrations touches the links and the recorder alone. -/
theorem asymFails_frame (l : List Nat) (s : State) :
    forEach l asymFails s = { s with links := (forEach l asymFails s).links, rcd := (forEach l asymFails s).rcd } :=
  forEach_inv (fun t => t = { s with links := t.links, rcd := t.rcd }) l asymFails
    (fun k t h => by rw [h]; rfl) s rfl

/-- A servo that is not LOCKED enters a state: SERVO_STATE says it. -/
theorem setServo_free (v : Servo) (s : State) (h : s.tim.servo ≠ .locked) :
    setServo v s = wr Obj.SERVO_STATE (servoCode v) { s with tim := { s.tim with servo := v, good := 0 } } := by
  have h1 : (s.tim.servo == Servo.locked) = false := by simpa using h
  simp only [setServo, h1, Bool.false_and, onlyIf, Bool.false_eq_true, if_false]

/-- The state it enters stays LOCKED, or LOCKED is left with no calibration running: SERVO_STATE says it. -/
theorem setServo_calm (v : Servo) (s : State) (h : ∀ k < 64, (linkOf k s).asymCal = false) :
    setServo v s = wr Obj.SERVO_STATE (servoCode v) { s with tim := { s.tim with servo := v, good := 0 } } := by
  have h1 : ((List.range 64).filter fun k => (linkOf k s).asymCal) = [] := by
    simp only [List.filter_eq_nil_iff, List.mem_range]
    intro k hk; simp [h k hk]
  simp only [setServo, h1, forEach, List.foldl, onlyIf, ite_self]

/-- Entering any state touches the servo, SERVO_STATE, the links and the recorder alone. -/
theorem setServo_frame (v : Servo) (s : State) :
    setServo v s = { s with
      tim := { s.tim with servo := v, good := 0 }
      regs := (wr Obj.SERVO_STATE (servoCode v) s).regs
      links := (setServo v s).links
      rcd := (setServo v s).rcd } := by
  unfold setServo onlyIf
  split
  · rw [asymFails_frame]; rfl
  · rfl

@[simp] theorem setServo_clk (v : Servo) (s : State) : (setServo v s).clk = s.clk := by rw [setServo_frame]
@[simp] theorem setServo_offset (v : Servo) (s : State) : (setServo v s).tim.offset = s.tim.offset := by rw [setServo_frame]
@[simp] theorem setServo_cal (v : Servo) (s : State) : (setServo v s).cal = s.cal := by rw [setServo_frame]

end Sys2Proof.Machine
end

