-- ==== Sys2Proof/Laws/State.lean ====
section
/-! SUPPORT. What each update of the state leaves as it was, field by field, and what an item reads as after a change. -/

namespace Sys2Proof.Machine

open Sys2Proof

/-! ### wr -/

@[simp] theorem wr_pending (r : RegId) (v : Nat) (s : State) : (wr r v s).pending = s.pending := rfl
@[simp] theorem wr_clk (r : RegId) (v : Nat) (s : State) : (wr r v s).clk = s.clk := rfl
@[simp] theorem wr_fuse (r : RegId) (v : Nat) (s : State) : (wr r v s).fuse = s.fuse := rfl
@[simp] theorem wr_pins (r : RegId) (v : Nat) (s : State) : (wr r v s).pins = s.pins := rfl
@[simp] theorem wr_pow (r : RegId) (v : Nat) (s : State) : (wr r v s).pow = s.pow := rfl
@[simp] theorem wr_flash (r : RegId) (v : Nat) (s : State) : (wr r v s).flash = s.flash := rfl
@[simp] theorem wr_boot (r : RegId) (v : Nat) (s : State) : (wr r v s).boot = s.boot := rfl
@[simp] theorem wr_dict (r : RegId) (v : Nat) (s : State) : (wr r v s).dict = s.dict := rfl
@[simp] theorem wr_run (r : RegId) (v : Nat) (s : State) : (wr r v s).run = s.run := rfl
@[simp] theorem wr_tim (r : RegId) (v : Nat) (s : State) : (wr r v s).tim = s.tim := rfl
@[simp] theorem wr_cal (r : RegId) (v : Nat) (s : State) : (wr r v s).cal = s.cal := rfl
@[simp] theorem wr_mem (r : RegId) (v : Nat) (s : State) : (wr r v s).mem = s.mem := rfl
@[simp] theorem wr_mo (r : RegId) (v : Nat) (s : State) : (wr r v s).mo = s.mo := rfl
@[simp] theorem wr_jobs (r : RegId) (v : Nat) (s : State) : (wr r v s).jobs = s.jobs := rfl
@[simp] theorem wr_cores (r : RegId) (v : Nat) (s : State) : (wr r v s).cores = s.cores := rfl
@[simp] theorem wr_tasks (r : RegId) (v : Nat) (s : State) : (wr r v s).tasks = s.tasks := rfl
@[simp] theorem wr_host (r : RegId) (v : Nat) (s : State) : (wr r v s).host = s.host := rfl
@[simp] theorem wr_upd (r : RegId) (v : Nat) (s : State) : (wr r v s).upd = s.upd := rfl
@[simp] theorem wr_trn (r : RegId) (v : Nat) (s : State) : (wr r v s).trn = s.trn := rfl
@[simp] theorem wr_links (r : RegId) (v : Nat) (s : State) : (wr r v s).links = s.links := rfl
@[simp] theorem wr_net (r : RegId) (v : Nat) (s : State) : (wr r v s).net = s.net := rfl
@[simp] theorem wr_col (r : RegId) (v : Nat) (s : State) : (wr r v s).col = s.col := rfl
@[simp] theorem wr_flt (r : RegId) (v : Nat) (s : State) : (wr r v s).flt = s.flt := rfl
@[simp] theorem wr_rcd (r : RegId) (v : Nat) (s : State) : (wr r v s).rcd = s.rcd := rfl
@[simp] theorem wr_tel (r : RegId) (v : Nat) (s : State) : (wr r v s).tel = s.tel := rfl
@[simp] theorem wr_sec (r : RegId) (v : Nat) (s : State) : (wr r v s).sec = s.sec := rfl
@[simp] theorem wr_arb (r : RegId) (v : Nat) (s : State) : (wr r v s).arb = s.arb := rfl
@[simp] theorem wr_free (r : RegId) (v : Nat) (s : State) : (wr r v s).free = s.free := rfl

/-! ### emit -/

@[simp] theorem emit_pending (code source value : Nat) (s : State) : (emit code source value s).pending = s.pending := rfl
@[simp] theorem emit_clk (code source value : Nat) (s : State) : (emit code source value s).clk = s.clk := rfl
@[simp] theorem emit_fuse (code source value : Nat) (s : State) : (emit code source value s).fuse = s.fuse := rfl
@[simp] theorem emit_pins (code source value : Nat) (s : State) : (emit code source value s).pins = s.pins := rfl
@[simp] theorem emit_pow (code source value : Nat) (s : State) : (emit code source value s).pow = s.pow := rfl
@[simp] theorem emit_flash (code source value : Nat) (s : State) : (emit code source value s).flash = s.flash := rfl
@[simp] theorem emit_boot (code source value : Nat) (s : State) : (emit code source value s).boot = s.boot := rfl
@[simp] theorem emit_regs (code source value : Nat) (s : State) : (emit code source value s).regs = s.regs := rfl
@[simp] theorem emit_dict (code source value : Nat) (s : State) : (emit code source value s).dict = s.dict := rfl
@[simp] theorem emit_run (code source value : Nat) (s : State) : (emit code source value s).run = s.run := rfl
@[simp] theorem emit_tim (code source value : Nat) (s : State) : (emit code source value s).tim = s.tim := rfl
@[simp] theorem emit_cal (code source value : Nat) (s : State) : (emit code source value s).cal = s.cal := rfl
@[simp] theorem emit_mem (code source value : Nat) (s : State) : (emit code source value s).mem = s.mem := rfl
@[simp] theorem emit_mo (code source value : Nat) (s : State) : (emit code source value s).mo = s.mo := rfl
@[simp] theorem emit_jobs (code source value : Nat) (s : State) : (emit code source value s).jobs = s.jobs := rfl
@[simp] theorem emit_cores (code source value : Nat) (s : State) : (emit code source value s).cores = s.cores := rfl
@[simp] theorem emit_tasks (code source value : Nat) (s : State) : (emit code source value s).tasks = s.tasks := rfl
@[simp] theorem emit_host (code source value : Nat) (s : State) : (emit code source value s).host = s.host := rfl
@[simp] theorem emit_upd (code source value : Nat) (s : State) : (emit code source value s).upd = s.upd := rfl
@[simp] theorem emit_trn (code source value : Nat) (s : State) : (emit code source value s).trn = s.trn := rfl
@[simp] theorem emit_links (code source value : Nat) (s : State) : (emit code source value s).links = s.links := rfl
@[simp] theorem emit_net (code source value : Nat) (s : State) : (emit code source value s).net = s.net := rfl
@[simp] theorem emit_col (code source value : Nat) (s : State) : (emit code source value s).col = s.col := rfl
@[simp] theorem emit_flt (code source value : Nat) (s : State) : (emit code source value s).flt = s.flt := rfl
@[simp] theorem emit_tel (code source value : Nat) (s : State) : (emit code source value s).tel = s.tel := rfl
@[simp] theorem emit_sec (code source value : Nat) (s : State) : (emit code source value s).sec = s.sec := rfl
@[simp] theorem emit_arb (code source value : Nat) (s : State) : (emit code source value s).arb = s.arb := rfl
@[simp] theorem emit_free (code source value : Nat) (s : State) : (emit code source value s).free = s.free := rfl

/-! ### signal -/

@[simp] theorem signal_pending (v : Nat) (s : State) : (signal v s).pending = s.pending := rfl
@[simp] theorem signal_clk (v : Nat) (s : State) : (signal v s).clk = s.clk := rfl
@[simp] theorem signal_fuse (v : Nat) (s : State) : (signal v s).fuse = s.fuse := rfl
@[simp] theorem signal_pins (v : Nat) (s : State) : (signal v s).pins = s.pins := rfl
@[simp] theorem signal_pow (v : Nat) (s : State) : (signal v s).pow = s.pow := rfl
@[simp] theorem signal_flash (v : Nat) (s : State) : (signal v s).flash = s.flash := rfl
@[simp] theorem signal_boot (v : Nat) (s : State) : (signal v s).boot = s.boot := rfl
@[simp] theorem signal_regs (v : Nat) (s : State) : (signal v s).regs = s.regs := rfl
@[simp] theorem signal_dict (v : Nat) (s : State) : (signal v s).dict = s.dict := rfl
@[simp] theorem signal_run (v : Nat) (s : State) : (signal v s).run = s.run := rfl
@[simp] theorem signal_tim (v : Nat) (s : State) : (signal v s).tim = s.tim := rfl
@[simp] theorem signal_cal (v : Nat) (s : State) : (signal v s).cal = s.cal := rfl
@[simp] theorem signal_mem (v : Nat) (s : State) : (signal v s).mem = s.mem := rfl
@[simp] theorem signal_mo (v : Nat) (s : State) : (signal v s).mo = s.mo := rfl
@[simp] theorem signal_jobs (v : Nat) (s : State) : (signal v s).jobs = s.jobs := rfl
@[simp] theorem signal_cores (v : Nat) (s : State) : (signal v s).cores = s.cores := rfl
@[simp] theorem signal_tasks (v : Nat) (s : State) : (signal v s).tasks = s.tasks := rfl
@[simp] theorem signal_upd (v : Nat) (s : State) : (signal v s).upd = s.upd := rfl
@[simp] theorem signal_trn (v : Nat) (s : State) : (signal v s).trn = s.trn := rfl
@[simp] theorem signal_links (v : Nat) (s : State) : (signal v s).links = s.links := rfl
@[simp] theorem signal_net (v : Nat) (s : State) : (signal v s).net = s.net := rfl
@[simp] theorem signal_col (v : Nat) (s : State) : (signal v s).col = s.col := rfl
@[simp] theorem signal_flt (v : Nat) (s : State) : (signal v s).flt = s.flt := rfl
@[simp] theorem signal_rcd (v : Nat) (s : State) : (signal v s).rcd = s.rcd := rfl
@[simp] theorem signal_tel (v : Nat) (s : State) : (signal v s).tel = s.tel := rfl
@[simp] theorem signal_sec (v : Nat) (s : State) : (signal v s).sec = s.sec := rfl
@[simp] theorem signal_arb (v : Nat) (s : State) : (signal v s).arb = s.arb := rfl
@[simp] theorem signal_free (v : Nat) (s : State) : (signal v s).free = s.free := rfl

/-! ### setRun -/

@[simp] theorem setRun_pending (f : Nat) (r : RunState) (s : State) : (setRun f r s).pending = s.pending := rfl
@[simp] theorem setRun_clk (f : Nat) (r : RunState) (s : State) : (setRun f r s).clk = s.clk := rfl
@[simp] theorem setRun_fuse (f : Nat) (r : RunState) (s : State) : (setRun f r s).fuse = s.fuse := rfl
@[simp] theorem setRun_pins (f : Nat) (r : RunState) (s : State) : (setRun f r s).pins = s.pins := rfl
@[simp] theorem setRun_pow (f : Nat) (r : RunState) (s : State) : (setRun f r s).pow = s.pow := rfl
@[simp] theorem setRun_flash (f : Nat) (r : RunState) (s : State) : (setRun f r s).flash = s.flash := rfl
@[simp] theorem setRun_boot (f : Nat) (r : RunState) (s : State) : (setRun f r s).boot = s.boot := rfl
@[simp] theorem setRun_regs (f : Nat) (r : RunState) (s : State) : (setRun f r s).regs = s.regs := rfl
@[simp] theorem setRun_dict (f : Nat) (r : RunState) (s : State) : (setRun f r s).dict = s.dict := rfl
@[simp] theorem setRun_tim (f : Nat) (r : RunState) (s : State) : (setRun f r s).tim = s.tim := rfl
@[simp] theorem setRun_cal (f : Nat) (r : RunState) (s : State) : (setRun f r s).cal = s.cal := rfl
@[simp] theorem setRun_mem (f : Nat) (r : RunState) (s : State) : (setRun f r s).mem = s.mem := rfl
@[simp] theorem setRun_mo (f : Nat) (r : RunState) (s : State) : (setRun f r s).mo = s.mo := rfl
@[simp] theorem setRun_jobs (f : Nat) (r : RunState) (s : State) : (setRun f r s).jobs = s.jobs := rfl
@[simp] theorem setRun_cores (f : Nat) (r : RunState) (s : State) : (setRun f r s).cores = s.cores := rfl
@[simp] theorem setRun_tasks (f : Nat) (r : RunState) (s : State) : (setRun f r s).tasks = s.tasks := rfl
@[simp] theorem setRun_host (f : Nat) (r : RunState) (s : State) : (setRun f r s).host = s.host := rfl
@[simp] theorem setRun_upd (f : Nat) (r : RunState) (s : State) : (setRun f r s).upd = s.upd := rfl
@[simp] theorem setRun_trn (f : Nat) (r : RunState) (s : State) : (setRun f r s).trn = s.trn := rfl
@[simp] theorem setRun_links (f : Nat) (r : RunState) (s : State) : (setRun f r s).links = s.links := rfl
@[simp] theorem setRun_net (f : Nat) (r : RunState) (s : State) : (setRun f r s).net = s.net := rfl
@[simp] theorem setRun_col (f : Nat) (r : RunState) (s : State) : (setRun f r s).col = s.col := rfl
@[simp] theorem setRun_flt (f : Nat) (r : RunState) (s : State) : (setRun f r s).flt = s.flt := rfl
@[simp] theorem setRun_rcd (f : Nat) (r : RunState) (s : State) : (setRun f r s).rcd = s.rcd := rfl
@[simp] theorem setRun_tel (f : Nat) (r : RunState) (s : State) : (setRun f r s).tel = s.tel := rfl
@[simp] theorem setRun_sec (f : Nat) (r : RunState) (s : State) : (setRun f r s).sec = s.sec := rfl
@[simp] theorem setRun_arb (f : Nat) (r : RunState) (s : State) : (setRun f r s).arb = s.arb := rfl
@[simp] theorem setRun_free (f : Nat) (r : RunState) (s : State) : (setRun f r s).free = s.free := rfl

/-! ### modCore -/

@[simp] theorem modCore_pending (c : Nat) (f : Core → Core) (s : State) : (modCore c f s).pending = s.pending := rfl
@[simp] theorem modCore_clk (c : Nat) (f : Core → Core) (s : State) : (modCore c f s).clk = s.clk := rfl
@[simp] theorem modCore_fuse (c : Nat) (f : Core → Core) (s : State) : (modCore c f s).fuse = s.fuse := rfl
@[simp] theorem modCore_pins (c : Nat) (f : Core → Core) (s : State) : (modCore c f s).pins = s.pins := rfl
@[simp] theorem modCore_pow (c : Nat) (f : Core → Core) (s : State) : (modCore c f s).pow = s.pow := rfl
@[simp] theorem modCore_flash (c : Nat) (f : Core → Core) (s : State) : (modCore c f s).flash = s.flash := rfl
@[simp] theorem modCore_boot (c : Nat) (f : Core → Core) (s : State) : (modCore c f s).boot = s.boot := rfl
@[simp] theorem modCore_regs (c : Nat) (f : Core → Core) (s : State) : (modCore c f s).regs = s.regs := rfl
@[simp] theorem modCore_dict (c : Nat) (f : Core → Core) (s : State) : (modCore c f s).dict = s.dict := rfl
@[simp] theorem modCore_run (c : Nat) (f : Core → Core) (s : State) : (modCore c f s).run = s.run := rfl
@[simp] theorem modCore_tim (c : Nat) (f : Core → Core) (s : State) : (modCore c f s).tim = s.tim := rfl
@[simp] theorem modCore_cal (c : Nat) (f : Core → Core) (s : State) : (modCore c f s).cal = s.cal := rfl
@[simp] theorem modCore_mem (c : Nat) (f : Core → Core) (s : State) : (modCore c f s).mem = s.mem := rfl
@[simp] theorem modCore_mo (c : Nat) (f : Core → Core) (s : State) : (modCore c f s).mo = s.mo := rfl
@[simp] theorem modCore_jobs (c : Nat) (f : Core → Core) (s : State) : (modCore c f s).jobs = s.jobs := rfl
@[simp] theorem modCore_tasks (c : Nat) (f : Core → Core) (s : State) : (modCore c f s).tasks = s.tasks := rfl
@[simp] theorem modCore_host (c : Nat) (f : Core → Core) (s : State) : (modCore c f s).host = s.host := rfl
@[simp] theorem modCore_upd (c : Nat) (f : Core → Core) (s : State) : (modCore c f s).upd = s.upd := rfl
@[simp] theorem modCore_trn (c : Nat) (f : Core → Core) (s : State) : (modCore c f s).trn = s.trn := rfl
@[simp] theorem modCore_links (c : Nat) (f : Core → Core) (s : State) : (modCore c f s).links = s.links := rfl
@[simp] theorem modCore_net (c : Nat) (f : Core → Core) (s : State) : (modCore c f s).net = s.net := rfl
@[simp] theorem modCore_col (c : Nat) (f : Core → Core) (s : State) : (modCore c f s).col = s.col := rfl
@[simp] theorem modCore_flt (c : Nat) (f : Core → Core) (s : State) : (modCore c f s).flt = s.flt := rfl
@[simp] theorem modCore_rcd (c : Nat) (f : Core → Core) (s : State) : (modCore c f s).rcd = s.rcd := rfl
@[simp] theorem modCore_tel (c : Nat) (f : Core → Core) (s : State) : (modCore c f s).tel = s.tel := rfl
@[simp] theorem modCore_sec (c : Nat) (f : Core → Core) (s : State) : (modCore c f s).sec = s.sec := rfl
@[simp] theorem modCore_arb (c : Nat) (f : Core → Core) (s : State) : (modCore c f s).arb = s.arb := rfl
@[simp] theorem modCore_free (c : Nat) (f : Core → Core) (s : State) : (modCore c f s).free = s.free := rfl

/-! ### modLink -/

@[simp] theorem modLink_pending (k : Nat) (f : Link → Link) (s : State) : (modLink k f s).pending = s.pending := rfl
@[simp] theorem modLink_clk (k : Nat) (f : Link → Link) (s : State) : (modLink k f s).clk = s.clk := rfl
@[simp] theorem modLink_fuse (k : Nat) (f : Link → Link) (s : State) : (modLink k f s).fuse = s.fuse := rfl
@[simp] theorem modLink_pins (k : Nat) (f : Link → Link) (s : State) : (modLink k f s).pins = s.pins := rfl
@[simp] theorem modLink_pow (k : Nat) (f : Link → Link) (s : State) : (modLink k f s).pow = s.pow := rfl
@[simp] theorem modLink_flash (k : Nat) (f : Link → Link) (s : State) : (modLink k f s).flash = s.flash := rfl
@[simp] theorem modLink_boot (k : Nat) (f : Link → Link) (s : State) : (modLink k f s).boot = s.boot := rfl
@[simp] theorem modLink_regs (k : Nat) (f : Link → Link) (s : State) : (modLink k f s).regs = s.regs := rfl
@[simp] theorem modLink_dict (k : Nat) (f : Link → Link) (s : State) : (modLink k f s).dict = s.dict := rfl
@[simp] theorem modLink_run (k : Nat) (f : Link → Link) (s : State) : (modLink k f s).run = s.run := rfl
@[simp] theorem modLink_tim (k : Nat) (f : Link → Link) (s : State) : (modLink k f s).tim = s.tim := rfl
@[simp] theorem modLink_cal (k : Nat) (f : Link → Link) (s : State) : (modLink k f s).cal = s.cal := rfl
@[simp] theorem modLink_mem (k : Nat) (f : Link → Link) (s : State) : (modLink k f s).mem = s.mem := rfl
@[simp] theorem modLink_mo (k : Nat) (f : Link → Link) (s : State) : (modLink k f s).mo = s.mo := rfl
@[simp] theorem modLink_jobs (k : Nat) (f : Link → Link) (s : State) : (modLink k f s).jobs = s.jobs := rfl
@[simp] theorem modLink_cores (k : Nat) (f : Link → Link) (s : State) : (modLink k f s).cores = s.cores := rfl
@[simp] theorem modLink_tasks (k : Nat) (f : Link → Link) (s : State) : (modLink k f s).tasks = s.tasks := rfl
@[simp] theorem modLink_host (k : Nat) (f : Link → Link) (s : State) : (modLink k f s).host = s.host := rfl
@[simp] theorem modLink_upd (k : Nat) (f : Link → Link) (s : State) : (modLink k f s).upd = s.upd := rfl
@[simp] theorem modLink_trn (k : Nat) (f : Link → Link) (s : State) : (modLink k f s).trn = s.trn := rfl
@[simp] theorem modLink_net (k : Nat) (f : Link → Link) (s : State) : (modLink k f s).net = s.net := rfl
@[simp] theorem modLink_col (k : Nat) (f : Link → Link) (s : State) : (modLink k f s).col = s.col := rfl
@[simp] theorem modLink_flt (k : Nat) (f : Link → Link) (s : State) : (modLink k f s).flt = s.flt := rfl
@[simp] theorem modLink_rcd (k : Nat) (f : Link → Link) (s : State) : (modLink k f s).rcd = s.rcd := rfl
@[simp] theorem modLink_tel (k : Nat) (f : Link → Link) (s : State) : (modLink k f s).tel = s.tel := rfl
@[simp] theorem modLink_sec (k : Nat) (f : Link → Link) (s : State) : (modLink k f s).sec = s.sec := rfl
@[simp] theorem modLink_arb (k : Nat) (f : Link → Link) (s : State) : (modLink k f s).arb = s.arb := rfl
@[simp] theorem modLink_free (k : Nat) (f : Link → Link) (s : State) : (modLink k f s).free = s.free := rfl

/-! ### modQueue -/

@[simp] theorem modQueue_pending (q : Nat) (f : Queue → Queue) (s : State) : (modQueue q f s).pending = s.pending := rfl
@[simp] theorem modQueue_clk (q : Nat) (f : Queue → Queue) (s : State) : (modQueue q f s).clk = s.clk := rfl
@[simp] theorem modQueue_fuse (q : Nat) (f : Queue → Queue) (s : State) : (modQueue q f s).fuse = s.fuse := rfl
@[simp] theorem modQueue_pins (q : Nat) (f : Queue → Queue) (s : State) : (modQueue q f s).pins = s.pins := rfl
@[simp] theorem modQueue_pow (q : Nat) (f : Queue → Queue) (s : State) : (modQueue q f s).pow = s.pow := rfl
@[simp] theorem modQueue_flash (q : Nat) (f : Queue → Queue) (s : State) : (modQueue q f s).flash = s.flash := rfl
@[simp] theorem modQueue_boot (q : Nat) (f : Queue → Queue) (s : State) : (modQueue q f s).boot = s.boot := rfl
@[simp] theorem modQueue_regs (q : Nat) (f : Queue → Queue) (s : State) : (modQueue q f s).regs = s.regs := rfl
@[simp] theorem modQueue_dict (q : Nat) (f : Queue → Queue) (s : State) : (modQueue q f s).dict = s.dict := rfl
@[simp] theorem modQueue_run (q : Nat) (f : Queue → Queue) (s : State) : (modQueue q f s).run = s.run := rfl
@[simp] theorem modQueue_tim (q : Nat) (f : Queue → Queue) (s : State) : (modQueue q f s).tim = s.tim := rfl
@[simp] theorem modQueue_cal (q : Nat) (f : Queue → Queue) (s : State) : (modQueue q f s).cal = s.cal := rfl
@[simp] theorem modQueue_mem (q : Nat) (f : Queue → Queue) (s : State) : (modQueue q f s).mem = s.mem := rfl
@[simp] theorem modQueue_mo (q : Nat) (f : Queue → Queue) (s : State) : (modQueue q f s).mo = s.mo := rfl
@[simp] theorem modQueue_jobs (q : Nat) (f : Queue → Queue) (s : State) : (modQueue q f s).jobs = s.jobs := rfl
@[simp] theorem modQueue_cores (q : Nat) (f : Queue → Queue) (s : State) : (modQueue q f s).cores = s.cores := rfl
@[simp] theorem modQueue_tasks (q : Nat) (f : Queue → Queue) (s : State) : (modQueue q f s).tasks = s.tasks := rfl
@[simp] theorem modQueue_upd (q : Nat) (f : Queue → Queue) (s : State) : (modQueue q f s).upd = s.upd := rfl
@[simp] theorem modQueue_trn (q : Nat) (f : Queue → Queue) (s : State) : (modQueue q f s).trn = s.trn := rfl
@[simp] theorem modQueue_links (q : Nat) (f : Queue → Queue) (s : State) : (modQueue q f s).links = s.links := rfl
@[simp] theorem modQueue_net (q : Nat) (f : Queue → Queue) (s : State) : (modQueue q f s).net = s.net := rfl
@[simp] theorem modQueue_col (q : Nat) (f : Queue → Queue) (s : State) : (modQueue q f s).col = s.col := rfl
@[simp] theorem modQueue_flt (q : Nat) (f : Queue → Queue) (s : State) : (modQueue q f s).flt = s.flt := rfl
@[simp] theorem modQueue_rcd (q : Nat) (f : Queue → Queue) (s : State) : (modQueue q f s).rcd = s.rcd := rfl
@[simp] theorem modQueue_tel (q : Nat) (f : Queue → Queue) (s : State) : (modQueue q f s).tel = s.tel := rfl
@[simp] theorem modQueue_sec (q : Nat) (f : Queue → Queue) (s : State) : (modQueue q f s).sec = s.sec := rfl
@[simp] theorem modQueue_arb (q : Nat) (f : Queue → Queue) (s : State) : (modQueue q f s).arb = s.arb := rfl
@[simp] theorem modQueue_free (q : Nat) (f : Queue → Queue) (s : State) : (modQueue q f s).free = s.free := rfl

/-! ### wrSector -/

@[simp] theorem wrSector_pending (n : Nat) (x : Sector) (s : State) : (wrSector n x s).pending = s.pending := rfl
@[simp] theorem wrSector_clk (n : Nat) (x : Sector) (s : State) : (wrSector n x s).clk = s.clk := rfl
@[simp] theorem wrSector_fuse (n : Nat) (x : Sector) (s : State) : (wrSector n x s).fuse = s.fuse := rfl
@[simp] theorem wrSector_pins (n : Nat) (x : Sector) (s : State) : (wrSector n x s).pins = s.pins := rfl
@[simp] theorem wrSector_pow (n : Nat) (x : Sector) (s : State) : (wrSector n x s).pow = s.pow := rfl
@[simp] theorem wrSector_flash (n : Nat) (x : Sector) (s : State) : (wrSector n x s).flash = s.flash := rfl
@[simp] theorem wrSector_boot (n : Nat) (x : Sector) (s : State) : (wrSector n x s).boot = s.boot := rfl
@[simp] theorem wrSector_regs (n : Nat) (x : Sector) (s : State) : (wrSector n x s).regs = s.regs := rfl
@[simp] theorem wrSector_dict (n : Nat) (x : Sector) (s : State) : (wrSector n x s).dict = s.dict := rfl
@[simp] theorem wrSector_run (n : Nat) (x : Sector) (s : State) : (wrSector n x s).run = s.run := rfl
@[simp] theorem wrSector_tim (n : Nat) (x : Sector) (s : State) : (wrSector n x s).tim = s.tim := rfl
@[simp] theorem wrSector_cal (n : Nat) (x : Sector) (s : State) : (wrSector n x s).cal = s.cal := rfl
@[simp] theorem wrSector_mo (n : Nat) (x : Sector) (s : State) : (wrSector n x s).mo = s.mo := rfl
@[simp] theorem wrSector_jobs (n : Nat) (x : Sector) (s : State) : (wrSector n x s).jobs = s.jobs := rfl
@[simp] theorem wrSector_cores (n : Nat) (x : Sector) (s : State) : (wrSector n x s).cores = s.cores := rfl
@[simp] theorem wrSector_tasks (n : Nat) (x : Sector) (s : State) : (wrSector n x s).tasks = s.tasks := rfl
@[simp] theorem wrSector_host (n : Nat) (x : Sector) (s : State) : (wrSector n x s).host = s.host := rfl
@[simp] theorem wrSector_upd (n : Nat) (x : Sector) (s : State) : (wrSector n x s).upd = s.upd := rfl
@[simp] theorem wrSector_trn (n : Nat) (x : Sector) (s : State) : (wrSector n x s).trn = s.trn := rfl
@[simp] theorem wrSector_links (n : Nat) (x : Sector) (s : State) : (wrSector n x s).links = s.links := rfl
@[simp] theorem wrSector_net (n : Nat) (x : Sector) (s : State) : (wrSector n x s).net = s.net := rfl
@[simp] theorem wrSector_col (n : Nat) (x : Sector) (s : State) : (wrSector n x s).col = s.col := rfl
@[simp] theorem wrSector_flt (n : Nat) (x : Sector) (s : State) : (wrSector n x s).flt = s.flt := rfl
@[simp] theorem wrSector_rcd (n : Nat) (x : Sector) (s : State) : (wrSector n x s).rcd = s.rcd := rfl
@[simp] theorem wrSector_tel (n : Nat) (x : Sector) (s : State) : (wrSector n x s).tel = s.tel := rfl
@[simp] theorem wrSector_sec (n : Nat) (x : Sector) (s : State) : (wrSector n x s).sec = s.sec := rfl
@[simp] theorem wrSector_arb (n : Nat) (x : Sector) (s : State) : (wrSector n x s).arb = s.arb := rfl
@[simp] theorem wrSector_free (n : Nat) (x : Sector) (s : State) : (wrSector n x s).free = s.free := rfl

/-! ### modTask -/

@[simp] theorem modTask_pending (k : Nat) (f : Task → Task) (s : State) : (modTask k f s).pending = s.pending := rfl
@[simp] theorem modTask_clk (k : Nat) (f : Task → Task) (s : State) : (modTask k f s).clk = s.clk := rfl
@[simp] theorem modTask_fuse (k : Nat) (f : Task → Task) (s : State) : (modTask k f s).fuse = s.fuse := rfl
@[simp] theorem modTask_pins (k : Nat) (f : Task → Task) (s : State) : (modTask k f s).pins = s.pins := rfl
@[simp] theorem modTask_pow (k : Nat) (f : Task → Task) (s : State) : (modTask k f s).pow = s.pow := rfl
@[simp] theorem modTask_flash (k : Nat) (f : Task → Task) (s : State) : (modTask k f s).flash = s.flash := rfl
@[simp] theorem modTask_boot (k : Nat) (f : Task → Task) (s : State) : (modTask k f s).boot = s.boot := rfl
@[simp] theorem modTask_regs (k : Nat) (f : Task → Task) (s : State) : (modTask k f s).regs = s.regs := rfl
@[simp] theorem modTask_dict (k : Nat) (f : Task → Task) (s : State) : (modTask k f s).dict = s.dict := rfl
@[simp] theorem modTask_run (k : Nat) (f : Task → Task) (s : State) : (modTask k f s).run = s.run := rfl
@[simp] theorem modTask_tim (k : Nat) (f : Task → Task) (s : State) : (modTask k f s).tim = s.tim := rfl
@[simp] theorem modTask_cal (k : Nat) (f : Task → Task) (s : State) : (modTask k f s).cal = s.cal := rfl
@[simp] theorem modTask_mem (k : Nat) (f : Task → Task) (s : State) : (modTask k f s).mem = s.mem := rfl
@[simp] theorem modTask_mo (k : Nat) (f : Task → Task) (s : State) : (modTask k f s).mo = s.mo := rfl
@[simp] theorem modTask_jobs (k : Nat) (f : Task → Task) (s : State) : (modTask k f s).jobs = s.jobs := rfl
@[simp] theorem modTask_cores (k : Nat) (f : Task → Task) (s : State) : (modTask k f s).cores = s.cores := rfl
@[simp] theorem modTask_host (k : Nat) (f : Task → Task) (s : State) : (modTask k f s).host = s.host := rfl
@[simp] theorem modTask_upd (k : Nat) (f : Task → Task) (s : State) : (modTask k f s).upd = s.upd := rfl
@[simp] theorem modTask_trn (k : Nat) (f : Task → Task) (s : State) : (modTask k f s).trn = s.trn := rfl
@[simp] theorem modTask_links (k : Nat) (f : Task → Task) (s : State) : (modTask k f s).links = s.links := rfl
@[simp] theorem modTask_net (k : Nat) (f : Task → Task) (s : State) : (modTask k f s).net = s.net := rfl
@[simp] theorem modTask_col (k : Nat) (f : Task → Task) (s : State) : (modTask k f s).col = s.col := rfl
@[simp] theorem modTask_flt (k : Nat) (f : Task → Task) (s : State) : (modTask k f s).flt = s.flt := rfl
@[simp] theorem modTask_rcd (k : Nat) (f : Task → Task) (s : State) : (modTask k f s).rcd = s.rcd := rfl
@[simp] theorem modTask_tel (k : Nat) (f : Task → Task) (s : State) : (modTask k f s).tel = s.tel := rfl
@[simp] theorem modTask_sec (k : Nat) (f : Task → Task) (s : State) : (modTask k f s).sec = s.sec := rfl
@[simp] theorem modTask_arb (k : Nat) (f : Task → Task) (s : State) : (modTask k f s).arb = s.arb := rfl
@[simp] theorem modTask_free (k : Nat) (f : Task → Task) (s : State) : (modTask k f s).free = s.free := rfl

/-! ### queueFlit -/

@[simp] theorem queueFlit_pending (k : Nat) (f : Flit) (s : State) : (queueFlit k f s).pending = s.pending := rfl
@[simp] theorem queueFlit_clk (k : Nat) (f : Flit) (s : State) : (queueFlit k f s).clk = s.clk := rfl
@[simp] theorem queueFlit_fuse (k : Nat) (f : Flit) (s : State) : (queueFlit k f s).fuse = s.fuse := rfl
@[simp] theorem queueFlit_pins (k : Nat) (f : Flit) (s : State) : (queueFlit k f s).pins = s.pins := rfl
@[simp] theorem queueFlit_pow (k : Nat) (f : Flit) (s : State) : (queueFlit k f s).pow = s.pow := rfl
@[simp] theorem queueFlit_flash (k : Nat) (f : Flit) (s : State) : (queueFlit k f s).flash = s.flash := rfl
@[simp] theorem queueFlit_boot (k : Nat) (f : Flit) (s : State) : (queueFlit k f s).boot = s.boot := rfl
@[simp] theorem queueFlit_regs (k : Nat) (f : Flit) (s : State) : (queueFlit k f s).regs = s.regs := rfl
@[simp] theorem queueFlit_dict (k : Nat) (f : Flit) (s : State) : (queueFlit k f s).dict = s.dict := rfl
@[simp] theorem queueFlit_run (k : Nat) (f : Flit) (s : State) : (queueFlit k f s).run = s.run := rfl
@[simp] theorem queueFlit_tim (k : Nat) (f : Flit) (s : State) : (queueFlit k f s).tim = s.tim := rfl
@[simp] theorem queueFlit_cal (k : Nat) (f : Flit) (s : State) : (queueFlit k f s).cal = s.cal := rfl
@[simp] theorem queueFlit_mem (k : Nat) (f : Flit) (s : State) : (queueFlit k f s).mem = s.mem := rfl
@[simp] theorem queueFlit_mo (k : Nat) (f : Flit) (s : State) : (queueFlit k f s).mo = s.mo := rfl
@[simp] theorem queueFlit_jobs (k : Nat) (f : Flit) (s : State) : (queueFlit k f s).jobs = s.jobs := rfl
@[simp] theorem queueFlit_cores (k : Nat) (f : Flit) (s : State) : (queueFlit k f s).cores = s.cores := rfl
@[simp] theorem queueFlit_tasks (k : Nat) (f : Flit) (s : State) : (queueFlit k f s).tasks = s.tasks := rfl
@[simp] theorem queueFlit_host (k : Nat) (f : Flit) (s : State) : (queueFlit k f s).host = s.host := rfl
@[simp] theorem queueFlit_upd (k : Nat) (f : Flit) (s : State) : (queueFlit k f s).upd = s.upd := rfl
@[simp] theorem queueFlit_trn (k : Nat) (f : Flit) (s : State) : (queueFlit k f s).trn = s.trn := rfl
@[simp] theorem queueFlit_net (k : Nat) (f : Flit) (s : State) : (queueFlit k f s).net = s.net := rfl
@[simp] theorem queueFlit_col (k : Nat) (f : Flit) (s : State) : (queueFlit k f s).col = s.col := rfl
@[simp] theorem queueFlit_flt (k : Nat) (f : Flit) (s : State) : (queueFlit k f s).flt = s.flt := rfl
@[simp] theorem queueFlit_rcd (k : Nat) (f : Flit) (s : State) : (queueFlit k f s).rcd = s.rcd := rfl
@[simp] theorem queueFlit_tel (k : Nat) (f : Flit) (s : State) : (queueFlit k f s).tel = s.tel := rfl
@[simp] theorem queueFlit_sec (k : Nat) (f : Flit) (s : State) : (queueFlit k f s).sec = s.sec := rfl
@[simp] theorem queueFlit_arb (k : Nat) (f : Flit) (s : State) : (queueFlit k f s).arb = s.arb := rfl
@[simp] theorem queueFlit_free (k : Nat) (f : Flit) (s : State) : (queueFlit k f s).free = s.free := rfl

/-! ### State.withQueue -/

@[simp] theorem withQueue_clk (q : List Instr) (s : State) : (s.withQueue q).clk = s.clk := rfl
@[simp] theorem withQueue_fuse (q : List Instr) (s : State) : (s.withQueue q).fuse = s.fuse := rfl
@[simp] theorem withQueue_pins (q : List Instr) (s : State) : (s.withQueue q).pins = s.pins := rfl
@[simp] theorem withQueue_pow (q : List Instr) (s : State) : (s.withQueue q).pow = s.pow := rfl
@[simp] theorem withQueue_flash (q : List Instr) (s : State) : (s.withQueue q).flash = s.flash := rfl
@[simp] theorem withQueue_boot (q : List Instr) (s : State) : (s.withQueue q).boot = s.boot := rfl
@[simp] theorem withQueue_regs (q : List Instr) (s : State) : (s.withQueue q).regs = s.regs := rfl
@[simp] theorem withQueue_dict (q : List Instr) (s : State) : (s.withQueue q).dict = s.dict := rfl
@[simp] theorem withQueue_run (q : List Instr) (s : State) : (s.withQueue q).run = s.run := rfl
@[simp] theorem withQueue_tim (q : List Instr) (s : State) : (s.withQueue q).tim = s.tim := rfl
@[simp] theorem withQueue_cal (q : List Instr) (s : State) : (s.withQueue q).cal = s.cal := rfl
@[simp] theorem withQueue_mem (q : List Instr) (s : State) : (s.withQueue q).mem = s.mem := rfl
@[simp] theorem withQueue_mo (q : List Instr) (s : State) : (s.withQueue q).mo = s.mo := rfl
@[simp] theorem withQueue_jobs (q : List Instr) (s : State) : (s.withQueue q).jobs = s.jobs := rfl
@[simp] theorem withQueue_cores (q : List Instr) (s : State) : (s.withQueue q).cores = s.cores := rfl
@[simp] theorem withQueue_tasks (q : List Instr) (s : State) : (s.withQueue q).tasks = s.tasks := rfl
@[simp] theorem withQueue_host (q : List Instr) (s : State) : (s.withQueue q).host = s.host := rfl
@[simp] theorem withQueue_upd (q : List Instr) (s : State) : (s.withQueue q).upd = s.upd := rfl
@[simp] theorem withQueue_trn (q : List Instr) (s : State) : (s.withQueue q).trn = s.trn := rfl
@[simp] theorem withQueue_links (q : List Instr) (s : State) : (s.withQueue q).links = s.links := rfl
@[simp] theorem withQueue_net (q : List Instr) (s : State) : (s.withQueue q).net = s.net := rfl
@[simp] theorem withQueue_col (q : List Instr) (s : State) : (s.withQueue q).col = s.col := rfl
@[simp] theorem withQueue_flt (q : List Instr) (s : State) : (s.withQueue q).flt = s.flt := rfl
@[simp] theorem withQueue_rcd (q : List Instr) (s : State) : (s.withQueue q).rcd = s.rcd := rfl
@[simp] theorem withQueue_tel (q : List Instr) (s : State) : (s.withQueue q).tel = s.tel := rfl
@[simp] theorem withQueue_sec (q : List Instr) (s : State) : (s.withQueue q).sec = s.sec := rfl
@[simp] theorem withQueue_arb (q : List Instr) (s : State) : (s.withQueue q).arb = s.arb := rfl
@[simp] theorem withQueue_free (q : List Instr) (s : State) : (s.withQueue q).free = s.free := rfl

/-! ### modTim -/

@[simp] theorem modTim_pending (f : Timing → Timing) (s : State) : (modTim f s).pending = s.pending := rfl
@[simp] theorem modTim_clk (f : Timing → Timing) (s : State) : (modTim f s).clk = s.clk := rfl
@[simp] theorem modTim_fuse (f : Timing → Timing) (s : State) : (modTim f s).fuse = s.fuse := rfl
@[simp] theorem modTim_regs (f : Timing → Timing) (s : State) : (modTim f s).regs = s.regs := rfl
@[simp] theorem modTim_mem (f : Timing → Timing) (s : State) : (modTim f s).mem = s.mem := rfl
@[simp] theorem modTim_cores (f : Timing → Timing) (s : State) : (modTim f s).cores = s.cores := rfl
@[simp] theorem modTim_links (f : Timing → Timing) (s : State) : (modTim f s).links = s.links := rfl
@[simp] theorem modTim_host (f : Timing → Timing) (s : State) : (modTim f s).host = s.host := rfl
@[simp] theorem modTim_dict (f : Timing → Timing) (s : State) : (modTim f s).dict = s.dict := rfl
@[simp] theorem modTim_cal (f : Timing → Timing) (s : State) : (modTim f s).cal = s.cal := rfl
@[simp] theorem modTim_pow (f : Timing → Timing) (s : State) : (modTim f s).pow = s.pow := rfl
@[simp] theorem modTim_run (f : Timing → Timing) (s : State) : (modTim f s).run = s.run := rfl

/-! ### modPow -/

@[simp] theorem modPow_pending (f : Power → Power) (s : State) : (modPow f s).pending = s.pending := rfl
@[simp] theorem modPow_clk (f : Power → Power) (s : State) : (modPow f s).clk = s.clk := rfl
@[simp] theorem modPow_fuse (f : Power → Power) (s : State) : (modPow f s).fuse = s.fuse := rfl
@[simp] theorem modPow_regs (f : Power → Power) (s : State) : (modPow f s).regs = s.regs := rfl
@[simp] theorem modPow_mem (f : Power → Power) (s : State) : (modPow f s).mem = s.mem := rfl
@[simp] theorem modPow_cores (f : Power → Power) (s : State) : (modPow f s).cores = s.cores := rfl
@[simp] theorem modPow_links (f : Power → Power) (s : State) : (modPow f s).links = s.links := rfl
@[simp] theorem modPow_host (f : Power → Power) (s : State) : (modPow f s).host = s.host := rfl
@[simp] theorem modPow_dict (f : Power → Power) (s : State) : (modPow f s).dict = s.dict := rfl
@[simp] theorem modPow_cal (f : Power → Power) (s : State) : (modPow f s).cal = s.cal := rfl
@[simp] theorem modPow_run (f : Power → Power) (s : State) : (modPow f s).run = s.run := rfl

/-! ### modEngine -/

@[simp] theorem modEngine_pending (e : Nat) (f : OptEngine → OptEngine) (s : State) : (modEngine e f s).pending = s.pending := rfl
@[simp] theorem modEngine_clk (e : Nat) (f : OptEngine → OptEngine) (s : State) : (modEngine e f s).clk = s.clk := rfl
@[simp] theorem modEngine_fuse (e : Nat) (f : OptEngine → OptEngine) (s : State) : (modEngine e f s).fuse = s.fuse := rfl
@[simp] theorem modEngine_regs (e : Nat) (f : OptEngine → OptEngine) (s : State) : (modEngine e f s).regs = s.regs := rfl
@[simp] theorem modEngine_mem (e : Nat) (f : OptEngine → OptEngine) (s : State) : (modEngine e f s).mem = s.mem := rfl
@[simp] theorem modEngine_cores (e : Nat) (f : OptEngine → OptEngine) (s : State) : (modEngine e f s).cores = s.cores := rfl
@[simp] theorem modEngine_links (e : Nat) (f : OptEngine → OptEngine) (s : State) : (modEngine e f s).links = s.links := rfl
@[simp] theorem modEngine_host (e : Nat) (f : OptEngine → OptEngine) (s : State) : (modEngine e f s).host = s.host := rfl
@[simp] theorem modEngine_dict (e : Nat) (f : OptEngine → OptEngine) (s : State) : (modEngine e f s).dict = s.dict := rfl
@[simp] theorem modEngine_cal (e : Nat) (f : OptEngine → OptEngine) (s : State) : (modEngine e f s).cal = s.cal := rfl
@[simp] theorem modEngine_pow (e : Nat) (f : OptEngine → OptEngine) (s : State) : (modEngine e f s).pow = s.pow := rfl
@[simp] theorem modEngine_run (e : Nat) (f : OptEngine → OptEngine) (s : State) : (modEngine e f s).run = s.run := rfl

/-! ### modExtract -/

@[simp] theorem modExtract_pending (f : Extract → Extract) (s : State) : (modExtract f s).pending = s.pending := rfl
@[simp] theorem modExtract_clk (f : Extract → Extract) (s : State) : (modExtract f s).clk = s.clk := rfl
@[simp] theorem modExtract_fuse (f : Extract → Extract) (s : State) : (modExtract f s).fuse = s.fuse := rfl
@[simp] theorem modExtract_regs (f : Extract → Extract) (s : State) : (modExtract f s).regs = s.regs := rfl
@[simp] theorem modExtract_mem (f : Extract → Extract) (s : State) : (modExtract f s).mem = s.mem := rfl
@[simp] theorem modExtract_cores (f : Extract → Extract) (s : State) : (modExtract f s).cores = s.cores := rfl
@[simp] theorem modExtract_links (f : Extract → Extract) (s : State) : (modExtract f s).links = s.links := rfl
@[simp] theorem modExtract_host (f : Extract → Extract) (s : State) : (modExtract f s).host = s.host := rfl
@[simp] theorem modExtract_dict (f : Extract → Extract) (s : State) : (modExtract f s).dict = s.dict := rfl
@[simp] theorem modExtract_cal (f : Extract → Extract) (s : State) : (modExtract f s).cal = s.cal := rfl
@[simp] theorem modExtract_pow (f : Extract → Extract) (s : State) : (modExtract f s).pow = s.pow := rfl
@[simp] theorem modExtract_run (f : Extract → Extract) (s : State) : (modExtract f s).run = s.run := rfl

/-! ### modWc -/

@[simp] theorem modWc_pending (f : List WcEntry → List WcEntry) (s : State) : (modWc f s).pending = s.pending := rfl
@[simp] theorem modWc_clk (f : List WcEntry → List WcEntry) (s : State) : (modWc f s).clk = s.clk := rfl
@[simp] theorem modWc_fuse (f : List WcEntry → List WcEntry) (s : State) : (modWc f s).fuse = s.fuse := rfl
@[simp] theorem modWc_regs (f : List WcEntry → List WcEntry) (s : State) : (modWc f s).regs = s.regs := rfl
@[simp] theorem modWc_mem (f : List WcEntry → List WcEntry) (s : State) : (modWc f s).mem = s.mem := rfl
@[simp] theorem modWc_cores (f : List WcEntry → List WcEntry) (s : State) : (modWc f s).cores = s.cores := rfl
@[simp] theorem modWc_links (f : List WcEntry → List WcEntry) (s : State) : (modWc f s).links = s.links := rfl
@[simp] theorem modWc_host (f : List WcEntry → List WcEntry) (s : State) : (modWc f s).host = s.host := rfl
@[simp] theorem modWc_dict (f : List WcEntry → List WcEntry) (s : State) : (modWc f s).dict = s.dict := rfl
@[simp] theorem modWc_cal (f : List WcEntry → List WcEntry) (s : State) : (modWc f s).cal = s.cal := rfl
@[simp] theorem modWc_pow (f : List WcEntry → List WcEntry) (s : State) : (modWc f s).pow = s.pow := rfl
@[simp] theorem modWc_run (f : List WcEntry → List WcEntry) (s : State) : (modWc f s).run = s.run := rfl

/-! ### modTg -/

@[simp] theorem modTg_pending (u : Nat) (f : Tg → Tg) (s : State) : (modTg u f s).pending = s.pending := rfl
@[simp] theorem modTg_clk (u : Nat) (f : Tg → Tg) (s : State) : (modTg u f s).clk = s.clk := rfl
@[simp] theorem modTg_fuse (u : Nat) (f : Tg → Tg) (s : State) : (modTg u f s).fuse = s.fuse := rfl
@[simp] theorem modTg_regs (u : Nat) (f : Tg → Tg) (s : State) : (modTg u f s).regs = s.regs := rfl
@[simp] theorem modTg_mem (u : Nat) (f : Tg → Tg) (s : State) : (modTg u f s).mem = s.mem := rfl
@[simp] theorem modTg_cores (u : Nat) (f : Tg → Tg) (s : State) : (modTg u f s).cores = s.cores := rfl
@[simp] theorem modTg_links (u : Nat) (f : Tg → Tg) (s : State) : (modTg u f s).links = s.links := rfl
@[simp] theorem modTg_host (u : Nat) (f : Tg → Tg) (s : State) : (modTg u f s).host = s.host := rfl
@[simp] theorem modTg_dict (u : Nat) (f : Tg → Tg) (s : State) : (modTg u f s).dict = s.dict := rfl
@[simp] theorem modTg_cal (u : Nat) (f : Tg → Tg) (s : State) : (modTg u f s).cal = s.cal := rfl
@[simp] theorem modTg_pow (u : Nat) (f : Tg → Tg) (s : State) : (modTg u f s).pow = s.pow := rfl
@[simp] theorem modTg_run (u : Nat) (f : Tg → Tg) (s : State) : (modTg u f s).run = s.run := rfl

/-! ### modUnit -/

@[simp] theorem modUnit_pending (u : Nat) (f : UpdUnit → UpdUnit) (s : State) : (modUnit u f s).pending = s.pending := rfl
@[simp] theorem modUnit_clk (u : Nat) (f : UpdUnit → UpdUnit) (s : State) : (modUnit u f s).clk = s.clk := rfl
@[simp] theorem modUnit_fuse (u : Nat) (f : UpdUnit → UpdUnit) (s : State) : (modUnit u f s).fuse = s.fuse := rfl
@[simp] theorem modUnit_regs (u : Nat) (f : UpdUnit → UpdUnit) (s : State) : (modUnit u f s).regs = s.regs := rfl
@[simp] theorem modUnit_mem (u : Nat) (f : UpdUnit → UpdUnit) (s : State) : (modUnit u f s).mem = s.mem := rfl
@[simp] theorem modUnit_cores (u : Nat) (f : UpdUnit → UpdUnit) (s : State) : (modUnit u f s).cores = s.cores := rfl
@[simp] theorem modUnit_links (u : Nat) (f : UpdUnit → UpdUnit) (s : State) : (modUnit u f s).links = s.links := rfl
@[simp] theorem modUnit_host (u : Nat) (f : UpdUnit → UpdUnit) (s : State) : (modUnit u f s).host = s.host := rfl
@[simp] theorem modUnit_dict (u : Nat) (f : UpdUnit → UpdUnit) (s : State) : (modUnit u f s).dict = s.dict := rfl
@[simp] theorem modUnit_cal (u : Nat) (f : UpdUnit → UpdUnit) (s : State) : (modUnit u f s).cal = s.cal := rfl
@[simp] theorem modUnit_pow (u : Nat) (f : UpdUnit → UpdUnit) (s : State) : (modUnit u f s).pow = s.pow := rfl
@[simp] theorem modUnit_run (u : Nat) (f : UpdUnit → UpdUnit) (s : State) : (modUnit u f s).run = s.run := rfl

/-! ### modSetRun -/

@[simp] theorem modSetRun_pending (n : Nat) (f : SetRun → SetRun) (s : State) : (modSetRun n f s).pending = s.pending := rfl
@[simp] theorem modSetRun_clk (n : Nat) (f : SetRun → SetRun) (s : State) : (modSetRun n f s).clk = s.clk := rfl
@[simp] theorem modSetRun_fuse (n : Nat) (f : SetRun → SetRun) (s : State) : (modSetRun n f s).fuse = s.fuse := rfl
@[simp] theorem modSetRun_regs (n : Nat) (f : SetRun → SetRun) (s : State) : (modSetRun n f s).regs = s.regs := rfl
@[simp] theorem modSetRun_mem (n : Nat) (f : SetRun → SetRun) (s : State) : (modSetRun n f s).mem = s.mem := rfl
@[simp] theorem modSetRun_cores (n : Nat) (f : SetRun → SetRun) (s : State) : (modSetRun n f s).cores = s.cores := rfl
@[simp] theorem modSetRun_links (n : Nat) (f : SetRun → SetRun) (s : State) : (modSetRun n f s).links = s.links := rfl
@[simp] theorem modSetRun_host (n : Nat) (f : SetRun → SetRun) (s : State) : (modSetRun n f s).host = s.host := rfl
@[simp] theorem modSetRun_dict (n : Nat) (f : SetRun → SetRun) (s : State) : (modSetRun n f s).dict = s.dict := rfl
@[simp] theorem modSetRun_cal (n : Nat) (f : SetRun → SetRun) (s : State) : (modSetRun n f s).cal = s.cal := rfl
@[simp] theorem modSetRun_pow (n : Nat) (f : SetRun → SetRun) (s : State) : (modSetRun n f s).pow = s.pow := rfl
@[simp] theorem modSetRun_run (n : Nat) (f : SetRun → SetRun) (s : State) : (modSetRun n f s).run = s.run := rfl

/-! ### modTx -/

@[simp] theorem modTx_pending (n : Nat) (f : Xfer → Xfer) (s : State) : (modTx n f s).pending = s.pending := rfl
@[simp] theorem modTx_clk (n : Nat) (f : Xfer → Xfer) (s : State) : (modTx n f s).clk = s.clk := rfl
@[simp] theorem modTx_fuse (n : Nat) (f : Xfer → Xfer) (s : State) : (modTx n f s).fuse = s.fuse := rfl
@[simp] theorem modTx_regs (n : Nat) (f : Xfer → Xfer) (s : State) : (modTx n f s).regs = s.regs := rfl
@[simp] theorem modTx_mem (n : Nat) (f : Xfer → Xfer) (s : State) : (modTx n f s).mem = s.mem := rfl
@[simp] theorem modTx_cores (n : Nat) (f : Xfer → Xfer) (s : State) : (modTx n f s).cores = s.cores := rfl
@[simp] theorem modTx_links (n : Nat) (f : Xfer → Xfer) (s : State) : (modTx n f s).links = s.links := rfl
@[simp] theorem modTx_host (n : Nat) (f : Xfer → Xfer) (s : State) : (modTx n f s).host = s.host := rfl
@[simp] theorem modTx_dict (n : Nat) (f : Xfer → Xfer) (s : State) : (modTx n f s).dict = s.dict := rfl
@[simp] theorem modTx_cal (n : Nat) (f : Xfer → Xfer) (s : State) : (modTx n f s).cal = s.cal := rfl
@[simp] theorem modTx_pow (n : Nat) (f : Xfer → Xfer) (s : State) : (modTx n f s).pow = s.pow := rfl
@[simp] theorem modTx_run (n : Nat) (f : Xfer → Xfer) (s : State) : (modTx n f s).run = s.run := rfl

/-! ### modColl -/

@[simp] theorem modColl_pending (t : Nat) (f : Coll → Coll) (s : State) : (modColl t f s).pending = s.pending := rfl
@[simp] theorem modColl_clk (t : Nat) (f : Coll → Coll) (s : State) : (modColl t f s).clk = s.clk := rfl
@[simp] theorem modColl_fuse (t : Nat) (f : Coll → Coll) (s : State) : (modColl t f s).fuse = s.fuse := rfl
@[simp] theorem modColl_regs (t : Nat) (f : Coll → Coll) (s : State) : (modColl t f s).regs = s.regs := rfl
@[simp] theorem modColl_mem (t : Nat) (f : Coll → Coll) (s : State) : (modColl t f s).mem = s.mem := rfl
@[simp] theorem modColl_cores (t : Nat) (f : Coll → Coll) (s : State) : (modColl t f s).cores = s.cores := rfl
@[simp] theorem modColl_links (t : Nat) (f : Coll → Coll) (s : State) : (modColl t f s).links = s.links := rfl
@[simp] theorem modColl_host (t : Nat) (f : Coll → Coll) (s : State) : (modColl t f s).host = s.host := rfl
@[simp] theorem modColl_dict (t : Nat) (f : Coll → Coll) (s : State) : (modColl t f s).dict = s.dict := rfl
@[simp] theorem modColl_cal (t : Nat) (f : Coll → Coll) (s : State) : (modColl t f s).cal = s.cal := rfl
@[simp] theorem modColl_pow (t : Nat) (f : Coll → Coll) (s : State) : (modColl t f s).pow = s.pow := rfl
@[simp] theorem modColl_run (t : Nat) (f : Coll → Coll) (s : State) : (modColl t f s).run = s.run := rfl

/-! ### modCommit -/

@[simp] theorem modCommit_pending (f : Commit → Commit) (s : State) : (modCommit f s).pending = s.pending := rfl
@[simp] theorem modCommit_clk (f : Commit → Commit) (s : State) : (modCommit f s).clk = s.clk := rfl
@[simp] theorem modCommit_fuse (f : Commit → Commit) (s : State) : (modCommit f s).fuse = s.fuse := rfl
@[simp] theorem modCommit_regs (f : Commit → Commit) (s : State) : (modCommit f s).regs = s.regs := rfl
@[simp] theorem modCommit_mem (f : Commit → Commit) (s : State) : (modCommit f s).mem = s.mem := rfl
@[simp] theorem modCommit_cores (f : Commit → Commit) (s : State) : (modCommit f s).cores = s.cores := rfl
@[simp] theorem modCommit_links (f : Commit → Commit) (s : State) : (modCommit f s).links = s.links := rfl
@[simp] theorem modCommit_host (f : Commit → Commit) (s : State) : (modCommit f s).host = s.host := rfl
@[simp] theorem modCommit_cal (f : Commit → Commit) (s : State) : (modCommit f s).cal = s.cal := rfl
@[simp] theorem modCommit_pow (f : Commit → Commit) (s : State) : (modCommit f s).pow = s.pow := rfl
@[simp] theorem modCommit_run (f : Commit → Commit) (s : State) : (modCommit f s).run = s.run := rfl

/-! ### modPatrol -/

@[simp] theorem modPatrol_pending (b : Bool) (f : Patrol → Patrol) (s : State) : (modPatrol b f s).pending = s.pending := rfl
@[simp] theorem modPatrol_clk (b : Bool) (f : Patrol → Patrol) (s : State) : (modPatrol b f s).clk = s.clk := rfl
@[simp] theorem modPatrol_fuse (b : Bool) (f : Patrol → Patrol) (s : State) : (modPatrol b f s).fuse = s.fuse := rfl
@[simp] theorem modPatrol_regs (b : Bool) (f : Patrol → Patrol) (s : State) : (modPatrol b f s).regs = s.regs := rfl
@[simp] theorem modPatrol_mem (b : Bool) (f : Patrol → Patrol) (s : State) : (modPatrol b f s).mem = s.mem := rfl
@[simp] theorem modPatrol_cores (b : Bool) (f : Patrol → Patrol) (s : State) : (modPatrol b f s).cores = s.cores := rfl
@[simp] theorem modPatrol_links (b : Bool) (f : Patrol → Patrol) (s : State) : (modPatrol b f s).links = s.links := rfl
@[simp] theorem modPatrol_host (b : Bool) (f : Patrol → Patrol) (s : State) : (modPatrol b f s).host = s.host := rfl
@[simp] theorem modPatrol_dict (b : Bool) (f : Patrol → Patrol) (s : State) : (modPatrol b f s).dict = s.dict := rfl
@[simp] theorem modPatrol_cal (b : Bool) (f : Patrol → Patrol) (s : State) : (modPatrol b f s).cal = s.cal := rfl
@[simp] theorem modPatrol_pow (b : Bool) (f : Patrol → Patrol) (s : State) : (modPatrol b f s).pow = s.pow := rfl
@[simp] theorem modPatrol_run (b : Bool) (f : Patrol → Patrol) (s : State) : (modPatrol b f s).run = s.run := rfl

/-! ### deliver -/

@[simp] theorem deliver_pending (k : Nat) (f : Flit) (s : State) : (deliver k f s).pending = s.pending := rfl
@[simp] theorem deliver_clk (k : Nat) (f : Flit) (s : State) : (deliver k f s).clk = s.clk := rfl
@[simp] theorem deliver_fuse (k : Nat) (f : Flit) (s : State) : (deliver k f s).fuse = s.fuse := rfl
@[simp] theorem deliver_regs (k : Nat) (f : Flit) (s : State) : (deliver k f s).regs = s.regs := rfl
@[simp] theorem deliver_mem (k : Nat) (f : Flit) (s : State) : (deliver k f s).mem = s.mem := rfl
@[simp] theorem deliver_cores (k : Nat) (f : Flit) (s : State) : (deliver k f s).cores = s.cores := rfl
@[simp] theorem deliver_links (k : Nat) (f : Flit) (s : State) : (deliver k f s).links = s.links := rfl
@[simp] theorem deliver_host (k : Nat) (f : Flit) (s : State) : (deliver k f s).host = s.host := rfl
@[simp] theorem deliver_dict (k : Nat) (f : Flit) (s : State) : (deliver k f s).dict = s.dict := rfl
@[simp] theorem deliver_cal (k : Nat) (f : Flit) (s : State) : (deliver k f s).cal = s.cal := rfl
@[simp] theorem deliver_pow (k : Nat) (f : Flit) (s : State) : (deliver k f s).pow = s.pow := rfl
@[simp] theorem deliver_run (k : Nat) (f : Flit) (s : State) : (deliver k f s).run = s.run := rfl

/-! ### setSelector -/

@[simp] theorem setSelector_pending (t : Transport) (i v : Nat) (s : State) : (setSelector t i v s).pending = s.pending := rfl
@[simp] theorem setSelector_clk (t : Transport) (i v : Nat) (s : State) : (setSelector t i v s).clk = s.clk := rfl
@[simp] theorem setSelector_fuse (t : Transport) (i v : Nat) (s : State) : (setSelector t i v s).fuse = s.fuse := rfl
@[simp] theorem setSelector_regs (t : Transport) (i v : Nat) (s : State) : (setSelector t i v s).regs = s.regs := rfl
@[simp] theorem setSelector_mem (t : Transport) (i v : Nat) (s : State) : (setSelector t i v s).mem = s.mem := rfl
@[simp] theorem setSelector_cores (t : Transport) (i v : Nat) (s : State) : (setSelector t i v s).cores = s.cores := rfl
@[simp] theorem setSelector_links (t : Transport) (i v : Nat) (s : State) : (setSelector t i v s).links = s.links := rfl
@[simp] theorem setSelector_host (t : Transport) (i v : Nat) (s : State) : (setSelector t i v s).host = s.host := rfl
@[simp] theorem setSelector_cal (t : Transport) (i v : Nat) (s : State) : (setSelector t i v s).cal = s.cal := rfl
@[simp] theorem setSelector_pow (t : Transport) (i v : Nat) (s : State) : (setSelector t i v s).pow = s.pow := rfl
@[simp] theorem setSelector_run (t : Transport) (i v : Nat) (s : State) : (setSelector t i v s).run = s.run := rfl

/-! ### setSlot -/

@[simp] theorem setSlot_pending (k : Nat) (x : RecSlot) (s : State) : (setSlot k x s).pending = s.pending := rfl
@[simp] theorem setSlot_clk (k : Nat) (x : RecSlot) (s : State) : (setSlot k x s).clk = s.clk := rfl
@[simp] theorem setSlot_fuse (k : Nat) (x : RecSlot) (s : State) : (setSlot k x s).fuse = s.fuse := rfl
@[simp] theorem setSlot_regs (k : Nat) (x : RecSlot) (s : State) : (setSlot k x s).regs = s.regs := rfl
@[simp] theorem setSlot_mem (k : Nat) (x : RecSlot) (s : State) : (setSlot k x s).mem = s.mem := rfl
@[simp] theorem setSlot_cores (k : Nat) (x : RecSlot) (s : State) : (setSlot k x s).cores = s.cores := rfl
@[simp] theorem setSlot_links (k : Nat) (x : RecSlot) (s : State) : (setSlot k x s).links = s.links := rfl
@[simp] theorem setSlot_host (k : Nat) (x : RecSlot) (s : State) : (setSlot k x s).host = s.host := rfl
@[simp] theorem setSlot_dict (k : Nat) (x : RecSlot) (s : State) : (setSlot k x s).dict = s.dict := rfl
@[simp] theorem setSlot_cal (k : Nat) (x : RecSlot) (s : State) : (setSlot k x s).cal = s.cal := rfl
@[simp] theorem setSlot_pow (k : Nat) (x : RecSlot) (s : State) : (setSlot k x s).pow = s.pow := rfl
@[simp] theorem setSlot_run (k : Nat) (x : RecSlot) (s : State) : (setSlot k x s).run = s.run := rfl

/-! ### Items after a change -/

/-- An item of a list after one item has been changed by a function that keeps a property of it. -/
theorem nth_upd_keeps {α β : Type} (d : α) (f : α → α) (g : α → β) (h : ∀ a, g (f a) = g a) (l : List α) (i j : Nat) :
    g (nth d (upd f l i) j) = g (nth d l j) := by
  simp only [nth, upd, List.getD_eq_getElem?_getD, List.getElem?_modify]
  by_cases hij : i = j
  · subst hij
    cases l[i]? <;> simp [h]
  · simp [hij]

/-- What a change of a core keeps, every core keeps. -/
theorem coreOf_modCore_keeps {β : Type} (g : Core → β) (c d : Nat) (f : Core → Core) (h : ∀ k, g (f k) = g k) (s : State) :
    g (coreOf d (modCore c f s)) = g (coreOf d s) := nth_upd_keeps _ f g h s.cores c d

/-- What a change of a link keeps, every link keeps. -/
theorem linkOf_modLink_keeps {β : Type} (g : Link → β) (c d : Nat) (f : Link → Link) (h : ∀ k, g (f k) = g k) (s : State) :
    g (linkOf d (modLink c f s)) = g (linkOf d s) := nth_upd_keeps _ f g h s.links c d

/-- What a change of a queue pair keeps, every queue pair keeps. -/
theorem queueOf_modQueue_keeps {β : Type} (g : Queue → β) (c d : Nat) (f : Queue → Queue) (h : ∀ k, g (f k) = g k) (s : State) :
    g (queueOf d (modQueue c f s)) = g (queueOf d s) := nth_upd_keeps _ f g h s.host.queues c d

/-- A core changed reads as changed. -/
theorem coreOf_modCore_self (c : Nat) (f : Core → Core) (s : State) (h : c < s.cores.length) :
    coreOf c (modCore c f s) = f (coreOf c s) := by
  simp [coreOf, modCore, nth, upd, List.getD_eq_getElem?_getD, h]

/-- Another core reads as before. -/
theorem coreOf_modCore_ne (c d : Nat) (f : Core → Core) (s : State) (h : c ≠ d) : coreOf d (modCore c f s) = coreOf d s := by
  simp [coreOf, modCore, nth, upd, List.getD_eq_getElem?_getD, h]

end Sys2Proof.Machine
end

