-- ==== Sys2Proof/Tests/Slice0.lean ====
section
/-! SUPPORT. Tests: small states, a witness of the hypotheses of every clause of the obligations, the smoke test of well-formedness,
and worked examples of the spec. -/

namespace Sys2Proof.Tests

open Sys2Proof Sys2Proof.Machine

set_option Elab.async false
set_option maxRecDepth 20000
set_option exponentiation.threshold 1100
set_option linter.unusedVariables false
set_option linter.unusedSimpArgs false

/-! ### Small states -/

/-- The module after bring-up, nothing started. -/
def stUp : State :=
  { State.reset with boot := { Boot.init with fwRunning := true, stepDone := 7, ready := true, memoryActive := true } }

/-- The I3C writer. -/
def wI3c : Writer := ⟨.i3c, 0⟩

/-- A Count to slew, `o` ticks from its source. -/
def stSlew (o : Int) : State := { stUp with tim := { stUp.tim with servo := .locked, lost := false, offset := o } }

/-- A held Count, `n` ticks before its source. -/
def stHeld (n : Nat) : State := { stUp with clk := ⟨5, true, true, n, 10000000000⟩ }

/-- A step of the Count that is due. -/
def stStep (o : Int) : State := { stUp with tim := { stUp.tim with servo := .holdover, stepDue := true, offset := o } }

/-- A PTP flit. -/
def flPtp : Flit := ⟨BitVec.ofNat 128 (3 * 2 ^ 126 + 5 * 2 ^ 120), []⟩

/-- A PTP flit in the buffer of a slave port that is calibrated. -/
def stPtp : State := wr (Obj.ASYM_VALID 0) 1 (modLink 0 (fun l => { l with ptpRx := [(flPtp, 100, 50)] })
  { stUp with net := { stUp.net with local_ := [(0, flPtp)] } })

/-- Mode 1, with a time written for the next edge. -/
def stPps : State := wr Obj.TIME_MODE 1 { stUp with tim := { stUp.tim with tod := some (7, 0) } }

/-- A locked servo in a mode, its Count held. -/
def stLocked (m : Nat) : State :=
  wr Obj.TIME_MODE m { stUp with
    clk := ⟨5, true, true, 3, 10000000000⟩
    tim := { stUp.tim with servo := .locked, lost := false, ppsSeen := true } }

/-- Ten seconds of holdover with the Caller firing. -/
def stHoldover : State :=
  { stUp with
    clk := ⟨10000000000, true, false, 0, 10000000000⟩
    tim := { stUp.tim with servo := .holdover, holdoverAt := some 0 }
    cal := { stUp.cal with firing := true } }

/-- The Count just set, at a whole second. -/
def stSet : State := { stUp with clk := ⟨0, true, false, 0, 10000000000⟩ }

/-- TIME_PPS_OUT high for 100 ms. -/
def stPulse : State := { stUp with clk := ⟨100000000, true, false, 0, 10000000000⟩, tim := { stUp.tim with ppsOut := true } }

/-- The Caller firing, the measure boundary acted on. -/
def stFiring : State := { stUp with cal := { stUp.cal with firing := true, lastMeasure := some 0 } }

/-- The Caller firing, to stop at the boundary that has come. -/
def stStopDue : State := { stUp with cal := { stUp.cal with firing := true, stopDue := some .holdover } }

/-- A module in Sit-out. -/
def stSitout : State := wr Obj.FAULT_STATE 1 stUp

/-- A figure that names flag 5. -/
def figTest : Fig := { Fig.init with param := 5 }

/-- One figure in flight. -/
def stFig : State := { stUp with cal := { stUp.cal with figs := [figTest] } }

/-- A PHASE figure whose functions have stopped. -/
def stPhase : State := { stUp with trn := { stUp.trn with phase := some ⟨0, 0, 0, []⟩ } }

/-- Core 0 about to issue the command `w`. -/
def stCmd (w : Nat) : State :=
  wrSector (coreSector 0 0) (encodeSector (BitVec.ofNat 256 w))
    { stUp with cores := stUp.cores.set 0 { Core.init with status := 1, task := some 0 } }

/-- The same core changed. -/
def stCore (f : Core → Core) (w : Nat) : State := modCore 0 f (stCmd w)

/-- Its LOOP counters at 1. -/
def stLast : Nat → State := stCore fun k => { k with ctrs := [1, 1, 1, 1] }

/-- A VOP in flight. -/
def stVops : Nat → State := stCore fun k => { k with vops := [VopFlight.init] }

/-- A read stream with a ring of 4 sectors, none filled. -/
def streamTest : Stream := { Stream.init with hdr := BitVec.ofNat 256 (4 * 2 ^ 200) }

/-- That stream running on engine 0. -/
def stStream : Nat → State := stCore fun k => { k with engines := k.engines.set 0 { Engine.init with run := some streamTest } }

/-- A command that has waited a beat with TIMEOUT 1. -/
def stWaiting (w : Nat) : State :=
  { stCore (fun k => { k with status := 2, waitAt := some 0, waitTmo := 1 }) w with clk := ⟨65536, false, false, 0, 10000000000⟩ }

/-- An open group on array 0. -/
def stGroup : Nat → State := stCore fun k => { k with arrays := k.arrays.set 0 { Array.init with group := some 1 } }

/-- Array 1 with its shadow in a state. -/
def stShadow (x : ShadowState) : State := modArray 0 1 (fun y => { y with shadow := x }) stUp

/-- The same before a command. -/
def stShadowCmd (x : ShadowState) (w : Nat) : State := modArray 0 1 (fun y => { y with shadow := x }) (stCmd w)

/-- A pass in flight on array 1. -/
def stFlight : State := modArray 0 1 (fun y => { y with flight := [PassFlight.init] }) stUp

/-- A pass that drains one byte. -/
def flightW : PassFlight := { PassFlight.init with writes := [(0, 1)] }

/-- That pass in flight on array 1. -/
def stFlightW : State := modArray 0 1 (fun y => { y with flight := [flightW] }) stUp

/-- A computation over operands that has ended with a value ends with that value. -/
theorem okOf {α : Type} (d : α) (p : Except (Nat × Nat) α × State)
    (h : (match p.1 with | .ok _ => true | .error _ => false) = true) :
    p = (.ok (match p.1 with | .ok v => v | .error _ => d), p.2) := by
  obtain ⟨a, b⟩ := p
  cases a <;> simp_all

/-- The value such a computation ends with. -/
def gotOf {α : Type} (d : α) (p : Except (Nat × Nat) α × State) : α := match p.1 with | .ok v => v | .error _ => d

/-- A pass over arrays that has met no fault. -/
theorem noneOf (p : Option (Nat × Nat) × State) (h : p.1 = none) : p = (none, p.2) := by
  obtain ⟨a, b⟩ := p
  exact congrArg (·, b) h

/-- VOP ADD of one FP32 element. -/
def wVop : BitVec 256 := BitVec.ofNat 256 (0x10 * 2 ^ 248 + 1 * 2 ^ 240)

/-- Core 0 about to issue it, and the state once it has been read. -/
def stVop : State := stCmd (0x10 * 2 ^ 248 + 1 * 2 ^ 240)
def rdVop : State := (consumeClean (coreSector 0 0) stVop).2

/-- PASS OPEN of one BF16 vector on array 0. -/
def wPass : BitVec 256 := BitVec.ofNat 256 (4 * 2 ^ 248 + 2 ^ 244 + 1 * 2 ^ 240 + 1 * 2 ^ 237)

/-- Core 0 about to issue it with a BF16 set active, and the state once it has been read. -/
def stPass : State :=
  modArray 0 0 (fun y => { y with active := some { WeightSet.init with
    cmd := BitVec.ofNat 256 (2 * 2 ^ 248 + 2 ^ 244 + 1 * 2 ^ 240 + 1 * 2 ^ 236) } })
    (stCmd (4 * 2 ^ 248 + 2 ^ 244 + 1 * 2 ^ 240 + 1 * 2 ^ 237))
def rdPass : State := (consumeClean (coreSector 0 0) stPass).2

/-- LOAD_W of a BF16 set for array 0, every row at sector 1000; core 0 about to issue it, and the state once it has been read. -/
def wLoad : BitVec 256 := BitVec.ofNat 256 (2 * 2 ^ 248 + 2 ^ 244 + 1 * 2 ^ 240 + 1 * 2 ^ 236 + 1000 * 2 ^ 213)
def stLoad : State := stCmd (2 * 2 ^ 248 + 2 ^ 244 + 1 * 2 ^ 240 + 1 * 2 ^ 236 + 1000 * 2 ^ 213)
def rdLoad : State := (consumeClean (coreSector 0 0) stLoad).2

/-- The same set from the Floor, with a line of its rows held by the host. -/
def wFloor : BitVec 256 := BitVec.ofNat 256 (2 * 2 ^ 248 + 2 ^ 244 + 1 * 2 ^ 240 + 1 * 2 ^ 236 + 2 ^ 235 + 1000 * 2 ^ 213)
def stLoadFloor : State :=
  let s := stCmd (2 * 2 ^ 248 + 2 ^ 244 + 1 * 2 ^ 240 + 1 * 2 ^ 236 + 2 ^ 235 + 1000 * 2 ^ 213)
  { s with host := { s.host with snoop := [((0x14000000000 / 32 + 1000) / 2, true)] } }

theorem feed_bind {α β : Type} (x : Feed α) (f : α → Feed β) (s : State) :
    (x >>= f) s = (match x s with | (.ok v, t) => f v t | (.error e, t) => (.error e, t)) := by
  show (ExceptT.bind x f) s = _
  simp only [ExceptT.bind, ExceptT.mk, bind, StateT.bind]
  cases h : x s with
  | mk a b => cases a <;> rfl

theorem feed_const {α β : Type} (x : Feed α) (v : α) (s : State) (h : x s = (.ok v, s)) (l : List β) :
    (l.mapM (fun _ => x) : Feed (List α)) s = (.ok (l.map fun _ => v), s) := by
  induction l with
  | nil => rfl
  | cons a l ih =>
    simp only [List.mapM_cons, List.map_cons, feed_bind, h, ih]
    rfl

theorem feed_rows {α β γ : Type} (x : Feed α) (v : α) (u : State) (l : List β) (h : x u = (.ok v, u)) (g : List α → Feed γ) :
    ((l.mapM fun _ => x) >>= g) u = g (l.map fun _ => v) u := by
  rw [feed_bind, feed_const x v u h l]

theorem load_row : Reader.sectors ⟨0, 5, [], []⟩ false 1000 8 rdLoad = (.ok 0, rdLoad) := by
  have h1 : (match (Reader.sectors ⟨0, 5, [], []⟩ false 1000 8 rdLoad).1 with | .ok v => v == 0 | .error _ => false) = true := by
    decide +kernel
  have h2 : (Reader.sectors ⟨0, 5, [], []⟩ false 1000 8 rdLoad).2 = rdLoad := by decide +kernel
  generalize Reader.sectors ⟨0, 5, [], []⟩ false 1000 8 rdLoad = y at h1 h2
  obtain ⟨a, b⟩ := y
  cases a with
  | error e => simp at h1
  | ok v => simp only [beq_iff_eq] at h1; simp only at h2; rw [h1, h2]

def setLoad : WeightSet :=
  { cmd := wLoad, rows := (List.range 128).map (fun _ => leBytes 256 0), scales := [] }

theorem load_set : readSet ⟨0, 5, [], []⟩ wLoad.toNat rdLoad = (.ok setLoad, rdLoad) := by
  have h3 : ∀ i, fld wLoad.toNat 234 213 + i * fld wLoad.toNat 212 197 = 1000 := by
    intro i
    rw [show fld wLoad.toNat 212 197 = 0 from by decide, show fld wLoad.toNat 234 213 = 1000 from by decide]
    simp
  unfold readSet
  generalize hr : rdLoad = u
  have h4 := load_row
  rw [hr] at h4
  simp only [show fld wLoad.toNat 243 240 = 1 from by decide, show (passDepth 1 (fld wLoad.toNat 239 236)).getD 1 = 1 from by decide,
    show bitOf wLoad.toNat 235 = false from by decide, show isMx 1 = false from by decide,
    show 128 * 1 * fmtWidth 1 / 256 = 8 from by decide, h3]
  refine (feed_rows _ _ _ _ h4 _).trans ?_
  have hw : BitVec.ofNat 256 wLoad.toNat = wLoad := by decide
  simp only [hw, setLoad, List.map_map, Function.comp_def, Bool.false_eq_true, if_false]
  rfl

/-- The link up, queue 0 with one entry in a ring of 16. -/
def stHost : State :=
  wr (Obj.QUEUE_ENABLE 0) 1 (wr (Obj.SQ_SIZE 0) 16 { stUp with host := { stUp.host with
    up := true, queues := stUp.host.queues.set 0 { Queue.init with tail := 1 } } })

/-- A TASK for core 0 that starts at once, one with a reserved START, and a BARRIER. -/
def entTask : BitVec 1024 := BitVec.ofNat 1024 (1 * 2 ^ 1016 + 2 ^ 983)
def entBad : BitVec 1024 := BitVec.ofNat 1024 (1 * 2 ^ 1016 + 2 ^ 983 + 7 * 2 ^ 978)
def entBarrier : BitVec 1024 := BitVec.ofNat 1024 (3 * 2 ^ 1016)

/-- That task taken, one of PRIO 1 with CID 1, and one on cores 0 and 1 with a spill tensor. -/
def tskTest : Task := { Task.init with body := entTask }
def tskRun : Task := { tskTest with state := .running }
def tskHigh : Task := { Task.init with body := BitVec.ofNat 1024 (1 * 2 ^ 1016 + 1 * 2 ^ 1000 + 2 ^ 983 + 1 * 2 ^ 981) }
def tskTwo : Task := { Task.init with body := BitVec.ofNat 1024 (1 * 2 ^ 1016 + 3 * 2 ^ 983 + 9 * 2 ^ 872), state := .running }

/-- Cores and streams running. -/
def stRuns : State := { stUp with run := List.replicate 7 .running }

/-- The task waiting, and the task of PRIO 1 waiting while the other one runs on core 0. -/
def stTask : State := { stRuns with tasks := [tskTest] }
def stClaim : State := modCore 0 (fun k => { k with task := some 0, status := 1 }) { stRuns with tasks := [tskTwo, tskHigh] }

/-- A task whose cores are pre-empting. -/
def stPre1 : State :=
  modCore 0 (fun k => { k with task := some 0, status := 3, preempting := true })
    { stRuns with tasks := [tskRun] }
def stPre2 : State :=
  modCore 1 (fun k => { k with task := some 0, status := 3, preempting := true })
    (modCore 0 (fun k => { k with task := some 0, status := 3, preempting := true }) { stRuns with tasks := [tskTwo] })

/-- A pre-empted task. -/
def tskSaved : Task := { tskTest with state := .preempted, saved := [(0, Core.init)] }
def stResume : State := { stRuns with tasks := [tskSaved] }

/-- A read stream of two Floor sectors into a ring at sector 64, by an EMIT and an END, its descriptor at sector 4 of core 0. -/
def hdrStart : Nat := 1 * 2 ^ 251 + 64 * 2 ^ 222 + 4 * 2 ^ 200 + 1 * 2 ^ 96
def progStart : Nat := 3 * 2 ^ 60 + 1
def wStart : BitVec 256 := BitVec.ofNat 256 (0x20 * 2 ^ 248 + 4 * 2 ^ 227)
def stStart : State :=
  wrSector (coreSector 0 5) (encodeSector (BitVec.ofNat 256 progStart))
    (wrSector (coreSector 0 4) (encodeSector (BitVec.ofNat 256 hdrStart)) (stCmd (0x20 * 2 ^ 248 + 4 * 2 ^ 227)))
def rdStart : State := (consumeClean (coreSector 0 0) stStart).2

/-- A descriptor of zeros, with a ring of no sector, at sector 8. -/
def wBadStart : BitVec 256 := BitVec.ofNat 256 (0x20 * 2 ^ 248 + 8 * 2 ^ 227)
def stBadStart : State := stCmd (0x20 * 2 ^ 248 + 8 * 2 ^ 227)
def rdBadStart : State := (consumeClean (coreSector 0 0) stBadStart).2

/-- A write stream with two sectors produced and none accepted. -/
def streamOut : Stream :=
  { Stream.init with hdr := BitVec.ofNat 256 (1 * 2 ^ 253 + 4 * 2 ^ 200), produced := 2, prog := [BitVec.ofNat 64 (3 * 2 ^ 60 + 3)] }
def stStreamW : Nat → State := stCore fun k => { k with engines := k.engines.set 0 { Engine.init with run := some streamOut } }

/-- A stream on engine 0 of core 0. -/
def stWith (x : Stream) : State := modCore 0 (fun k => { k with engines := k.engines.set 0 { Engine.init with run := some x } }) stUp

/-- A read stream of the Floor with a ring of 4 sectors, its first offset named; and with it in flight. -/
def hdrFloor : BitVec 256 := BitVec.ofNat 256 (1 * 2 ^ 251 + 4 * 2 ^ 200)
def streamFloor : Stream := { Stream.init with hdr := hdrFloor, todo := [some 0] }
def stReader : State := stWith streamFloor
def reqFly : FarReq := { FarReq.init with far := some (2 ^ 36) }
def streamFly : Stream := { Stream.init with hdr := hdrFloor, inFlight := [reqFly] }
def stArrive : State := stWith streamFly

/-- The same held on a moving tensor. -/
def stHeldStream : State := stWith { streamFloor with held := true }

/-- A write stream to the Floor with one sector produced; and with it sent. -/
def hdrOut : BitVec 256 := BitVec.ofNat 256 (1 * 2 ^ 253 + 1 * 2 ^ 251 + 4 * 2 ^ 200)
def streamSend : Stream := { Stream.init with hdr := hdrOut, produced := 1, todo := [some 0] }
def stWriter : State := stWith streamSend
def streamSent : Stream := { Stream.init with hdr := hdrOut, produced := 1, sent := 1, inFlight := [reqFly] }
def stSent : State := stWith streamSent

/-- Tensor 7 resident with a WINDOW_MODE, and a read stream of it. -/
def stWindow (m : Nat) : State := setTensor 7 { entryOf 0 with state := 1, windowMode := m } stUp
def hdrWin : BitVec 256 := BitVec.ofNat 256 (4 * 2 ^ 200 + 7 * 2 ^ 176)

/-- The link up and a decoder that maps the first 256 MiB at host address 2^28. -/
def stMapped : State :=
  { stUp with host := { stUp.host with up := true, decoders := stUp.host.decoders.set 0 ⟨true, 2 ^ 28, 2 ^ 28, 0, false⟩ } }

/-- A snoop of line 4 unanswered. -/
def stSnoop : State := { stUp with host := { stUp.host with snoop := [(4, true)], snoopWait := [(4, none)] } }

/-- The same BI_TIMEOUT later. -/
def stSnoopLate : State := { stSnoop with host := { stSnoop.host with snoopSent := [(4, 0)] }, clk := { stSnoop.clk with ticks := 10 ^ 15 } }

/-- The link up and queue 0 enabled with rings of 16. -/
def stHost2 : State :=
  wr (Obj.QUEUE_ENABLE 0) 1 (wr (Obj.CQ_SIZE 0) 16 (wr (Obj.SQ_SIZE 0) 16 { stUp with host := { stUp.host with up := true } }))

/-- The coalescing timer of queue 0 running. -/
def stTimer : State := modQueue 0 (fun x => { x with timer := true }) stHost2

/-- The link down, LINKDOWN_CANCEL at 1 s passed. -/
def stDown : State :=
  wr Obj.LINKDOWN_CANCEL 1 { stUp with pow := { stUp.pow with opTime := 16 }, host := { stUp.host with downAt := some 0 } }

/-- Stack 0 lost. -/
def stLost : State := { stUp with mo := { stUp.mo with lost := [(0, 5)] } }

/-- A write-combining entry that has waited. -/
def entWc : WcEntry := { WcEntry.init with addr := 3, mask := 1 }
def stWc : State := { stUp with clk := ⟨100000, true, false, 0, 20000000000⟩, mo := { stUp.mo with wc := [entWc] } }

/-- A pseudo-channel with a debt of 4. -/
def stDebt : State := { stUp with mo := { stUp.mo with debt := [(5, 4)] } }

/-- A RETRAIN figure that owes channel 7, with a deadline. -/
def stRetrain (d : Nat) : State :=
  { stUp with mo := { stUp.mo with figTodo := [⟨0, [7]⟩] }, cal := { stUp.cal with figs := [{ Fig.init with deadline := d }] } }

/-- Channel 7 in a retrain hold. -/
def stHold (urgent second : Bool) : State := { stUp with mo := { stUp.mo with training := [⟨7, second, urgent, 0⟩] } }

/-- Channel 7 alarmed. -/
def stAlarm : State := { stUp with mo := { stUp.mo with alarms := [7] } }

/-- The fast patrol running, and past its period. -/
def stPatrol : State := { stUp with mo := { stUp.mo with patrolFast := { Patrol.init with active := true } } }
def stLate : State := { stPatrol with clk := { stPatrol.clk with ticks := 10 ^ 15 } }

/-- Stack 2 Capped, package 1 Hot, both cool for long. -/
def stCapped : State := { stUp with mo := { stUp.mo with thermal := stUp.mo.thermal.set 2 2, below92 := [(2, 1)] }, clk := { stUp.clk with ticks := 20000000000 } }
def stHot : State := { stUp with mo := { stUp.mo with thermal := stUp.mo.thermal.set 9 1, below83 := [(9, 1)] }, clk := { stUp.clk with ticks := 20000000000 } }

/-- The traffic generator of channel 7 running over one sector. -/
def stTg : State := { stUp with mo := { stUp.mo with tgs := [(7, { Tg.init with status := 1, count := 1 })] } }

/-- A collective slot held. -/
def stSlot : State := { stUp with col := { stUp.col with slots := [Coll.init] } }

/-- The link up, queue 0 with one entry in a ring of 16. -/
def stHost3 : State :=
  wr (Obj.QUEUE_ENABLE 0) 1 (wr (Obj.SQ_SIZE 0) 16 { stUp with host := { stUp.host with
    up := true, queues := stUp.host.queues.set 0 { Queue.init with tail := 1 } } })

/-- A DESTROY of tensor 9, and one with a reserved bit set. -/
def entDestroy : BitVec 1024 := BitVec.ofNat 1024 (2 * 2 ^ 1016 + 2 * 2 ^ 504 + 9 * 2 ^ 480)
def entDestroyBad : BitVec 1024 := BitVec.ofNat 1024 (2 * 2 ^ 1016 + 2 * 2 ^ 504 + 9 * 2 ^ 480 + 2 ^ 600)

/-- The image of a tensor of one BF16 sector. -/
def imgTest : Nat := entryBits { entryOf 0 with fmt := 1, elements := 16, data := 1, size := 1 }

/-- Commands on tensor 9. -/
def jobCreate : DirJob := { DirJob.init with cmd := BitVec.ofNat 256 (1 * 2 ^ 248 + 9 * 2 ^ 224 + 5 * 2 ^ 184), image := BitVec.ofNat 256 imgTest }
def jobDestroy : DirJob := { DirJob.init with cmd := BitVec.ofNat 256 (2 * 2 ^ 248 + 9 * 2 ^ 224) }
def jobMove : DirJob := { DirJob.init with cmd := BitVec.ofNat 256 (3 * 2 ^ 248 + 9 * 2 ^ 224 + 1 * 2 ^ 221 + (2 ^ 34) * 2 ^ 184) }
def jobWaiting : DirJob := { jobMove with phase := .waitRefs }
def jobCopying : DirJob := { jobMove with phase := .copying }

/-- Tensor 9 resident at sector 5, with `r` references. -/
def stTensor (r : Nat) : State :=
  setTensor 9 { entryOf 0 with state := 1, fmt := 1, elements := 16, data := 1, size := 1, home := 5, refs := r } stUp

/-- Its move waiting for references, and being copied. -/
def stWaiting6 : State := { stTensor 0 with jobs := [jobWaiting] }
def stCopying : State := { stTensor 0 with jobs := [jobCopying] }

/-- Tensor 9 with an uncorrectable home sector. -/
def stBadHome : State := wrSector 5 ⟨0x030201#256, 0#32⟩ (stTensor 0)

theorem copySectors_bad : copySectors 5 4 1 stBadHome = (false, (consumeClean 5 stBadHome).2) := by
  have h : decodeSector (disturb (readOverlay 5 stBadHome) 0) = .bad := by
    rw [show disturb (readOverlay 5 stBadHome) 0 = ⟨0x030201#256, 0#32⟩ from by decide +kernel]; exact decodeSector_three
  have h2 : decodeSector (disturb (rdSector 5 stBadHome) 0) = .bad := by
    rw [show disturb (rdSector 5 stBadHome) 0 = ⟨0x030201#256, 0#32⟩ from by decide +kernel]; exact decodeSector_three
  have h3 : (consumeClean 5 stBadHome).1 = none := by
    have h0 : overlayNote 5 stBadHome = stBadHome := by
      simp only [overlayNote, show wcEntry 5 stBadHome = none from by decide +kernel]
    simp only [consumeClean, consume, h0, h, h2]
  simp only [copySectors]
  rw [show consumeClean 5 stBadHome = (none, (consumeClean 5 stBadHome).2) from by rw [← h3]]

/-- The update function running, set 3 valid with no tensors, and kept. -/
def stUpd : State := wr (Obj.SET_W 5 3) (2 ^ 63) { stUp with run := List.replicate 7 .running }
/-- Set 3 with tensor 9, resident with one carry block, as each of its tensors. -/
def withSet (s : State) : State :=
  setTensor 9 { entryOf 0 with state := 1, fmt := 8, elements := 32, data := 4, size := 5, home := 5 }
    (wr (Obj.SET_W 5 3) (2 ^ 63 + 9 * 2 ^ 17) (wr (Obj.SET_W 4 3) (9 * 2 ^ 57 + 9 * 2 ^ 33 + 9 * 2 ^ 9)
      (wr (Obj.SET_W 3 3) (9 * 2 ^ 49) s)))
def stKept : State := withSet { stUpd with upd := { stUpd.upd with kept := [3] } }

/-- Set 3 begun over a landing of one block, tensor 9. -/
def runSet : SetRun := { SetRun.init with set_ := 3, moments := 1, masters := 1 }
def stSetRun : State := withSet { stUpd with upd := { stUpd.upd with sets := [runSet] } }
def stDelta : State := { stSetRun with upd := { stSetRun.upd with deltas := [⟨3, 0, []⟩] } }

/-- A block waiting at unit 0, with the update function stopped and running. -/
def blkTest : BlockRun := { BlockRun.init with set_ := 3 }
def stQueued : State := { stUp with upd := { stUp.upd with units := [(0, { UpdUnit.init with queue := [blkTest] })] } }
def stQueuedTrain : State := { stQueued with mo := { stQueued.mo with figTodo := [⟨0, [0]⟩] } }
def stQueuedRun : State := withSet { stUpd with upd := { stUpd.upd with units := [(0, { UpdUnit.init with queue := [blkTest] })] } }

/-- The step of that block running with an empty program, and with a moment body of one instruction. -/
def stStepRun : State := { stUpd with upd := { stUpd.upd with sets := [runSet], units := [(0, { UpdUnit.init with step := [blkTest] })] } }
def stInstr (x : Nat) : State := wr (Obj.PROG_HEADER 0) (1 * 2 ^ 46) (wr (Obj.PROG_WORD 3 0) x stStepRun)

/-- A block with an infinity in register 0 of its one lane. -/
def blkInf : BlockRun := { blkTest with lanes := [{ Lane.init with f := (List.replicate 16 0#32).set 0 0x7F800000#32 }], state := List.replicate 32 0 }
def stInf : State :=
  wr (Obj.PROG_HEADER 0) (1 * 2 ^ 46) (wr (Obj.PROG_WORD 3 0) (0x11 * 2 ^ 26)
    { stUpd with upd := { stUpd.upd with sets := [runSet], units := [(0, { UpdUnit.init with step := [blkInf] })] } })

/-- Set 3 landed. -/
def stLanded : State := { stUpd with upd := { stUpd.upd with landed := [3] } }

/-- A flit delivered from link 0. -/
def stLocal (f : Flit) : State := { stUp with net := { stUp.net with local_ := [(0, f)] } }

/-- A DESC of OP 6 for one sector of tensor 9, and tensor `t` resident. -/
def flDesc : Flit := ⟨BitVec.ofNat 128 (1 * 2 ^ 126 + 1 * 2 ^ 120), [dataSector (6 * 2 ^ 248 + 9 * 2 ^ 224 + 1 * 2 ^ 88)]⟩
def stDesc (t : Nat) : State :=
  setTensor t { entryOf 0 with state := 1, fmt := 1, elements := 16, data := 1, size := 1, home := 5 } (stLocal flDesc)

/-- The target of a DESC of OP 6. -/
theorem descTarget6 (s : State) : descTarget flDesc s =
    (if ([1].contains (tensorOf 9 s).state && decide (0 + 1 ≤ (tensorOf 9 s).size)) = true then .ok (9, 0, 0) else .error 2) := by
  have h1 : flitData flDesc 0 = 6 * 2 ^ 248 + 9 * 2 ^ 224 + 1 * 2 ^ 88 := by decide +kernel
  simp only [descTarget, h1, show descOp (6 * 2 ^ 248 + 9 * 2 ^ 224 + 1 * 2 ^ 88) = 6 from by decide, show descTensor (6 * 2 ^ 248 + 9 * 2 ^ 224 + 1 * 2 ^ 88) = 9 from by decide,
    show descStart (6 * 2 ^ 248 + 9 * 2 ^ 224 + 1 * 2 ^ 88) = 0 from by decide, show descLen (6 * 2 ^ 248 + 9 * 2 ^ 224 + 1 * 2 ^ 88) = 1 from by decide]

/-- The last part of a restore, which carries COMMITTED, and a restore that receives. -/
def flLast : Flit := ⟨BitVec.ofNat 128 (1 * 2 ^ 126 + 1 * 2 ^ 120 + 3 * 2 ^ 64), [dataSector (2 * 2 ^ 248), dataSector 0, dataSector 0, dataSector (3 * 2 ^ 254)]⟩
def stRestoring : State := { stLocal flLast with trn := { stUp.trn with restore := some { RestoreRun.init with kind := 2 } } }

theorem descTargetLast : descTarget flLast (taken 0 flLast stRestoring) = .ok (0, 0, 3) := by
  have h1 : flitData flLast 0 = 2 * 2 ^ 248 := by decide +kernel
  have h2 : flitData flLast 3 = 3 * 2 ^ 254 := by decide +kernel
  have h3 : (taken 0 flLast stRestoring).trn.restore = some { RestoreRun.init with kind := 2 } := by decide +kernel
  simp only [descTarget, h1, h2, h3, show descOp (2 * 2 ^ 248) = 2 from by decide, show fld (3 * 2 ^ 254) 255 254 = 3 from by decide]
  decide

/-- A DATA flit of one sector and the transfer it belongs to. -/
def flData : Flit := ⟨BitVec.ofNat 128 (1 * 2 ^ 126 + 2 * 2 ^ 120), [dataSector 7]⟩
def xferTest : Xfer := { Xfer.init with desc := BitVec.ofNat 256 (6 * 2 ^ 248 + 9 * 2 ^ 224 + 1 * 2 ^ 88), tensor := 9, opened := true }
def stData : State := { stLocal flData with net := { (stLocal flData).net with rxX := [xferTest] } }

/-- A REPORT of a status, and a transfer from here that it answers. -/
def flReport (st : Nat) : Flit := ⟨BitVec.ofNat 128 (1 * 2 ^ 126 + 3 * 2 ^ 120), [dataSector (st * 2 ^ 248)]⟩
def xferOut : Xfer := { Xfer.init with desc := BitVec.ofNat 256 (5 * 2 ^ 248) }
def stSending (st : Nat) : State := { stLocal (flReport st) with net := { (stLocal (flReport st)).net with txX := [xferOut] } }

/-- Set 3 a valid primary set with KEY_T 0, its report delivered. -/
def stApplied : State := wr (Obj.SET_W 5 3) (2 ^ 63) (stLocal (flReport 0x10))

/-- A flit of VL0 of TAG 0, and a flit in the receive buffer of link 0. -/
def flVl0 (kind : Nat) : Flit := ⟨BitVec.ofNat 128 (kind * 2 ^ 120), []⟩
def stRxOf (f : Flit) : State := modLink 0 (fun l => { l with rx := [f] }) stUp
def stRx (kind : Nat) : State := { stRxOf (flVl0 kind) with clk := ⟨2 ^ 40, true, false, 0, 10000000000⟩ }

/-- Collectives of TAG 0: of no stage, a Bow, a DIGEST figure. -/
def collTest : Coll := { Coll.init with phase := .running }
def collBow : Coll := { Coll.init with kind := 1 }
def collDigest : Coll := { Coll.init with kind := 6, phase := .running }
def stColl (kind : Nat) : State := { stRxOf (flVl0 kind) with col := { stUp.col with slots := [collTest] } }
def stCollBow (kind : Nat) : State := { stRxOf (flVl0 kind) with col := { stUp.col with slots := [collBow] } }
def stCollDigest (kind : Nat) : State := { stRxOf (flVl0 kind) with col := { stUp.col with slots := [collDigest] } }

/-- The collective of TAG 0 has ended; its deadline is ahead. -/
def stEnded (kind : Nat) : State := { stRxOf (flVl0 kind) with col := { stUp.col with ended := [(0, 100)] } }

/-- Entry 0 with a deadline one measure after its firing. -/
def ahead (s : State) : State := wr (Obj.ENTRY_DESC 0) (1 * 2 ^ 40) s
def stAhead (kind : Nat) : State := ahead (stRxOf (flVl0 kind))

/-- An abort token of TAG 0. -/
def flToken (all : Bool) : Flit := abortToken 0 all 3 7

/-- A flit staged past its deadline. -/
def stStaged : State := { stUp with col := { stUp.col with staged := [(0, flVl0 8, 0)] } }

/-- A REDUCE_SCATTER of one block: with a record that says redo, and with one that says done. -/
def planRs : List (BitVec 256) := [BitVec.ofNat 256 (1 * 2 ^ 252 + 2 * 2 ^ 246), BitVec.ofNat 256 0, BitVec.ofNat 256 0]
def collRedo : Coll := { Coll.init with phase := .running, plan := planRs, records := [(0, 0x4000#16)] }
def stRedo : State := { stUp with col := { stUp.col with slots := [collRedo] } }
def collRs : Coll := { Coll.init with phase := .running, plan := planRs }
def stDoneRs : State := { stUp with col := { stUp.col with slots := [collRs] } }

/-- An EXACT_SUM of no unit on the clip tensor of group 0. -/
def collClip : Coll := { Coll.init with phase := .running, tensor := 9, plan := [BitVec.ofNat 256 (5 * 2 ^ 252)] }
def stClip : State :=
  wr (Obj.CLIP_TENSOR 1) 9 { stUp with
    col := { stUp.col with slots := [collClip] }
    upd := { stUp.upd with clipReady := stUp.upd.clipReady.set 0 true } }

/-- A Bow of P = 1 that has received two sums. -/
def collBowOf (a b : Int) : Coll :=
  { Coll.init with kind := 1, c0 := some true, plan := [BitVec.ofNat 256 (1 * 2 ^ 214)], finals := [
    { Unit.init with idx := 0, acc := .finite (a * 2 ^ 300) }, { Unit.init with idx := 1, acc := .finite (b * 2 ^ 300) }] }
def stBow (a b : Int) : State := { stUp with col := { stUp.col with slots := [collBowOf a b] } }

/-- A DIGEST figure of tensor 9, comparing replicas or not, and one of two tensors. -/
def runDigest : DigestRun := { DigestRun.init with tensor := 9 }
def stDigest (set : Nat) : State := { stUp with
  col := { stUp.col with slots := [collDigest] }
  trn := { stUp.trn with digests := [runDigest] }
  cal := { stUp.cal with figs := [{ Fig.init with param := BitVec.ofNat 64 (set * 2 ^ 30), deadline := 1 }] } }
def stDigest2 : State := { stDigest 0 with trn := { stUp.trn with digests := [runDigest, { runDigest with tensor := 8 }] } }

/-- A mirror set 3 begun in the open step and not applied. -/
def stBegunMirror : State :=
  setRec 3 ⟨1, true, false, false, 0, [], []⟩ (wr Obj.RESTORE_SET 3 (wr (Obj.SET_W 5 3) (2 ^ 63 + 2 ^ 62) stUp))

/-- Link 0 in a state; its engine lit. -/
def stLink (x : LinkState) : State := modLink 0 (fun l => { l with state := x }) stUp

/-- Link 0 down, with light. -/
def stLinkDown : State :=
  let s := stLink .down
  wr (Obj.LINK_CONTROL 1) 1 { s with pins := { s.pins with laserEn := true }, net := { s.net with laserOn := true } }

/-- A slot with bits `x` above its check, and its check. -/
def frameSlot (x : Nat) : BitVec 640 := BitVec.ofNat 640 (x / 2 ^ 32 * 2 ^ 32 + crc32 (leBytes 76 (x / 2 ^ 32)))

def stToken : State := modLink 0 (fun l => { l with tokenDue := true }) (stLink .up)
def stReplay : State := modLink 0 (fun l => { l with replay := [⟨1, [], 0⟩], replaying := [1] }) (stLink .up)
def stAgain : State := modLink 0 (fun l => { l with again := some ⟨1, [], 0⟩ }) (stLink .up)
def stNoRoom : State := wr (Obj.LINK_BUFFER 1) 0 (stLink .up)

/-- A VL1 flit of class 0 that waits on link 0, which holds credits. -/
def flVl1 : Flit := ⟨BitVec.ofNat 128 (1 * 2 ^ 126), []⟩
def stFlitQueued : State := modLink 0 (fun l => { l with txq := [flVl1], cred := firstCredits }) (stLink .up)
def sentLink : Link := { linkOf 0 stFlitQueued with winPos := 1, cred := [32, 31, 32, 15, 16, 16, 16] }

/-- The same 64 s later, and an engine that has been hot as long. -/
def late8 (s : State) : State := { s with clk := { s.clk with ticks := s.clk.ticks + 64000000000 } }
def stHotEngine : State := late8 (modEngine 0 (fun e => { e with hot90At := some 0 }) stUp)

/-- A ring calibration at link 0, urgent; and one whose deadline is near. -/
def stRing : State := { stLink .up with net := { (stLink .up).net with ringFigs := [⟨0, [0], 0, true⟩] } }
def stRingLate : State := { stUp with
  net := { stUp.net with ringFigs := [⟨0, [0], 0, false⟩] }
  cal := { stUp.cal with figs := [Fig.init] } }

/-- Locked from TIME_PPS_IN, link 0 up; and the same with its asymmetry calibration running. -/
def stAsym : State := wr Obj.TIME_MODE 1 { stLink .up with tim := { stUp.tim with servo := .locked } }
def stAsymRun : State := late8 (modLink 0 (fun l => { l with asymCal := true }) stAsym)

/-- The dictionary row of an object, and the abort code of one that does not exist. -/
def rowOf (idx sub : Nat) : ObjRow :=
  match findObj idx sub with
  | .ok r => r
  | .error _ => { idx0 := 0, idx1 := 0, sub0 := 0, sub1 := 0, size := 0, access := .ro, change := .commit, save := false, dflt := 0, mask := 0 }
def errOf (idx sub : Nat) : Nat :=
  match findObj idx sub with
  | .ok _ => 0
  | .error c => c

/-- A staging area that CXL owns. -/
def stOwned : State :=
  { stUp with dict := { stUp.dict with staged := [⟨Obj.NODE_ID.key, 7#64⟩], owner := some ⟨.cxl, 0⟩ } }

/-- A value staged by I3C that validation refuses: B of 0 divisions. -/
def stBadStaged : State := wr Obj.COMMIT_SET 0x20
  { stUp with dict := { stUp.dict with staged := [⟨keyOf 0x3010 1 0, 10#64⟩], owner := some wI3c } }

/-- A commit that waits for its time, and one whose functions are stopping. -/
def stCommitWaiting : State := { stUp with dict := { stUp.dict with commit := some { Commit.init with phase := .waitTime } } }
def stCommitStopping : State := { stUp with dict := { stUp.dict with commit := some { Commit.init with phase := .stopping } } }

def stStoppedCores : State := setRun 0 .stopped stUp
def stRunningCores : State := setRun 0 .running stUp
def stRunningRec : State := setRun 6 .running stUp

/-- The failure of what stBadStaged stages. -/
def failOf : Nat × Nat := ((validated (stagedIn 0x20 stBadStaged) stBadStaged).1).getD (0, 0)

/-- A request header of a COMMAND on an object with a LENGTH, TAG 0. -/
def hdrOf (cmd idx sub len : Nat) : BitVec 64 := BitVec.ofNat 64 (cmd * 2 ^ 56 + idx * 2 ^ 32 + sub * 2 ^ 24 + len)

/-- A response's flit. -/
def lateFlit : Flit := ⟨BitVec.ofNat 128 (3 * 2 ^ 126 + 4 * 2 ^ 120), []⟩

/-- A response that has waited 2 ms for a route. -/
def stLateAnswer : State :=
  { stUp with
    net := { stUp.net with waitFlits := [(64, lateFlit)] }
    dict := { stUp.dict with outbound := [(lateFlit, 0)] }
    clk := { stUp.clk with ticks := 2000000 } }

/-- An entry of the error queue, a module that holds it, and one that has another in hand. -/
def errTest (sev : Nat) : ErrEntry := ⟨0x9405, sev, 0, 0, 0⟩
def stError (sev : Nat) : State := { stUp with flt := { stUp.flt with queue := [errTest sev] } }
def stHeld2 : State := { stUp with flt := { stUp.flt with queue := [errTest 1], hand := some (errTest 3) } }

/-- In Sit-out: tensor 0 resident with two sectors; and an extraction whose transfer is open. -/
def stExtract : State := setTensor 0 { entryOf 0 with state := 1, fmt := 1, elements := 16, data := 2, size := 2, home := 5 } stSitout
def stExtracting : State :=
  { stSitout with
    flt := { stSitout.flt with extract := some Extract.init }
    net := { stSitout.net with txX := [{ Xfer.init with opened := true }] } }

/-- Without power. -/
def stOff : State := { stUp with pow := { stUp.pow with phase := .unpowered } }

/-- A waiting event; the recorder runs. -/
def eventTest : Event := { code := 0x9405, source := 0, value := 7, count := 0, hours := 0, bare := false }
def stEvent : State := setRun 6 .running { stUp with rcd := { stUp.rcd with batch := [eventTest] } }

/-- A flush that is asked for, and one with its snapshot. -/
def runFlush : FlushRun := FlushRun.init
def stFlush : State := { stUp with rcd := { stUp.rcd with flush := some runFlush } }
def snapped (retried : Bool) : FlushRun := { runFlush with snap := some (snapshot runFlush stUp), retried := retried }
def stFlushed (retried : Bool) : State := { stUp with rcd := { stUp.rcd with flush := some (snapped retried) } }

/-- Sector 5 holds three wrong symbols. -/
def stBad : State := wrSector 5 ⟨0x030201#256, 0#32⟩ stUp

theorem consume_bad : consumeClean 5 stBad = (none, confirmBad 5 stBad) := by
  have h1 : disturb (readOverlay 5 stBad) 0 = ⟨0x030201#256, 0#32⟩ := by decide +kernel
  have h2 : disturb (rdSector 5 stBad) 0 = ⟨0x030201#256, 0#32⟩ := by decide +kernel
  have h0 : overlayNote 5 stBad = stBad := by simp only [overlayNote, show wcEntry 5 stBad = none from by decide +kernel]
  simp only [consumeClean, consume, h0, h1, h2, decodeSector_three]

/-- Cool, with budget for Surge; a change of point in progress; the clamp engaged; the ledger due. -/
def stCool : State := wr Obj.COOLANT_IN 200 (wr Obj.DIE_HOTSPOT 400 (wr Obj.OP_POINT 1 stUp))
def stChange (up : Bool) : State := { stUp with pow := { stUp.pow with change := some ⟨2, up, 0⟩ } }
def stClamp : State := { stUp with pow := { stUp.pow with clamp := true } }
def stLedger : State := { stUp with pow := { stUp.pow with ledgerSecs := 60 }, pins := { stUp.pins with pwrFailN := true } }

/-- An image of BODY_LENGTH 4096 begins in the Floor; the module in recovery; with the key erased; with a report to sign. -/
def stFloor : State := wrBytes (0x20000000000 + 16) (leBytes 4 4096) stUp
def stRecovery : State := { stUp with pow := { stUp.pow with phase := .recovery } }
def stErased : State := { stUp with sec := { stUp.sec with keyErased := true } }
def stReport : State := { stUp with sec := { stUp.sec with attest := some [] } }

/-- Tensor 0 resident; it is being measured; with the background class frozen. -/
def stResident : State := setTensor 0 { entryOf 0 with state := 1, fmt := 1, elements := 16, data := 1, size := 1, home := 5 } stUp
def stMeasuring : State := { stResident with sec := { stUp.sec with measuring := [0] } }
def stMeasFrozen : State := wr Obj.FREEZE 0x40 stMeasuring
def stMeasHeld : State := { stMeasuring with mo := { stUp.mo with training := [{ Retrain.init with unit := (unitOf 5).getD 0 }] } }

/-- Without power; halted; held in reset. -/
def stOff0 : State := { State.reset with pow := { State.reset.pow with phase := .unpowered } }
def stHalted : State := { stUp with pow := { stUp.pow with phase := .halted } }
def stHeldReset : State := { stUp with pow := { stUp.pow with phase := .held } }

/-- Before step 1; with slot 1 pending; step n done. -/
def stCold : State := State.reset
def stPending (tried : Bool) : State := { stCold with flash := { stCold.flash with pendingSlot := some 1, pendTried := tried } }
def stStepN (n : Nat) : State := { stUp with boot := { stUp.boot with stepDone := n, ready := false } }

/-- Step 3 with a link in training. -/
def stTraining3 : State :=
  let s := modLink 0 (fun l => { l with state := .training }) (stStepN 2)
  { s with pins := { s.pins with laserEn := true }, net := { s.net with laserOn := true } }

/-- Step 6 with a saved value of MX_HEADROOM in range (1) or of B out of range. -/
def stSaved (ok : Nat) : State :=
  let vs : List (Nat × BitVec 64) := if ok = 1 then [(keyOf 0x4101 1 0, 1#64)] else [(keyOf 0x3010 1 0, 10#64)]
  { stStepN 5 with flash := { stUp.flash with image := some vs } }
def failSaved : Failure :=
  ((validated ((imageNow (stSaved 0)).map fun p => ⟨p.1, p.2⟩) (stSaved 0)).1).getD (0, 0)

/-- No slot of the flash is erased. -/
def stFlashFull : State :=
  let s := stFlushed false
  { s with flash := { s.flash with recSlots := s.flash.recSlots.map fun _ => ⟨.invalid, none⟩ } }

/-! ### Witnesses of the obligations' hypotheses: `wit_<obligation>_<clause>` -/

theorem wit_CountTicksStepsAndHolds_1 : ∃ (s : State) (slew : Slew),
    alive s = true ∧ s.clk.held = false ∧ maySlew slew { s with clk := { s.clk with ticks := s.clk.ticks + 1 } } = false :=
  ⟨stUp, .none, by decide⟩

theorem wit_CountTicksStepsAndHolds_2 : ∃ (s : State),
    alive s = true ∧ s.clk.held = false ∧ maySlew .ahead { s with clk := { s.clk with ticks := s.clk.ticks + 1 } } = true :=
  ⟨stSlew 5, by decide⟩

theorem wit_CountTicksStepsAndHolds_3 : ∃ (s : State),
    alive s = true ∧ s.clk.held = false ∧ maySlew .behind { s with clk := { s.clk with ticks := s.clk.ticks + 1 } } = true :=
  ⟨stSlew (-5), by decide⟩

theorem wit_CountTicksStepsAndHolds_4 : ∃ (s : State) (slew : Slew),
    alive s = true ∧ s.clk.held = true :=
  ⟨stHeld 3, .none, by decide⟩

theorem wit_CountTicksStepsAndHolds_5 : ∃ (s u : State),
    alive s = true ∧ s.tim.stepDue = true ∧ s.cal.firing = false ∧ 0 < s.tim.offset ∧ u = setServo .acquiring { s with tim := { s.tim with stepDue := false } } :=
  ⟨stStep 5000, setServo .acquiring { stStep 5000 with tim := { (stStep 5000).tim with stepDue := false } }, by decide⟩

theorem wit_CountTicksStepsAndHolds_6 : ∃ (s u : State),
    alive s = true ∧ s.tim.stepDue = true ∧ s.cal.firing = false ∧ s.tim.offset < -1000 ∧ u = setServo .acquiring { s with tim := { s.tim with stepDue := false } } :=
  ⟨stStep (-5000), setServo .acquiring { stStep (-5000) with tim := { (stStep (-5000)).tim with stepDue := false } }, by decide⟩

theorem wit_CountTicksStepsAndHolds_7 : ∃ (s : State) (v : Servo),
    (s.tim.servo ≠ .locked ∨ ∀ k < 64, (linkOf k s).asymCal = false) :=
  ⟨stUp, .locked, by decide⟩

theorem wit_CountTicksStepsAndHolds_8 : ∃ (s : State),
    alive s = true ∧ s.clk.held = true ∧ s.clk.heldUntil = 0 :=
  ⟨stHeld 0, by decide⟩

theorem wit_CountNeverRunsBackward_1 : ∃ (s t : State) (slew : Slew),
    s.clk.count.toNat + 2 < 2 ^ 64 ∧ exec (.tick slew) s = .next t :=
  ⟨stUp, { stUp with clk := { stUp.clk with count := 1, ticks := stUp.clk.ticks + 1 } }, .none, by exact ⟨by decide, rfl⟩⟩

theorem wit_CountNeverRunsBackward_2 : ∃ (s t : State),
    (s.clk.count.toNat : Int) + s.tim.offset < 2 ^ 64 ∧ exec .countStep s = .next t :=
  ⟨stUp, stUp, by refine ⟨by decide, ?_⟩; rfl⟩

theorem wit_SourcesMoveTheServo_1 : ∃ (s u : State) (k : Nat) (f : Flit) (stamp arrival dom bound : Nat) (residence filter freq : Int),
    alive s = true ∧ s.net.local_.contains (k, f) = true ∧ f.vl = 3 ∧ f.kind = 5 ∧ ptpStamps k f (taken k f s) = some (stamp, arrival) ∧ u = modLink k (fun l => { l with ptpRx := dropFirst (fun p => p.1 == f) l.ptpRx }) (taken k f s) ∧ rd Obj.TIME_MODE u = 0 ∧ rd Obj.PTP_LINK u = k ∧ rd (Obj.ASYM_VALID k) u ≠ 0 ∧ dom = rd Obj.PTP_DOMAIN u :=
  ⟨stPtp, modLink 0 (fun l => { l with ptpRx := dropFirst (fun p => p.1 == flPtp) l.ptpRx }) (taken 0 flPtp stPtp), 0, flPtp, 100, 50, 0, 10, 0, 0, 0, by decide⟩

theorem wit_SourcesMoveTheServo_2 : ∃ (s : State) (k : Nat) (f : Flit) (v : Bool) (dom bound : Nat) (residence filter freq : Int),
    alive s = true ∧ s.net.local_.contains (k, f) = true ∧ f.vl = 3 ∧ f.kind = 5 ∧ (v = false ∨ dom ≠ rd Obj.PTP_DOMAIN (modLink k (fun l => { l with ptpRx := dropFirst (fun p => p.1 == f) l.ptpRx }) (taken k f s))) :=
  ⟨stPtp, 0, flPtp, true, 7, 10, 0, 0, 0, by decide⟩

theorem wit_SourcesMoveTheServo_3 : ∃ (s : State) (filter freq : Int) (v at_ : Nat),
    alive s = true ∧ rd Obj.TIME_MODE s = 1 ∧ s.tim.tod = some (v, at_) :=
  ⟨stPps, 0, 0, 7, 0, by decide⟩

theorem wit_SourcesMoveTheServo_4 : ∃ (s : State),
    alive s = true ∧ s.tim.tod = none ∧ s.tim.ppsTime = none :=
  ⟨stUp, by decide⟩

theorem wit_SourcesMoveTheServo_5 : ∃ (s : State) (w : Writer) (v : BitVec 64),
    alive s = true ∧ accepts w 0x3004 1 v.toNat s = true ∧ (s.tim.ppsSeen = false ∨ (s.tim.ppsEdge + 100000000 ≤ s.clk.ticks ∧ s.clk.ticks ≤ s.tim.ppsEdge + 900000000)) :=
  ⟨stUp, wI3c, 99, by decide⟩

theorem wit_SourcesMoveTheServo_6 : ∃ (s : State),
    alive s = true ∧ rd Obj.TIME_MODE s = 0 ∧ s.tim.syncAt + 3 * syncInterval s ≤ s.clk.ticks ∧ s.tim.lost = false ∧ s.tim.servo = .locked :=
  ⟨stLocked 0, by decide⟩

theorem wit_SourcesMoveTheServo_7 : ∃ (s : State),
    alive s = true ∧ rd Obj.TIME_MODE s = 1 ∧ s.tim.ppsSeen = true ∧ s.tim.ppsEdge + 2100000000 ≤ s.clk.ticks ∧ s.tim.lost = false ∧ s.tim.servo = .locked :=
  ⟨stLocked 1, by decide⟩

theorem wit_SourcesMoveTheServo_9 : ∃ (s : State) (c : Nat),
    alive s = true ∧ s.tim.servo = .holdover ∧ s.cal.firing = true ∧ s.tim.holdoverAt = some c ∧ c + 10000000000 ≤ now s ∧ s.cal.stopDue = none :=
  ⟨stHoldover, 0, by decide⟩

theorem wit_PulseOutAndMasterPorts_1 : ∃ (s : State),
    alive s = true ∧ s.clk.everSet = true ∧ s.clk.held = false ∧ now s % 1000000000 = 0 ∧ s.tim.ppsOut = false :=
  ⟨stSet, by decide⟩

theorem wit_PulseOutAndMasterPorts_2 : ∃ (s : State),
    s.clk.everSet = false :=
  ⟨stUp, by decide⟩

theorem wit_PulseOutAndMasterPorts_3 : ∃ (s : State),
    alive s = true ∧ s.tim.ppsOut = true ∧ s.tim.ppsOutAt + 100000000 ≤ now s :=
  ⟨stPulse, by decide⟩

theorem wit_PulseOutAndMasterPorts_4 : ∃ (s : State),
    alive s = true ∧ (s.tim.servo = .locked ∨ s.tim.servo = .holdover) ∧ ptpDue s.tim.syncSent (syncInterval s) s = true :=
  ⟨stHoldover, by decide⟩

theorem wit_PulseOutAndMasterPorts_5 : ∃ (s : State),
    ((s.tim.servo = .unset ∨ s.tim.servo = .acquiring) ∨ ptpDue s.tim.syncSent (syncInterval s) s = false) :=
  ⟨stUp, by decide⟩

theorem wit_PulseOutAndMasterPorts_6 : ∃ (s : State),
    alive s = true ∧ ptpDue s.tim.announced 1000000000 s = true :=
  ⟨stUp, by decide⟩

theorem wit_PulseOutAndMasterPorts_7 : ∃ (s : State) (w : Writer) (v : BitVec 64),
    alive s = true ∧ accepts w 0x3020 2 v.toNat s = true ∧ measureAt (beatB s) (now s) < v.toNat :=
  ⟨stUp, wI3c, 9, by decide⟩

theorem wit_PulseOutAndMasterPorts_8 : ∃ (s : State) (w : Writer) (v : BitVec 64),
    alive s = true ∧ accepts w 0x3020 2 v.toNat s = true ∧ v.toNat ≤ measureAt (beatB s) (now s) :=
  ⟨stUp, wI3c, 0, by decide⟩

theorem wit_CallerFiresItsEntries_3 : ∃ (s : State),
    alive s = true ∧ s.cal.lastMeasure = some (measureAt (beatB s) (now s)) ∧ s.cal.firing = true ∧ isReady s = true ∧ s.clk.held = false ∧ now s % 2 ^ beatB s < 128 ∧ s.cal.lastBeat ≠ some (now s / 2 ^ beatB s) :=
  ⟨stFiring, by decide⟩

theorem wit_CallerFiresItsEntries_4 : ∃ (s : State),
    alive s = true ∧ s.cal.lastMeasure = some (measureAt (beatB s) (now s)) ∧ (s.cal.firing = false ∨ isReady s = false ∨ s.clk.held = true ∨ 128 ≤ now s % 2 ^ beatB s) :=
  ⟨{ stFiring with cal := { stFiring.cal with firing := false } }, by decide⟩

theorem wit_CallerFiresItsEntries_5 : ∃ (s : State),
    alive s = true ∧ s.clk.held = false ∧ s.dict.commit = none ∧ s.cal.lastMeasure ≠ some (measureAt (beatB s) (now s)) ∧ now s < beatStart (beatB s) (measureAt (beatB s) (now s)) 0 + 128 ∧ s.cal.firing = true ∧ s.cal.stopDue ≠ none ∧ isReady s = true ∧ s.tasks = [] :=
  ⟨stStopDue, by decide⟩

theorem wit_LateFiguresAndDeadlines_1 : ∃ (s : State) (n : Nat),
    alive s = true ∧ inSitout s = false ∧ s.cal.firing = true ∧ s.clk.held = false :=
  ⟨stFiring, 0, by decide⟩

theorem wit_LateFiguresAndDeadlines_2 : ∃ (s : State) (n : Nat),
    (inSitout s = true ∨ s.cal.firing = false ∨ s.clk.held = true) :=
  ⟨stSitout, 0, by decide⟩

theorem wit_LateFiguresAndDeadlines_3 : ∃ (s : State),
    alive s = true :=
  ⟨stUp, by decide⟩

theorem wit_LateFiguresAndDeadlines_4 : ∃ (s : State) (f : Fig) (outcome : Nat),
    s.cal.figs.find? (fun g => figTag g == figTag f) = some f :=
  ⟨stFig, figTest, 1, by decide⟩

theorem wit_LateFiguresAndDeadlines_5 : ∃ (s : State) (flag entry outcome : Nat),
    flag ≠ 0 ∧ ((spGet (0, 0) s.cal.flagLast flag).1 ≠ s.clk.ticks + 1 ∨ (spGet (0, 0) s.cal.flagLast flag).2 ≤ entry) :=
  ⟨stFig, 5, 9, 1, by decide⟩

theorem wit_LateFiguresAndDeadlines_6 : ∃ (s t : State) (p : PhaseRun),
    alive s = true ∧ s.trn.phase = some p ∧ inSitout s = false ∧ (∀ f ∈ [0, 1, 2], runOf f s = .stopped) ∧ (∀ f ∈ [0, 1, 2], phaseSafe f s = true) ∧ imageState p.target s = (none, t) :=
  ⟨stPhase, (imageState 0 stPhase).2, ⟨0, 0, 0, []⟩, by decide⟩

theorem wit_ErrorsAreHandledInTurn_1 : ∃ (s : State) (e : ErrEntry),
    alive s = true ∧ nextEntry s = some e ∧ s.boot.fwRunning = true ∧ handBelow e.sev s = true :=
  ⟨stError 3, errTest 3, by decide +kernel⟩

theorem wit_ErrorsAreHandledInTurn_2 : ∃ (s : State) (e : ErrEntry),
    alive s = true ∧ nextEntry s = some e ∧ handBelow e.sev s = false :=
  ⟨stHeld2, errTest 1, by decide +kernel⟩

theorem wit_ErrorsAreHandledInTurn_3 : ∃ (s : State),
    alive s = true ∧ (nextEntry s = none ∨ s.boot.fwRunning = false) :=
  ⟨stUp, by decide +kernel⟩

theorem wit_ErrorsAreHandledInTurn_4 : ∃ (s : State),
    alive s = true ∧ s.flt.hand.isSome = true :=
  ⟨stHeld2, by decide +kernel⟩

theorem wit_ErrorsAreHandledInTurn_5 : ∃ (s : State),
    alive s = true ∧ s.flt.hand = none :=
  ⟨stUp, by decide +kernel⟩

theorem wit_ErrorsAreHandledInTurn_6 : ∃ (s : State) (w : Writer),
    alive s = true ∧ accepts w 0xA002 2 1 s = true ∧ rd Obj.FAULT_STATE s = 0 :=
  ⟨stUp, wI3c, by decide +kernel⟩

theorem wit_ErrorsAreHandledInTurn_7 : ∃ (s : State) (w : Writer),
    alive s = true ∧ accepts w 0xA002 2 1 s = true ∧ rd Obj.FAULT_STATE s = 1 :=
  ⟨stSitout, wI3c, by decide +kernel⟩

theorem wit_SitoutIsEnteredAndPowersDown_1 : ∃ (s : State) (w : Writer) (v : BitVec 8),
    alive s = true ∧ accepts w 0xA010 1 v.toNat s = true :=
  ⟨stUp, wI3c, 0x5A, by decide +kernel⟩

theorem wit_SitoutIsEnteredAndPowersDown_2 : ∃ (s : State) (a : Nat),
    alive s = true :=
  ⟨stUp, 3, by decide +kernel⟩

theorem wit_SitoutIsEnteredAndPowersDown_3 : ∃ (s : State) (a : Nat),
    alive s = true :=
  ⟨stUp, 3, by decide +kernel⟩

theorem wit_SitoutIsEnteredAndPowersDown_4 : ∃ (s : State),
    alive s = true :=
  ⟨stUp, by decide +kernel⟩

theorem wit_SitoutIsEnteredAndPowersDown_5 : ∃ (s : State) (t : BitVec 16),
    alive s = true :=
  ⟨stUp, 900, by decide +kernel⟩

theorem wit_SitoutIsEnteredAndPowersDown_6 : ∃ (s : State),
    alive s = true :=
  ⟨stUp, by decide +kernel⟩

theorem wit_SitoutIsEnteredAndPowersDown_7 : ∃ (s : State) (r : Nat),
    alive s = true :=
  ⟨stUp, 1, by decide +kernel⟩

theorem wit_SitoutIsEnteredAndPowersDown_8 : ∃ (s : State),
    alive s = true ∧ s.boot.fwRunning = true ∧ inSitout s = true :=
  ⟨stSitout, by decide +kernel⟩

theorem wit_SitoutIsEnteredAndPowersDown_9 : ∃ (s : State),
    alive s = true ∧ s.boot.fwRunning = true ∧ inSitout s = false :=
  ⟨stUp, by decide +kernel⟩

theorem wit_SitoutIsEnteredAndPowersDown_10 : ∃ (s : State),
    alive s = true ∧ s.boot.fwRunning = false :=
  ⟨{ stUp with boot := { stUp.boot with fwRunning := false } }, by decide +kernel⟩

theorem wit_SitoutIsEnteredAndPowersDown_11 : ∃ (s : State),
    alive s = true ∧ inSitout s = true :=
  ⟨stSitout, by decide +kernel⟩

theorem wit_SitoutIsEnteredAndPowersDown_12 : ∃ (s : State),
    alive s = true ∧ inSitout s = true ∧ s.flt.powerDown = false :=
  ⟨stSitout, by decide +kernel⟩

theorem wit_SitoutIsEnteredAndPowersDown_13 : ∃ (s : State),
    alive s = true ∧ (inSitout s = false ∨ s.flt.powerDown = true) :=
  ⟨stUp, by decide +kernel⟩

theorem wit_ExtractionsSendSectors_1 : ∃ (s : State) (w : Writer),
    alive s = true ∧ accepts w 0xA020 5 1 s = true ∧ extractOk s = true :=
  ⟨stExtract, wI3c, by decide +kernel⟩

theorem wit_ExtractionsSendSectors_2 : ∃ (s : State) (w : Writer),
    alive s = true ∧ accepts w 0xA020 5 1 s = true ∧ extractOk s = false :=
  ⟨stUp, wI3c, by decide +kernel⟩

theorem wit_ExtractionsSendSectors_3 : ∃ (s : State) (w : Writer) (x : Extract),
    alive s = true ∧ accepts w 0xA020 5 2 s = true ∧ inSitout s = true ∧ s.flt.extract = some x :=
  ⟨stExtracting, wI3c, Extract.init, by decide +kernel⟩

theorem wit_ExtractionsSendSectors_4 : ∃ (s : State) (w : Writer),
    alive s = true ∧ accepts w 0xA020 5 2 s = true ∧ inSitout s = true ∧ s.flt.extract = none :=
  ⟨stSitout, wI3c, by decide +kernel⟩

theorem wit_ExtractionsSendSectors_5 : ∃ (s : State) (x : Extract),
    alive s = true ∧ s.flt.extract = some x ∧ (s.net.txX.any fun y => y.no == x.xfer && y.opened) = true ∧ s.boot.fwRunning = true :=
  ⟨stExtracting, Extract.init, by decide +kernel⟩

theorem wit_ExtractionsSendSectors_6 : ∃ (s : State) (x : Extract) (n : Nat) (d : BitVec 256) (t : State),
    sectorGone n s = false ∧ x.cut = false ∧ consumeClean n s = (some d, t) :=
  ⟨stExtract, Extract.init, 0, 0, stExtract, by decide +kernel⟩

theorem wit_ExtractionsSendSectors_7 : ∃ (s : State) (x : Extract) (n : Nat) (t : State),
    sectorGone n s = false ∧ x.cut = false ∧ consumeClean n s = (none, t) :=
  ⟨stBad, Extract.init, 5, confirmBad 5 stBad, ⟨by decide +kernel, by decide, consume_bad⟩⟩

theorem wit_ExtractionsSendSectors_8 : ∃ (s : State) (x : Extract) (n : Nat),
    (sectorGone n s = true ∨ x.cut = true) :=
  ⟨stExtract, { Extract.init with cut := true }, 0, by decide +kernel⟩

theorem wit_ExtractionsSendSectors_9 : ∃ (s : State) (x : Extract),
    alive s = true ∧ s.flt.extract = some x ∧ ((s.net.txX.any fun y => y.no == x.xfer && y.opened) = false ∨ s.boot.fwRunning = false) :=
  ⟨{ stExtracting with boot := { stUp.boot with fwRunning := false } }, Extract.init, by decide +kernel⟩

theorem wit_EventsAreRecordedAndFlushed_1 : ∃ (s : State),
    recorderAlive s = true :=
  ⟨stUp, by decide +kernel⟩

theorem wit_EventsAreRecordedAndFlushed_2 : ∃ (s : State),
    recorderAlive s = false :=
  ⟨stOff, by decide +kernel⟩

theorem wit_EventsAreRecordedAndFlushed_3 : ∃ (s : State) (e : Event) (p : List Event × State),
    recorderAlive s = true ∧ s.rcd.hold = [] ∧ s.rcd.batch.head? = some e ∧ p = reportAll (s.rcd.batch.filter fun x => x.code == e.code && x.source == e.source)
      { s with rcd := { s.rcd with batch := s.rcd.batch.filter fun x => !(x.code == e.code && x.source == e.source) } } ∧ runOf 6 p.2 ≠ .stopped :=
  ⟨stEvent, eventTest, _, by decide, by decide, by decide, rfl, by decide +kernel⟩

theorem wit_EventsAreRecordedAndFlushed_4 : ∃ (s : State) (w : Writer),
    alive s = true ∧ accepts w 0xB030 1 1 s = true :=
  ⟨stUp, wI3c, by decide +kernel⟩

theorem wit_EventsAreRecordedAndFlushed_5 : ∃ (s : State) (f : FlushRun) (k : Nat),
    flushAlive s = true ∧ s.rcd.flush = some f ∧ f.snap = none ∧ erasedSlot s = some k :=
  ⟨stFlush, runFlush, 0, by decide +kernel⟩

theorem wit_EventsAreRecordedAndFlushed_6 : ∃ (s : State) (f : FlushRun) (img : RecImage),
    flushAlive s = true ∧ s.rcd.flush = some f ∧ f.snap = some img :=
  ⟨stFlushed false, snapped false, snapshot runFlush stUp, by decide +kernel⟩

theorem wit_EventsAreRecordedAndFlushed_7 : ∃ (s : State),
    alive s = true :=
  ⟨stUp, by decide +kernel⟩

theorem wit_EventsAreRecordedAndFlushed_8 : ∃ (s : State) (w : Writer) (v : BitVec 32),
    alive s = true ∧ accepts w 0xB010 10 v.toNat s = true :=
  ⟨stUp, wI3c, 0, by decide +kernel⟩

theorem wit_EventsAreRecordedAndFlushed_9 : ∃ (s : State) (v a p : BitVec 16) (e : List (BitVec 16)),
    alive s = true :=
  ⟨stUp, 5400, 30, 1600, [], by decide +kernel⟩

theorem wit_OperatingPointsChange_1 : ∃ (s : State) (w : Writer),
    alive s = true ∧ accepts w 0xC000 2 1 s = true ∧ surgeRefusal s = 0 :=
  ⟨stCool, wI3c, by decide +kernel⟩

theorem wit_OperatingPointsChange_2 : ∃ (s : State) (w : Writer),
    alive s = true ∧ accepts w 0xC000 2 1 s = true ∧ surgeRefusal s ≠ 0 :=
  ⟨wr Obj.POWER_BUDGET 1000 stCool, wI3c, by decide +kernel⟩

theorem wit_OperatingPointsChange_3 : ∃ (s : State) (w : Writer),
    alive s = true ∧ accepts w 0xC000 2 0 s = true ∧ rd Obj.OP_POINT s ≠ 0 :=
  ⟨wr Obj.OP_POINT 1 stUp, wI3c, by decide +kernel⟩

theorem wit_OperatingPointsChange_4 : ∃ (s : State) (w : Writer),
    alive s = true ∧ accepts w 0xC000 2 0 s = true ∧ rd Obj.OP_POINT s = 0 :=
  ⟨wr Obj.OP_POINT 0 stUp, wI3c, by decide +kernel⟩

theorem wit_OperatingPointsChange_5 : ∃ (s : State) (w : Writer),
    alive s = true ∧ accepts w 0xC000 2 2 s = true ∧ rd Obj.OP_POINT s ≠ 0 :=
  ⟨wr Obj.OP_POINT 1 stUp, wI3c, by decide +kernel⟩

theorem wit_OperatingPointsChange_6 : ∃ (s : State) (w : Writer),
    alive s = true ∧ accepts w 0xC000 2 2 s = true ∧ rd Obj.OP_POINT s = 0 :=
  ⟨wr Obj.OP_POINT 0 stUp, wI3c, by decide +kernel⟩

theorem wit_OperatingPointsChange_7 : ∃ (s : State) (c : PointChange),
    alive s = true ∧ s.pow.change = some c :=
  ⟨stChange false, ⟨2, false, 0⟩, by decide +kernel⟩

theorem wit_OperatingPointsChange_8 : ∃ (s : State) (c : PointChange),
    alive s = true ∧ s.pow.change = some c ∧ c.railUp = true ∧ noPass s = true :=
  ⟨stChange true, ⟨2, true, 0⟩, by decide +kernel⟩

theorem wit_OperatingPointsChange_9 : ∃ (s : State) (c : PointChange),
    alive s = true ∧ s.pow.change = some c ∧ (c.railUp = false ∨ noPass s = false) :=
  ⟨stChange false, ⟨2, false, 0⟩, by decide +kernel⟩

theorem wit_OperatingPointsChange_10 : ∃ (s : State),
    alive s = true :=
  ⟨stUp, by decide +kernel⟩

theorem wit_BudgetsClampsAndWear_1 : ∃ (s : State) (x : BitVec 16),
    alive s = true :=
  ⟨stUp, 1600, by decide +kernel⟩

theorem wit_BudgetsClampsAndWear_2 : ∃ (s : State) (x : BitVec 16) (b : Bool),
    alive s = true :=
  ⟨stUp, 4, true, by decide +kernel⟩

theorem wit_BudgetsClampsAndWear_3 : ∃ (s : State) (x : BitVec 16),
    alive s = true ∧ s.pow.clamp = false ∧ 2075 < x.toNat :=
  ⟨stUp, 2080, by decide +kernel⟩

theorem wit_BudgetsClampsAndWear_4 : ∃ (s : State) (x : BitVec 16),
    alive s = true ∧ (s.pow.clamp = true ∨ x.toNat ≤ 2075) :=
  ⟨stUp, 2075, by decide +kernel⟩

theorem wit_BudgetsClampsAndWear_5 : ∃ (s : State) (x : BitVec 16),
    alive s = true ∧ s.pow.clamp = true ∧ x.toNat < 1950 :=
  ⟨stClamp, 1949, by decide +kernel⟩

theorem wit_BudgetsClampsAndWear_6 : ∃ (s : State) (x : BitVec 16),
    alive s = true ∧ (s.pow.clamp = false ∨ 1950 ≤ x.toNat) :=
  ⟨stClamp, 1950, by decide +kernel⟩

theorem wit_BudgetsClampsAndWear_7 : ∃ (s : State) (x g : BitVec 16),
    alive s = true ∧ toSigned 16 x.toNat ≤ 800 :=
  ⟨stUp, 800, 0, by decide +kernel⟩

theorem wit_BudgetsClampsAndWear_8 : ∃ (s : State) (x g : BitVec 16),
    alive s = true ∧ 800 < toSigned 16 x.toNat :=
  ⟨stUp, 801, 9, by decide +kernel⟩

theorem wit_BudgetsClampsAndWear_9 : ∃ (s : State) (x : BitVec 16),
    alive s = true ∧ ((4500 ≤ x.toNat ∧ x.toNat < 4800) ∨ (5800 < x.toNat ∧ x.toNat ≤ 6000)) :=
  ⟨stUp, 4700, by decide +kernel⟩

theorem wit_BudgetsClampsAndWear_10 : ∃ (s : State) (x : BitVec 16),
    alive s = true ∧ ((4800 ≤ x.toNat ∧ x.toNat ≤ 5800) ∨ x.toNat < 4500 ∨ 6000 < x.toNat) :=
  ⟨stUp, 4800, by decide +kernel⟩

theorem wit_BudgetsClampsAndWear_11 : ∃ (s : State) (x i u : BitVec 16) (f : Nat),
    alive s = true ∧ flowEstimate x.toNat (toSigned 16 u.toNat - toSigned 16 i.toNat) = some f :=
  ⟨stUp, 1600, 240, 400, 109, by decide +kernel⟩

theorem wit_BudgetsClampsAndWear_12 : ∃ (s : State) (x i u : BitVec 16),
    alive s = true ∧ flowEstimate x.toNat (toSigned 16 u.toNat - toSigned 16 i.toNat) = none :=
  ⟨stUp, 1600, 240, 241, by decide +kernel⟩

theorem wit_BudgetsClampsAndWear_13 : ∃ (s : State) (x i u : BitVec 16),
    alive s = true :=
  ⟨stUp, 1600, 240, 241, by decide +kernel⟩

theorem wit_BudgetsClampsAndWear_14 : ∃ (s : State) (x : BitVec 16),
    alive s = true :=
  ⟨stUp, 680, by decide +kernel⟩

theorem wit_BudgetsClampsAndWear_15 : ∃ (s : State) (n : Nat),
    alive s = true ∧ 60 ≤ s.pow.ledgerSecs ∧ (s.pins.pwrFailN = true ∨ ((s.rcd.flush.any fun f => f.powerFail) = false ∧ s.boot.saveDirty = false)) ∧ n < 2 :=
  ⟨stLedger, 1, by decide +kernel⟩

theorem wit_BudgetsClampsAndWear_16 : ∃ (s : State) (n : Nat),
    alive s = true ∧ 60 ≤ s.pow.ledgerSecs ∧ (s.pins.pwrFailN = true ∨ ((s.rcd.flush.any fun f => f.powerFail) = false ∧ s.boot.saveDirty = false)) ∧ 2 ≤ n :=
  ⟨stLedger, 2, by decide +kernel⟩

theorem wit_FirmwareIsLoadedAndChecked_1 : ∃ (s : State) (w : Writer) (v : BitVec 64),
    (alive s = true ∨ s.pow.phase = .recovery) ∧ accepts w 0xD010 2 v.toNat s = true ∧ rd Obj.FW_OFFSET s + 8 ≤ 0x800000 :=
  ⟨stUp, wI3c, 5, ⟨.inl (by decide +kernel), by decide +kernel, by decide +kernel⟩⟩

theorem wit_FirmwareIsLoadedAndChecked_2 : ∃ (s : State) (w : Writer) (v : BitVec 64),
    (alive s = true ∨ s.pow.phase = .recovery) ∧ accepts w 0xD010 2 v.toNat s = true ∧ 0x800000 < rd Obj.FW_OFFSET s + 8 :=
  ⟨wr Obj.FW_OFFSET 0x7FFFFC stUp, wI3c, 5, ⟨.inl (by decide +kernel), by decide +kernel, by decide +kernel⟩⟩

theorem wit_FirmwareIsLoadedAndChecked_3 : ∃ (s : State) (w : Writer) (v : BitVec 64),
    alive s = true ∧ accepts w 0xD010 3 v.toNat s = true ∧ floorRefusal v.toNat s = 0 :=
  ⟨stFloor, wI3c, 0x20000000000, by decide +kernel⟩

theorem wit_FirmwareIsLoadedAndChecked_5 : ∃ (s : State) (w : Writer) (v : BitVec 64),
    alive s = true ∧ accepts w 0xD010 3 v.toNat s = true ∧ floorRefusal v.toNat s ≠ 0 :=
  ⟨stUp, wI3c, 0x20000000000, by decide +kernel⟩

theorem wit_FirmwareIsLoadedAndChecked_6 : ∃ (s : State) (w : Writer),
    (alive s = true ∨ s.pow.phase = .recovery) ∧ accepts w 0xD010 4 1 s = true ∧ s.pow.phase ≠ .recovery :=
  ⟨stUp, wI3c, ⟨.inl (by decide +kernel), by decide +kernel, by decide +kernel⟩⟩

theorem wit_FirmwareIsLoadedAndChecked_7 : ∃ (s : State) (w : Writer),
    s.pow.phase = .recovery :=
  ⟨stRecovery, wI3c, by decide +kernel⟩

theorem wit_FirmwareIsLoadedAndChecked_8 : ∃ (s : State) (w : Writer),
    (alive s = true ∨ s.pow.phase = .recovery) ∧ accepts w 0xD010 4 2 s = true :=
  ⟨stUp, wI3c, ⟨.inl (by decide +kernel), by decide +kernel⟩⟩

theorem wit_FirmwareIsLoadedAndChecked_9 : ∃ (s : State) (w : Writer) (v : BitVec 8),
    alive s = true ∧ accepts w 0xD010 6 v.toNat s = true ∧ s.fuse.svn < v.toNat ∧ v.toNat ≤ rd Obj.IMAGE_SVN s ∧ (s.flash.pendingSlot.all fun k => decide (v.toNat ≤ cellNum (slotCells k s) 12 2)) = true :=
  ⟨wr Obj.IMAGE_SVN 9 stUp, wI3c, 7, by decide +kernel⟩

theorem wit_FirmwareIsLoadedAndChecked_10 : ∃ (s : State) (w : Writer) (v : BitVec 8),
    alive s = true ∧ accepts w 0xD010 6 v.toNat s = true ∧ (v.toNat ≤ s.fuse.svn ∨ rd Obj.IMAGE_SVN s < v.toNat ∨ (s.flash.pendingSlot.all fun k => decide (v.toNat ≤ cellNum (slotCells k s) 12 2)) = false) :=
  ⟨stUp, wI3c, 7, by decide +kernel⟩

theorem wit_FirmwareIsLoadedAndChecked_11 : ∃ (s : State) (w : Writer) (k : BitVec 8),
    alive s = true ∧ accepts w 0xD010 7 k.toNat s = true ∧ k.toNat ≠ s.boot.runKey ∧ (((List.range 4).filter fun j => j != k.toNat).all fun j => bitOf s.fuse.revoked.toNat j) = false :=
  ⟨stUp, wI3c, 2, by decide +kernel⟩

theorem wit_FirmwareIsLoadedAndChecked_12 : ∃ (s : State) (w : Writer) (k : BitVec 8),
    alive s = true ∧ accepts w 0xD010 7 k.toNat s = true ∧ (k.toNat = s.boot.runKey ∨ (((List.range 4).filter fun j => j != k.toNat).all fun j => bitOf s.fuse.revoked.toNat j) = true) :=
  ⟨stUp, wI3c, 0, by decide +kernel⟩

theorem wit_ReportsMeasuresAndDebug_1 : ∃ (s : State) (w : Writer),
    alive s = true ∧ accepts w 0xD020 6 1 s = true ∧ rd Obj.ATTEST_STATE s ≠ 1 ∧ s.sec.keyErased = false :=
  ⟨stUp, wI3c, by decide +kernel⟩

theorem wit_ReportsMeasuresAndDebug_2 : ∃ (s : State) (w : Writer),
    alive s = true ∧ accepts w 0xD020 6 1 s = true ∧ rd Obj.ATTEST_STATE s = 1 :=
  ⟨wr Obj.ATTEST_STATE 1 stUp, wI3c, by decide +kernel⟩

theorem wit_ReportsMeasuresAndDebug_3 : ∃ (s : State) (w : Writer),
    alive s = true ∧ accepts w 0xD020 6 1 s = true ∧ rd Obj.ATTEST_STATE s ≠ 1 ∧ s.sec.keyErased = true :=
  ⟨stErased, wI3c, by decide +kernel⟩

theorem wit_ReportsMeasuresAndDebug_4 : ∃ (s : State) (b : List Byte),
    alive s = true ∧ s.sec.attest = some b :=
  ⟨stReport, [], by decide +kernel⟩

theorem wit_ReportsMeasuresAndDebug_5 : ∃ (s : State),
    alive s = true ∧ s.sec.attest = none :=
  ⟨stUp, by decide +kernel⟩

theorem wit_ReportsMeasuresAndDebug_6 : ∃ (s : State) (w : Writer) (v : BitVec 32),
    alive s = true ∧ accepts w 0xD030 1 v.toNat s = true ∧ (tensorOf (v.toNat % 2 ^ 24) s).state = 1 :=
  ⟨stResident, wI3c, 0, by decide +kernel⟩

theorem wit_ReportsMeasuresAndDebug_7 : ∃ (s : State) (w : Writer) (v : BitVec 32),
    alive s = true ∧ accepts w 0xD030 1 v.toNat s = true ∧ (tensorOf (v.toNat % 2 ^ 24) s).state ≠ 1 :=
  ⟨stUp, wI3c, 0, by decide +kernel⟩

theorem wit_ReportsMeasuresAndDebug_8 : ∃ (s : State) (t : Nat) (rest : List Nat),
    alive s = true ∧ s.sec.measuring = t :: rest ∧ frozenAt 7 (tensorOf t s).home s = false ∧ rangeHeld (tensorOf t s).home (tensorOf t s).size s = false ∧ s.sec.measWritten = false ∧ snoopLines false [((tensorOf t s).home, (tensorOf t s).size)] s = [] :=
  ⟨stMeasuring, 0, [], by decide +kernel⟩

theorem wit_ReportsMeasuresAndDebug_9 : ∃ (s : State) (t : Nat) (rest : List Nat),
    alive s = true ∧ s.sec.measuring = t :: rest ∧ frozenAt 7 (tensorOf t s).home s = false ∧ rangeHeld (tensorOf t s).home (tensorOf t s).size s = true :=
  ⟨stMeasHeld, 0, [], by decide +kernel⟩

theorem wit_ReportsMeasuresAndDebug_10 : ∃ (s : State) (t : Nat) (rest : List Nat),
    alive s = true ∧ s.sec.measuring = t :: rest ∧ frozenAt 7 (tensorOf t s).home s = false ∧ rangeHeld (tensorOf t s).home (tensorOf t s).size s = false ∧ s.sec.measWritten = true :=
  ⟨{ stMeasuring with sec := { stMeasuring.sec with measWritten := true } }, 0, [], by decide +kernel⟩

theorem wit_ReportsMeasuresAndDebug_11 : ∃ (s : State) (t : Nat) (rest : List Nat),
    alive s = true ∧ s.sec.measuring = t :: rest ∧ frozenAt 7 (tensorOf t s).home s = true :=
  ⟨stMeasFrozen, 0, [], by decide +kernel⟩

theorem wit_ReportsMeasuresAndDebug_12 : ∃ (s : State),
    alive s = true ∧ s.sec.measuring = [] :=
  ⟨stUp, by decide +kernel⟩

theorem wit_ReportsMeasuresAndDebug_13 : ∃ (s : State) (w : Writer) (v : BitVec 64),
    alive s = true ∧ accepts w 0xD040 3 v.toNat s = true :=
  ⟨stUp, wI3c, 5, by decide +kernel⟩

theorem wit_ReportsMeasuresAndDebug_14 : ∃ (s : State) (w : Writer),
    alive s = true ∧ accepts w 0xD040 4 1 s = true ∧ s.sec.refusals < 3 :=
  ⟨stUp, wI3c, by decide +kernel⟩

theorem wit_ReportsMeasuresAndDebug_15 : ∃ (s : State) (w : Writer),
    alive s = true ∧ accepts w 0xD040 4 1 s = true ∧ 3 ≤ s.sec.refusals :=
  ⟨{ stUp with sec := { stUp.sec with refusals := 3 } }, wI3c, by decide +kernel⟩

theorem wit_ReportsMeasuresAndDebug_16 : ∃ (s : State) (w : Writer),
    alive s = true ∧ accepts w 0xD040 4 2 s = true :=
  ⟨stUp, wI3c, by decide +kernel⟩

theorem wit_ReportsMeasuresAndDebug_17 : ∃ (s : State) (i : TapInstr),
    rd Obj.DEBUG_SCOPE s = 0 :=
  ⟨stUp, .other, by decide +kernel⟩

theorem wit_PowerPinsAndResetsAct_1 : ∃ (s : State) (i : BitVec 6) (r p f l : Bool),
    s.pow.phase = .unpowered :=
  ⟨stOff0, 3, false, true, true, false, by decide +kernel⟩

theorem wit_PowerPinsAndResetsAct_2 : ∃ (s : State) (i : BitVec 6) (r p f l : Bool),
    s.pow.phase ≠ .unpowered :=
  ⟨stUp, 3, false, true, true, false, by decide +kernel⟩

theorem wit_PowerPinsAndResetsAct_3 : ∃ (s : State),
    s.pow.phase ≠ .unpowered :=
  ⟨stUp, by decide +kernel⟩

theorem wit_PowerPinsAndResetsAct_4 : ∃ (s : State),
    s.pow.phase = .unpowered :=
  ⟨stOff0, by decide +kernel⟩

theorem wit_PowerPinsAndResetsAct_5 : ∃ (s : State),
    s.pow.phase ≠ .unpowered ∧ s.pow.phase ≠ .held :=
  ⟨stUp, by decide +kernel⟩

theorem wit_PowerPinsAndResetsAct_6 : ∃ (s : State),
    (s.pow.phase = .unpowered ∨ s.pow.phase = .held) :=
  ⟨stOff0, by decide +kernel⟩

theorem wit_PowerPinsAndResetsAct_8 : ∃ (s : State),
    s.pow.phase = .active :=
  ⟨stUp, by decide +kernel⟩

theorem wit_PowerPinsAndResetsAct_9 : ∃ (s : State),
    s.pow.phase = .halted :=
  ⟨stHalted, by decide +kernel⟩

theorem wit_PowerPinsAndResetsAct_10 : ∃ (s : State),
    s.pow.phase = .held :=
  ⟨stHeldReset, by decide +kernel⟩

theorem wit_PowerPinsAndResetsAct_11 : ∃ (s : State),
    (s.pow.phase = .unpowered ∨ s.pow.phase = .recovery) :=
  ⟨stOff0, by decide +kernel⟩

theorem wit_PowerPinsAndResetsAct_13 : ∃ (s : State),
    alive s = true :=
  ⟨stUp, by decide +kernel⟩

theorem wit_PowerPinsAndResetsAct_14 : ∃ (s : State),
    alive s = true :=
  ⟨stUp, by decide +kernel⟩

theorem wit_PowerPinsAndResetsAct_15 : ∃ (s : State),
    alive s = true ∧ 2 ≤ s.boot.stepDone :=
  ⟨stUp, by decide +kernel⟩

theorem wit_PowerPinsAndResetsAct_16 : ∃ (s : State),
    (alive s = false ∨ s.boot.stepDone < 2) :=
  ⟨stOff0, by decide +kernel⟩

theorem wit_PowerPinsAndResetsAct_17 : ∃ (s : State) (a : BitVec 7),
    answers ⟨.i3c, 0⟩ s = true :=
  ⟨stUp, 5, by decide +kernel⟩

theorem wit_PowerPinsAndResetsAct_18 : ∃ (s : State),
    alive s = true ∧ s.host.up = true :=
  ⟨{ stUp with host := { stUp.host with up := true } }, by decide +kernel⟩

theorem wit_PowerPinsAndResetsAct_19 : ∃ (s : State),
    alive s = true ∧ s.host.up = false :=
  ⟨stUp, by decide +kernel⟩

theorem wit_BringupGoesStepByStep_1 : ∃ (s : State),
    alive s = true ∧ s.boot.stepDone = 0 ∧ s.boot.fwRunning = false ∧ rd Obj.FAULT_STATE s = 0 ∧ s.flash.pendingSlot = none :=
  ⟨stCold, by decide +kernel⟩

theorem wit_BringupGoesStepByStep_2 : ∃ (s : State) (k : Nat),
    alive s = true ∧ s.boot.stepDone = 0 ∧ s.boot.fwRunning = false ∧ rd Obj.FAULT_STATE s = 0 ∧ s.flash.pendingSlot = some k ∧ s.flash.pendTried = true :=
  ⟨stPending true, 1, by decide +kernel⟩

theorem wit_BringupGoesStepByStep_3 : ∃ (s : State) (k : Nat),
    alive s = true ∧ s.boot.stepDone = 0 ∧ s.boot.fwRunning = false ∧ rd Obj.FAULT_STATE s = 0 ∧ s.flash.pendingSlot = some k ∧ s.flash.pendTried = false :=
  ⟨stPending false, 1, by decide +kernel⟩

theorem wit_BringupGoesStepByStep_4 : ∃ (s : State),
    alive s = true ∧ (s.boot.stepDone ≠ 0 ∨ s.boot.fwRunning = true ∨ rd Obj.FAULT_STATE s ≠ 0) :=
  ⟨stUp, by decide +kernel⟩

theorem wit_BringupGoesStepByStep_5 : ∃ (s : State) (rt : List (Nat × Bool)) (un : List Nat) (errs : List (Nat × Nat × BitVec 288)),
    alive s = true ∧ atStep 2 s = true ∧ (rt.filter (·.2)).map (·.1) = un ∧ bringupLosses un errs = [] :=
  ⟨stStepN 1, [], [], [], by decide +kernel⟩

theorem wit_BringupGoesStepByStep_6 : ∃ (s : State) (rt : List (Nat × Bool)) (un : List Nat) (errs : List (Nat × Nat × BitVec 288)),
    alive s = true ∧ atStep 2 s = true ∧ (rt.filter (·.2)).map (·.1) = un ∧ bringupLosses un errs ≠ [] :=
  ⟨stStepN 1, [(3, true)], [3], [], by decide +kernel⟩

theorem wit_BringupGoesStepByStep_7 : ∃ (un : List Nat) (errs : List (Nat × Nat × BitVec 288)) (u : Nat),
    u < 304 ∧ selfCheckFails errs u = true :=
  ⟨[], [(3, 5, 0x01010101#288)], 3, by decide +kernel⟩

theorem wit_BringupGoesStepByStep_8 : ∃ (s : State) (t : State),
    alive s = true ∧ atStep 3 s = true ∧ (t = (if s.pins.laserEn = true ∧ s.net.laserOn = false then lightLinks { s with net := { s.net with laserOn := true } } else s)) ∧ (t.pins.laserEn = false ∨ (t.links.any fun l => l.state == .training) = false) :=
  ⟨stStepN 2, stStepN 2, by decide +kernel⟩

theorem wit_BringupGoesStepByStep_9 : ∃ (s : State) (t : State),
    alive s = true ∧ atStep 3 s = true ∧ (t = (if s.pins.laserEn = true ∧ s.net.laserOn = false then lightLinks { s with net := { s.net with laserOn := true } } else s)) ∧ t.pins.laserEn = true ∧ (t.links.any fun l => l.state == .training) = true :=
  ⟨stTraining3, stTraining3, by decide +kernel⟩

theorem wit_BringupGoesStepByStep_10 : ∃ (s : State) (w r : Nat),
    alive s = true ∧ atStep 4 s = true :=
  ⟨stStepN 3, 8, 5, by decide +kernel⟩

theorem wit_BringupGoesStepByStep_11 : ∃ (s : State) (w r : Nat),
    alive s = true ∧ atStep 4 s = true :=
  ⟨stStepN 3, 8, 5, by decide +kernel⟩

theorem wit_BringupGoesStepByStep_12 : ∃ (s : State) (n w r : Nat),
    alive s = true ∧ atStep 4 s = true ∧ 2 ≤ n :=
  ⟨stStepN 3, 2, 8, 5, by decide +kernel⟩

theorem wit_BringupGoesStepByStep_13 : ∃ (s : State),
    alive s = true ∧ atStep 5 s = true ∧ s.tim.servo = .locked :=
  ⟨{ stStepN 4 with tim := { stUp.tim with servo := .locked } }, by decide +kernel⟩

theorem wit_BringupGoesStepByStep_14 : ∃ (s : State),
    alive s = true ∧ atStep 5 s = true ∧ s.tim.servo ≠ .locked ∧ s.boot.stepAt + 1000000000 * rd Obj.COUNT_WAIT s ≤ s.clk.ticks :=
  ⟨wr Obj.COUNT_WAIT 0 (stStepN 4), by decide +kernel⟩

theorem wit_BringupGoesStepByStep_15 : ∃ (s : State),
    alive s = true ∧ atStep 6 s = true ∧ imageNow s = [] :=
  ⟨stStepN 5, by decide +kernel⟩

theorem wit_BringupGoesStepByStep_16 : ∃ (s : State) (t : State),
    alive s = true ∧ atStep 6 s = true ∧ (imageNow s).isEmpty = false ∧ validated ((imageNow s).map fun p => ⟨p.1, p.2⟩) s = (none, t) :=
  ⟨stSaved 1, (validated ((imageNow (stSaved 1)).map fun p => ⟨p.1, p.2⟩) (stSaved 1)).2, by decide +kernel⟩

theorem wit_BringupGoesStepByStep_17 : ∃ (s : State) (x : Failure) (t : State),
    alive s = true ∧ atStep 6 s = true ∧ (imageNow s).isEmpty = false ∧ validated ((imageNow s).map fun p => ⟨p.1, p.2⟩) s = (some x, t) :=
  ⟨stSaved 0, failSaved, (validated ((imageNow (stSaved 0)).map fun p => ⟨p.1, p.2⟩) (stSaved 0)).2, by decide +kernel⟩

theorem wit_BringupGoesStepByStep_18 : ∃ (s : State) (up : Bool),
    alive s = true ∧ atStep 7 s = true ∧ s.boot.ready = false :=
  ⟨{ stStepN 6 with boot := { (stStepN 6).boot with ready := false } }, true, by decide +kernel⟩

theorem wit_BringupGoesStepByStep_19 : ∃ (s : State) (rt : List (Nat × Bool)) (errs : List (Nat × Nat × BitVec 288)),
    alive s = true ∧ atStep 2 s = false :=
  ⟨stCold, [], [], by decide +kernel⟩

theorem wit_BringupGoesStepByStep_20 : ∃ (s : State),
    alive s = true ∧ atStep 3 s = false :=
  ⟨stCold, by decide +kernel⟩

theorem wit_BringupGoesStepByStep_21 : ∃ (s : State) (n w r : Nat),
    alive s = true ∧ atStep 4 s = false :=
  ⟨stCold, 0, 8, 5, by decide +kernel⟩

theorem wit_BringupGoesStepByStep_22 : ∃ (s : State),
    alive s = true ∧ atStep 5 s = false :=
  ⟨stCold, by decide +kernel⟩

theorem wit_BringupGoesStepByStep_23 : ∃ (s : State),
    alive s = true ∧ atStep 5 s = false :=
  ⟨stCold, by decide +kernel⟩

theorem wit_BringupGoesStepByStep_24 : ∃ (s : State),
    alive s = true ∧ atStep 6 s = false :=
  ⟨stCold, by decide +kernel⟩

theorem wit_BringupGoesStepByStep_25 : ∃ (s : State) (up : Bool),
    alive s = true ∧ atStep 7 s = false :=
  ⟨stCold, false, by decide +kernel⟩

theorem wit_FunctionsReset_1 : ∃ (s : State) (w : Writer) (f : Nat),
    alive s = true ∧ accepts w 0x2040 (f + 1) 0x5A s = true ∧ f ≤ 1 ∧ inSitout s = false :=
  ⟨stUp, wI3c, 0, by decide +kernel⟩

theorem wit_FunctionsReset_2 : ∃ (s : State) (w : Writer) (f : Nat),
    alive s = true ∧ accepts w 0x2040 (f + 1) 0x5A s = true ∧ f = 2 ∧ inSitout s = false :=
  ⟨stUp, wI3c, 2, by decide +kernel⟩

theorem wit_FunctionsReset_3 : ∃ (s : State) (w : Writer) (f : Nat),
    alive s = true ∧ accepts w 0x2040 (f + 1) 0x5A s = true ∧ f = 3 :=
  ⟨stUp, wI3c, 3, by decide +kernel⟩

theorem wit_FunctionsReset_4 : ∃ (s : State) (w : Writer) (f : Nat),
    alive s = true ∧ accepts w 0x2040 (f + 1) 0x5A s = true ∧ f = 4 :=
  ⟨stUp, wI3c, 4, by decide +kernel⟩

theorem wit_FunctionsReset_5 : ∃ (s : State) (w : Writer) (f : Nat),
    alive s = true ∧ accepts w 0x2040 (f + 1) 0x5A s = true ∧ f = 5 :=
  ⟨stUp, wI3c, 5, by decide +kernel⟩

theorem wit_FunctionsReset_6 : ∃ (s : State) (w : Writer) (f : Nat),
    alive s = true ∧ accepts w 0x2040 (f + 1) 0x5A s = true ∧ f = 6 :=
  ⟨stUp, wI3c, 6, by decide +kernel⟩

theorem wit_FunctionsReset_7 : ∃ (s : State) (w : Writer) (f : Nat),
    alive s = true ∧ accepts w 0x2040 (f + 1) 0x5A s = true ∧ f ≤ 2 ∧ inSitout s = true :=
  ⟨stSitout, wI3c, 0, by decide +kernel⟩

theorem wit_SwapsWaitOrAbort_1 : ∃ (s t : State) (c : Nat) (w : BitVec 256),
    alive s = true ∧ Issues c w t s ∧ cmdOk w.toNat = true ∧ cmdOp w.toNat = 0x03 ∧ gangBroken c (fld w.toNat 247 244) t = false ∧ (∀ a ∈ arraysOf (fld w.toNat 247 244), (arrayOf c a t).shadow ≠ .empty) ∧ (∃ a ∈ arraysOf (fld w.toNat 247 244), (arrayOf c a t).shadow = .loading) :=
  ⟨(stShadowCmd .loading (3 * 2 ^ 248 + 2 * 2 ^ 244)), (consumeClean (coreSector 0 0) (stShadowCmd .loading (3 * 2 ^ 248 + 2 * 2 ^ 244))).2, 0, BitVec.ofNat 256 (3 * 2 ^ 248 + 2 * 2 ^ 244), by decide, ⟨by decide, by decide, by decide, by decide, rfl⟩, by decide, by decide, by decide, by rw [show arraysOf (fld (BitVec.ofNat 256 (3 * 2 ^ 248 + 2 * 2 ^ 244)).toNat 247 244) = [1] from by decide]; decide, ⟨1, by decide, by decide⟩⟩

theorem wit_SwapsWaitOrAbort_2 : ∃ (s t : State) (c : Nat) (w : BitVec 256),
    alive s = true ∧ Issues c w t s ∧ cmdOk w.toNat = true ∧ cmdOp w.toNat = 0x03 ∧ (∃ a ∈ arraysOf (fld w.toNat 247 244), (arrayOf c a t).shadow = .empty) :=
  ⟨(stCmd (3 * 2 ^ 248 + 2 * 2 ^ 244)), (consumeClean (coreSector 0 0) (stCmd (3 * 2 ^ 248 + 2 * 2 ^ 244))).2, 0, BitVec.ofNat 256 (3 * 2 ^ 248 + 2 * 2 ^ 244), by decide, ⟨by decide, by decide, by decide, by decide, rfl⟩, by decide, by decide, ⟨1, by decide, by decide⟩⟩

theorem wit_SwapsWaitOrAbort_3 : ∃ (s t : State) (c acc : Nat) (w : BitVec 256) (errs : List (Nat × BitVec 288)) (k : Nat → List (Nat × BitVec 288) → Instr),
    (acc, k) ∈ passRows ∧ alive s = true ∧ Issues c w t s ∧ cmdOk w.toNat = true ∧ cmdOp w.toNat = 0x04 ∧ fld w.toNat 238 237 = acc ∧ bitOf w.toNat 239 = true ∧ t.pow.passHold = false ∧ t.pow.clamp = false ∧ gangBroken c (fld w.toNat 247 244) t = false ∧ (∀ a ∈ arraysOf (fld w.toNat 247 244), (arrayOf c a t).shadow ≠ .empty) ∧ (∃ a ∈ arraysOf (fld w.toNat 247 244), (arrayOf c a t).shadow = .loading) :=
  ⟨(stShadowCmd .loading (4 * 2 ^ 248 + 2 * 2 ^ 244 + 1 * 2 ^ 240 + 2 ^ 239)), (consumeClean (coreSector 0 0) (stShadowCmd .loading (4 * 2 ^ 248 + 2 * 2 ^ 244 + 1 * 2 ^ 240 + 2 ^ 239))).2, 0, 0, BitVec.ofNat 256 (4 * 2 ^ 248 + 2 * 2 ^ 244 + 1 * 2 ^ 240 + 2 ^ 239), [], .passSingle, by simp [passRows], by decide, ⟨by decide, by decide, by decide, by decide, rfl⟩, by decide, by decide, by decide, by decide, by decide, by decide, by decide, by rw [show arraysOf (fld (BitVec.ofNat 256 (4 * 2 ^ 248 + 2 * 2 ^ 244 + 1 * 2 ^ 240 + 2 ^ 239)).toNat 247 244) = [1] from by decide]; decide, ⟨1, by decide, by decide⟩⟩

theorem wit_SwapsWaitOrAbort_4 : ∃ (s t : State) (c acc : Nat) (w : BitVec 256) (errs : List (Nat × BitVec 288)) (k : Nat → List (Nat × BitVec 288) → Instr),
    (acc, k) ∈ passRows ∧ alive s = true ∧ Issues c w t s ∧ cmdOk w.toNat = true ∧ cmdOp w.toNat = 0x04 ∧ fld w.toNat 238 237 = acc ∧ bitOf w.toNat 239 = true ∧ t.pow.passHold = false ∧ t.pow.clamp = false ∧ (∃ a ∈ arraysOf (fld w.toNat 247 244), (arrayOf c a t).shadow = .empty) :=
  ⟨(stCmd (4 * 2 ^ 248 + 2 * 2 ^ 244 + 1 * 2 ^ 240 + 2 ^ 239)), (consumeClean (coreSector 0 0) (stCmd (4 * 2 ^ 248 + 2 * 2 ^ 244 + 1 * 2 ^ 240 + 2 ^ 239))).2, 0, 0, BitVec.ofNat 256 (4 * 2 ^ 248 + 2 * 2 ^ 244 + 1 * 2 ^ 240 + 2 ^ 239), [], .passSingle, by simp [passRows], by decide, ⟨by decide, by decide, by decide, by decide, rfl⟩, by decide, by decide, by decide, by decide, by decide, by decide, ⟨1, by decide, by decide⟩⟩

theorem wit_FlagWaitsCompleteByDistance_1 : ∃ (g t : Nat),
    g < 2 ^ 31 ∧ t < 2 ^ 31 :=
  ⟨3, 2 ^ 31 - 5, by decide +kernel⟩

theorem wit_FlagWaitsCompleteByDistance_2 : ∃ (s t : State) (c : Nat) (w : BitVec 256),
    alive s = true ∧ Issues c w t s ∧ cmdOk w.toNat = true ∧ cmdOp w.toNat = 0x30 ∧ bitOf w.toNat 247 = true ∧ reached (coreFlag (fld w.toNat 246 239) t) (fld w.toNat 238 208) = true :=
  ⟨(stCmd (0x30 * 2 ^ 248 + 2 ^ 247)), (consumeClean (coreSector 0 0) (stCmd (0x30 * 2 ^ 248 + 2 ^ 247))).2, 0, BitVec.ofNat 256 (0x30 * 2 ^ 248 + 2 ^ 247), by refine ⟨by decide, ⟨by decide, by decide, by decide, by decide, rfl⟩, ?_⟩; decide⟩

theorem wit_FlagWaitsCompleteByDistance_3 : ∃ (s t : State) (c : Nat) (w : BitVec 256),
    alive s = true ∧ Issues c w t s ∧ cmdOk w.toNat = true ∧ cmdOp w.toNat = 0x30 ∧ bitOf w.toNat 247 = true ∧ reached (coreFlag (fld w.toNat 246 239) t) (fld w.toNat 238 208) = false :=
  ⟨(stCmd (0x30 * 2 ^ 248 + 2 ^ 247 + 5 * 2 ^ 239 + 2 ^ 208)), (consumeClean (coreSector 0 0) (stCmd (0x30 * 2 ^ 248 + 2 ^ 247 + 5 * 2 ^ 239 + 2 ^ 208))).2, 0, BitVec.ofNat 256 (0x30 * 2 ^ 248 + 2 ^ 247 + 5 * 2 ^ 239 + 2 ^ 208), by refine ⟨by decide, ⟨by decide, by decide, by decide, by decide, rfl⟩, ?_⟩; decide⟩

theorem wit_FlagWaitsCompleteByDistance_4 : ∃ (s t : State) (c : Nat) (w : BitVec 256),
    alive s = true ∧ Issues c w t s ∧ cmdOk w.toNat = true ∧ cmdOp w.toNat = 0x30 ∧ bitOf w.toNat 247 = false ∧ reached (flagGen (fld w.toNat 246 239) t) (fld w.toNat 238 208) = false :=
  ⟨(stCmd (0x30 * 2 ^ 248 + 5 * 2 ^ 239 + 2 ^ 208)), (consumeClean (coreSector 0 0) (stCmd (0x30 * 2 ^ 248 + 5 * 2 ^ 239 + 2 ^ 208))).2, 0, BitVec.ofNat 256 (0x30 * 2 ^ 248 + 5 * 2 ^ 239 + 2 ^ 208), by refine ⟨by decide, ⟨by decide, by decide, by decide, by decide, rfl⟩, ?_⟩; decide⟩

theorem wit_FlagWaitsCompleteByDistance_5 : ∃ (s t : State) (c : Nat) (w : BitVec 256),
    alive s = true ∧ Issues c w t s ∧ cmdOk w.toNat = true ∧ cmdOp w.toNat = 0x30 ∧ bitOf w.toNat 247 = false ∧ reached (flagGen (fld w.toNat 246 239) t) (fld w.toNat 238 208) = true ∧ flagOutcome (fld w.toNat 246 239) t = 0 :=
  ⟨(stCmd (0x30 * 2 ^ 248 + 5 * 2 ^ 239)), (consumeClean (coreSector 0 0) (stCmd (0x30 * 2 ^ 248 + 5 * 2 ^ 239))).2, 0, BitVec.ofNat 256 (0x30 * 2 ^ 248 + 5 * 2 ^ 239), by refine ⟨by decide, ⟨by decide, by decide, by decide, by decide, rfl⟩, ?_⟩; decide⟩

theorem wit_FailedProgrammingRetriesOnce_1 : ∃ (s : State) (f : FlushRun) (img : RecImage) (k : Nat),
    flushAlive s = true ∧ s.rcd.flush = some f ∧ f.snap = some img ∧ f.retried = false ∧ erasedSlot (setSlot f.slot ⟨.invalid, none⟩ s) = some k :=
  ⟨stFlushed false, snapped false, snapshot runFlush stUp, 1, by decide +kernel⟩

theorem wit_FailedProgrammingRetriesOnce_2 : ∃ (s : State) (f : FlushRun) (img : RecImage),
    flushAlive s = true ∧ s.rcd.flush = some f ∧ f.snap = some img ∧ f.retried = true :=
  ⟨stFlushed true, snapped true, snapshot runFlush stUp, by decide +kernel⟩

theorem wit_FailedProgrammingRetriesOnce_3 : ∃ (s : State) (f : FlushRun) (img : RecImage),
    flushAlive s = true ∧ s.rcd.flush = some f ∧ f.snap = some img ∧ f.retried = false ∧ erasedSlot (setSlot f.slot ⟨.invalid, none⟩ s) = none :=
  ⟨stFlashFull, snapped false, snapshot runFlush stUp, by decide +kernel⟩

theorem wit_HeldCollectivesRefuseFreeze_1 : ∃ (s : State) (w : Writer) (v : BitVec 8),
    alive s = true ∧ accepts w 0x6201 1 v.toNat s = true ∧ bitOf v.toNat 0 = true ∧ s.col.slots ≠ [] :=
  ⟨stSlot, wI3c, 1, by decide +kernel⟩

theorem wit_HeldCollectivesRefuseFreeze_2 : ∃ (s : State) (c : Instr) (w : Writer) (tag len v : Nat),
    writesObject c w tag 0x6201 1 len v ∧ requestTaken w 0x6201 1 s = true ∧ writeGate w 0x6201 1 len v s = 0 ∧ nth false s.dict.stageMode (transportNum w.via) = false ∧ bitOf v 0 = true ∧ s.col.slots ≠ [] :=
  ⟨stSlot, .objectWrite wI3c 0x6201 1 1, wI3c, 0, objSize 0x6201 1, 1, .inr ⟨1, rfl, rfl, rfl, by decide⟩, by decide +kernel, by decide +kernel,
    by decide +kernel, by decide, by decide +kernel⟩

theorem wit_CountReadsAsOneValue : ∃ (s : State) (w : Writer) (a : BitVec 16) (b d : BitVec 24),
    dictIndex (dictHeader a b d) = 0x3000 ∧ dictSub (dictHeader a b d) = 1 ∧ headerCheck 1 (dictHeader a b d) 0 = 0 ∧ requestTaken w 0x3000 1 s = true ∧ firmwareDown s = false :=
  ⟨stUp, wI3c, BitVec.ofNat 16 256, BitVec.ofNat 24 (0x3000 * 256 + 1), 0, by decide +kernel⟩

theorem wit_SectorsKeepWhatIsWritten : ∃ (s : State) (n : Nat) (x : Sector),
    Memory.wf s.mem = true :=
  ⟨stUp, 5, ⟨7, 9⟩, by decide +kernel⟩

theorem wit_StepRunsTheFrontCommand_2 : ∃ (s : State),
    s.pending = [] :=
  ⟨stUp, by decide +kernel⟩

theorem wit_ResetLeavesTheStatedValues_2 : ∃ (r : RegId),
    r.dflt < 2 ^ 64 :=
  ⟨Obj.MX_HEADROOM, by decide +kernel⟩

theorem wit_EveryStepTakesOneCommand : ∃ (s : State) (c : Instr) (q : List Instr),
    s.pending = c :: q :=
  ⟨{ stUp with pending := [.countStep] }, .countStep, [], by decide +kernel⟩

theorem wit_CountHasFewMovers : ∃ (s : State) (t : State) (c : Instr),
    movesCount c = false ∧ exec c s = .next t :=
  ⟨stUp, _, .countLock, by decide, rfl⟩

theorem wit_FusesOnlyRise : ∃ (s t : State) (v k : Nat),
    step s = .next t ∧ v ≤ s.fuse.svn ∧ bitOf s.fuse.revoked.toNat k = true :=
  ⟨{ stUp with fuse := ⟨3, 1⟩ }, _, 2, 0, rfl, by decide, by decide⟩

theorem wit_DeadModuleIgnoresCommands : ∃ (s : State) (c : Instr),
    alive s = false ∧ actsAlways c = false :=
  ⟨stHalted, .countLock, by decide +kernel⟩

theorem wit_MemoryStaysOutsideStores : ∃ (s : State) (t : State) (c : Instr),
    storesNothing c = true ∧ exec c s = .next t :=
  ⟨stUp, _, .countStep, by decide, rfl⟩

theorem wit_FlowCommandsIssue_1 : ∃ (s t : State) (c : Nat) (w : BitVec 256),
    alive s = true ∧ Issues c w t s ∧ cmdOk w.toNat = true ∧ cmdOp w.toNat = 0x40 :=
  ⟨(stCmd (0x40 * 2 ^ 248 + 5 * 2 ^ 222)), (consumeClean (coreSector 0 0) (stCmd (0x40 * 2 ^ 248 + 5 * 2 ^ 222))).2, 0, BitVec.ofNat 256 (0x40 * 2 ^ 248 + 5 * 2 ^ 222), by refine ⟨by decide, ⟨by decide, by decide, by decide, by decide, rfl⟩, ?_⟩; decide⟩

theorem wit_FlowCommandsIssue_2 : ∃ (s t : State) (c : Nat) (w : BitVec 256),
    alive s = true ∧ Issues c w t s ∧ cmdOk w.toNat = true ∧ cmdOp w.toNat = 0x41 ∧ (nth 0 (coreOf c t).ctrs (fld w.toNat 247 246) + (2 ^ 24 - 1)) % 2 ^ 24 ≠ 0 :=
  ⟨(stCmd (0x41 * 2 ^ 248 + 5 * 2 ^ 230)), (consumeClean (coreSector 0 0) (stCmd (0x41 * 2 ^ 248 + 5 * 2 ^ 230))).2, 0, BitVec.ofNat 256 (0x41 * 2 ^ 248 + 5 * 2 ^ 230), by refine ⟨by decide, ⟨by decide, by decide, by decide, by decide, rfl⟩, ?_⟩; decide⟩

theorem wit_FlowCommandsIssue_3 : ∃ (s t : State) (c : Nat) (w : BitVec 256),
    alive s = true ∧ Issues c w t s ∧ cmdOk w.toNat = true ∧ cmdOp w.toNat = 0x41 ∧ (nth 0 (coreOf c t).ctrs (fld w.toNat 247 246) + (2 ^ 24 - 1)) % 2 ^ 24 = 0 :=
  ⟨(stLast (0x41 * 2 ^ 248 + 5 * 2 ^ 230)), (consumeClean (coreSector 0 0) (stLast (0x41 * 2 ^ 248 + 5 * 2 ^ 230))).2, 0, BitVec.ofNat 256 (0x41 * 2 ^ 248 + 5 * 2 ^ 230), by refine ⟨by decide, ⟨by decide, by decide, by decide, by decide, rfl⟩, ?_⟩; decide⟩

theorem wit_FlowCommandsIssue_4 : ∃ (s t : State) (c : Nat) (w : BitVec 256),
    alive s = true ∧ Issues c w t s ∧ cmdOk w.toNat = true ∧ cmdOp w.toNat = 0x31 :=
  ⟨(stCmd (0x31 * 2 ^ 248 + 5 * 2 ^ 242)), (consumeClean (coreSector 0 0) (stCmd (0x31 * 2 ^ 248 + 5 * 2 ^ 242))).2, 0, BitVec.ofNat 256 (0x31 * 2 ^ 248 + 5 * 2 ^ 242), by refine ⟨by decide, ⟨by decide, by decide, by decide, by decide, rfl⟩, ?_⟩; decide⟩

theorem wit_FlowCommandsIssue_5 : ∃ (s t : State) (c : Nat) (w : BitVec 256),
    alive s = true ∧ Issues c w t s ∧ cmdOk w.toNat = true ∧ cmdOp w.toNat = 0x32 ∧ syncMet c w.toNat t = true :=
  ⟨(stCmd (0x32 * 2 ^ 248 + 15 * 2 ^ 244)), (consumeClean (coreSector 0 0) (stCmd (0x32 * 2 ^ 248 + 15 * 2 ^ 244))).2, 0, BitVec.ofNat 256 (0x32 * 2 ^ 248 + 15 * 2 ^ 244), by refine ⟨by decide, ⟨by decide, by decide, by decide, by decide, rfl⟩, ?_⟩; decide⟩

theorem wit_FlowCommandsIssue_6 : ∃ (s t : State) (c : Nat) (w : BitVec 256),
    alive s = true ∧ Issues c w t s ∧ cmdOk w.toNat = true ∧ cmdOp w.toNat = 0x32 ∧ syncMet c w.toNat t = false :=
  ⟨(stVops (0x32 * 2 ^ 248 + 2 ^ 243)), (consumeClean (coreSector 0 0) (stVops (0x32 * 2 ^ 248 + 2 ^ 243))).2, 0, BitVec.ofNat 256 (0x32 * 2 ^ 248 + 2 ^ 243), by refine ⟨by decide, ⟨by decide, by decide, by decide, by decide, rfl⟩, ?_⟩; decide⟩

theorem wit_FlowCommandsIssue_7 : ∃ (s t : State) (c : Nat) (w : BitVec 256) (x : Stream),
    alive s = true ∧ Issues c w t s ∧ cmdOk w.toNat = true ∧ cmdOp w.toNat = 0x21 ∧ heldStream (streamEng c (fld w.toNat 247 246) t) = some x ∧ fld w.toNat 245 228 ≤ x.size ∧ cwaitMet c w.toNat t = true :=
  ⟨(stStream (0x21 * 2 ^ 248)), (consumeClean (coreSector 0 0) (stStream (0x21 * 2 ^ 248))).2, 0, BitVec.ofNat 256 (0x21 * 2 ^ 248), streamTest, by refine ⟨by decide, ⟨by decide, by decide, by decide, by decide, rfl⟩, ?_⟩; decide⟩

theorem wit_FlowCommandsIssue_8 : ∃ (s t : State) (c : Nat) (w : BitVec 256) (x : Stream),
    alive s = true ∧ Issues c w t s ∧ cmdOk w.toNat = true ∧ cmdOp w.toNat = 0x21 ∧ heldStream (streamEng c (fld w.toNat 247 246) t) = some x ∧ fld w.toNat 245 228 ≤ x.size ∧ cwaitMet c w.toNat t = false :=
  ⟨(stStream (0x21 * 2 ^ 248 + 2 ^ 228)), (consumeClean (coreSector 0 0) (stStream (0x21 * 2 ^ 248 + 2 ^ 228))).2, 0, BitVec.ofNat 256 (0x21 * 2 ^ 248 + 2 ^ 228), streamTest, by refine ⟨by decide, ⟨by decide, by decide, by decide, by decide, rfl⟩, ?_⟩; decide⟩

theorem wit_FlowCommandsIssue_9 : ∃ (s t : State) (c : Nat) (w : BitVec 256),
    alive s = true ∧ Issues c w t s ∧ cmdOk w.toNat = true ∧ cmdOp w.toNat = 0x30 ∧ fwaitMet w.toNat t = true ∧ (bitOf w.toNat 247 = true ∨ flagOutcome (fld w.toNat 246 239) t = 0 ∨ bitOf w.toNat 207 = true) :=
  ⟨(stCmd (0x30 * 2 ^ 248 + 2 ^ 247)), (consumeClean (coreSector 0 0) (stCmd (0x30 * 2 ^ 248 + 2 ^ 247))).2, 0, BitVec.ofNat 256 (0x30 * 2 ^ 248 + 2 ^ 247), by refine ⟨by decide, ⟨by decide, by decide, by decide, by decide, rfl⟩, ?_⟩; decide⟩

theorem wit_FlowCommandsIssue_10 : ∃ (s t : State) (c : Nat) (w : BitVec 256),
    alive s = true ∧ Issues c w t s ∧ cmdOk w.toNat = true ∧ cmdOp w.toNat = 0x30 ∧ fwaitMet w.toNat t = true ∧ bitOf w.toNat 247 = false ∧ flagOutcome (fld w.toNat 246 239) t = 1 ∧ bitOf w.toNat 207 = false :=
  ⟨(wr (Obj.FLAG 5) (2 ^ 31) (stCmd (0x30 * 2 ^ 248 + 5 * 2 ^ 239))), (consumeClean (coreSector 0 0) (wr (Obj.FLAG 5) (2 ^ 31) (stCmd (0x30 * 2 ^ 248 + 5 * 2 ^ 239)))).2, 0, BitVec.ofNat 256 (0x30 * 2 ^ 248 + 5 * 2 ^ 239), by refine ⟨by decide, ⟨by decide, by decide, by decide, by decide, rfl⟩, ?_⟩; decide⟩

theorem wit_FlowCommandsIssue_11 : ∃ (s t : State) (c : Nat) (w : BitVec 256),
    alive s = true ∧ Issues c w t s ∧ cmdOk w.toNat = true ∧ cmdOp w.toNat = 0x30 ∧ fwaitMet w.toNat t = false :=
  ⟨(stCmd (0x30 * 2 ^ 248 + 5 * 2 ^ 239 + 2 ^ 208)), (consumeClean (coreSector 0 0) (stCmd (0x30 * 2 ^ 248 + 5 * 2 ^ 239 + 2 ^ 208))).2, 0, BitVec.ofNat 256 (0x30 * 2 ^ 248 + 5 * 2 ^ 239 + 2 ^ 208), by refine ⟨by decide, ⟨by decide, by decide, by decide, by decide, rfl⟩, ?_⟩; decide⟩

theorem wit_FlowCommandsIssue_12 : ∃ (s t : State) (c : Nat) (w : BitVec 256) (a : Nat),
    alive s = true ∧ Issues c w t s ∧ cmdOk w.toNat = true ∧ (coreOf c s).waitAt = some a ∧ (coreOf c s).status = 2 ∧ (coreOf c s).waitTmo ≠ 0 ∧ a + (coreOf c s).waitTmo * 2 ^ beatB s ≤ s.clk.ticks ∧ ((cmdOp w.toNat = 0x30 ∧ fwaitMet w.toNat s = false) ∨ (cmdOp w.toNat = 0x21 ∧ cwaitMet c w.toNat s = false)) :=
  ⟨(stWaiting (0x30 * 2 ^ 248 + 5 * 2 ^ 239 + 2 ^ 208)), (consumeClean (coreSector 0 0) (stWaiting (0x30 * 2 ^ 248 + 5 * 2 ^ 239 + 2 ^ 208))).2, 0, BitVec.ofNat 256 (0x30 * 2 ^ 248 + 5 * 2 ^ 239 + 2 ^ 208), 0, by refine ⟨by decide, ⟨by decide, by decide, by decide, by decide, rfl⟩, ?_⟩; decide⟩

theorem wit_FlowCommandsIssue_13 : ∃ (s t : State) (c : Nat) (w : BitVec 256),
    alive s = true ∧ Issues c w t s ∧ cmdOk w.toNat = true ∧ cmdOp w.toNat = 0x7F ∧ coreIdle (coreOf c t) = false :=
  ⟨(stVops (0x7F * 2 ^ 248)), (consumeClean (coreSector 0 0) (stVops (0x7F * 2 ^ 248))).2, 0, BitVec.ofNat 256 (0x7F * 2 ^ 248), by refine ⟨by decide, ⟨by decide, by decide, by decide, by decide, rfl⟩, ?_⟩; decide⟩

theorem wit_FlowCommandsIssue_14 : ∃ (s t : State) (c : Nat) (w : BitVec 256),
    alive s = true ∧ Issues c w t s ∧ cmdOk w.toNat = true ∧ cmdOp w.toNat = 0x7F ∧ coreIdle (coreOf c t) = true ∧ (coreOf c t).task.isNone = false ∧ (∀ e < 4, (streamEng c e t).run = none) ∧ (coreOf c t).engines.length = 4 :=
  ⟨(stCmd (0x7F * 2 ^ 248)), (consumeClean (coreSector 0 0) (stCmd (0x7F * 2 ^ 248))).2, 0, BitVec.ofNat 256 (0x7F * 2 ^ 248), by refine ⟨by decide, ⟨by decide, by decide, by decide, by decide, rfl⟩, ?_⟩; decide⟩

theorem wit_FlowCommandsIssue_15 : ∃ (s t : State) (c : Nat) (w : BitVec 256),
    alive s = true ∧ Issues c w t s ∧ cmdOk w.toNat = false :=
  ⟨(stCmd (0x77 * 2 ^ 248)), (consumeClean (coreSector 0 0) (stCmd (0x77 * 2 ^ 248))).2, 0, BitVec.ofNat 256 (0x77 * 2 ^ 248), by refine ⟨by decide, ⟨by decide, by decide, by decide, by decide, rfl⟩, ?_⟩; decide⟩

theorem wit_WeightSetsAndModes_1 : ∃ (s t : State) (c : Nat) (w : BitVec 256),
    alive s = true ∧ Issues c w t s ∧ cmdOk w.toNat = true ∧ cmdOp w.toNat = 0x01 ∧ ((coreOf c t).arrays.any fun a => !a.flight.isEmpty || a.group.isSome) = false ∧ (bitOf w.toNat 247 = false ∨ ∀ a < 4, fld w.toNat (240 + 2 * a) (239 + 2 * a) = 0) :=
  ⟨(stCmd (2 ^ 248 + 2 ^ 247)), (consumeClean (coreSector 0 0) (stCmd (2 ^ 248 + 2 ^ 247))).2, 0, BitVec.ofNat 256 (2 ^ 248 + 2 ^ 247), by refine ⟨by decide, ⟨by decide, by decide, by decide, by decide, rfl⟩, ?_⟩; decide⟩

theorem wit_WeightSetsAndModes_2 : ∃ (s t : State) (c : Nat) (w : BitVec 256),
    alive s = true ∧ Issues c w t s ∧ cmdOk w.toNat = true ∧ cmdOp w.toNat = 0x01 ∧ ((coreOf c t).arrays.any fun a => !a.flight.isEmpty || a.group.isSome) = true :=
  ⟨(stGroup (2 ^ 248)), (consumeClean (coreSector 0 0) (stGroup (2 ^ 248))).2, 0, BitVec.ofNat 256 (2 ^ 248), by refine ⟨by decide, ⟨by decide, by decide, by decide, by decide, rfl⟩, ?_⟩; decide⟩

theorem wit_WeightSetsAndModes_3 : ∃ (s t u : State) (c : Nat) (w : BitVec 256) (x : WeightSet) (errs : List (Nat × BitVec 288)),
    alive s = true ∧ Issues c w t s ∧ cmdOk w.toNat = true ∧ cmdOp w.toNat = 0x02 ∧ gangBroken c (fld w.toNat 247 244) t = false ∧ (∀ a ∈ arraysOf (fld w.toNat 247 244), (arrayOf c a t).shadow = .empty) ∧ (bitOf w.toNat 235 = false ∨ frozenAt 3 (0x20000000000 / 32) t = false) ∧ snoopLines false (loadRanges w.toNat) t = [] ∧ readSet ⟨c, 5, errs, []⟩ w.toNat t = (.ok x, u) :=
  ⟨stLoad, rdLoad, rdLoad, 0, wLoad, setLoad, [], by decide +kernel, by refine ⟨?_, ?_, ?_, ?_, rfl⟩ <;> decide +kernel, by decide +kernel, by decide +kernel,
    by decide +kernel, by decide +kernel, .inl (by decide +kernel), by decide +kernel, load_set⟩

theorem wit_WeightSetsAndModes_4 : ∃ (s t : State) (c : Nat) (w : BitVec 256) (errs : List (Nat × BitVec 288)),
    alive s = true ∧ Issues c w t s ∧ cmdOk w.toNat = true ∧ cmdOp w.toNat = 0x02 ∧ gangBroken c (fld w.toNat 247 244) t = false ∧ (∀ a ∈ arraysOf (fld w.toNat 247 244), (arrayOf c a t).shadow = .empty) ∧ (bitOf w.toNat 235 = false ∨ frozenAt 3 (0x20000000000 / 32) t = false) ∧ snoopLines false (loadRanges w.toNat) t ≠ [] :=
  ⟨stLoadFloor, (consumeClean (coreSector 0 0) stLoadFloor).2, 0, wFloor, [], by decide +kernel, by refine ⟨?_, ?_, ?_, ?_, rfl⟩ <;> decide +kernel, by decide +kernel, by decide +kernel,
    by decide +kernel, by decide +kernel, .inr (by decide +kernel), by decide +kernel⟩

theorem wit_WeightSetsAndModes_5 : ∃ (s : State) (c a : Nat),
    alive s = true ∧ (arrayOf c a s).shadow = .loading :=
  ⟨stShadow .loading, 0, 1, by decide⟩

theorem wit_WeightSetsAndModes_6 : ∃ (s t : State) (c : Nat) (w : BitVec 256),
    alive s = true ∧ Issues c w t s ∧ cmdOk w.toNat = true ∧ cmdOp w.toNat = 0x03 ∧ gangBroken c (fld w.toNat 247 244) t = false ∧ (∀ a ∈ arraysOf (fld w.toNat 247 244), (arrayOf c a t).shadow = .ready) :=
  ⟨(stShadowCmd .ready (3 * 2 ^ 248 + 2 * 2 ^ 244)), (consumeClean (coreSector 0 0) (stShadowCmd .ready (3 * 2 ^ 248 + 2 * 2 ^ 244))).2, 0, BitVec.ofNat 256 (3 * 2 ^ 248 + 2 * 2 ^ 244), by refine ⟨by decide, ⟨by decide, by decide, by decide, by decide, rfl⟩, ?_⟩; decide⟩

theorem wit_WeightSetsAndModes_7 : ∃ (s t : State) (c : Nat) (w : BitVec 256),
    alive s = true ∧ Issues c w t s ∧ cmdOk w.toNat = true ∧ cmdOp w.toNat = 0x05 ∧ gangBroken c (fld w.toNat 247 244) t = false :=
  ⟨(stCmd (5 * 2 ^ 248 + 2 ^ 244)), (consumeClean (coreSector 0 0) (stCmd (5 * 2 ^ 248 + 2 ^ 244))).2, 0, BitVec.ofNat 256 (5 * 2 ^ 248 + 2 ^ 244), by refine ⟨by decide, ⟨by decide, by decide, by decide, by decide, rfl⟩, ?_⟩; decide⟩

theorem wit_PassesIssueAndPublish_1 : ∃ (s t u v x : State) (c acc mask span : Nat) (w : BitVec 256) (errs : List (Nat × BitVec 288)) (k : Nat → List (Nat × BitVec 288) → Instr) (b : BindState),
    (acc, k) ∈ passRows ∧ alive s = true ∧ Issues c w t s ∧ cmdOk w.toNat = true ∧ cmdOp w.toNat = 0x04 ∧ fld w.toNat 238 237 = acc ∧ t.pow.passHold = false ∧ t.pow.clamp = false ∧ gangBroken c (fld w.toNat 247 244) t = false ∧ (bitOf w.toNat 239 = true → ∀ a ∈ arraysOf (fld w.toNat 247 244), (arrayOf c a t).shadow = .ready) ∧ (∀ a ∈ arraysOf (fld w.toNat 247 244), passBroken (coreOf c t) a acc (fld w.toNat 236 225 + 1) (fld w.toNat 243 240) (bitOf w.toNat 239) = false) ∧ readShift c w.toNat t = (.ok (mask, span), u) ∧ bindState c w.toNat (fld w.toNat 236 225 + 1) u = b ∧ (b ≠ .wait ∧ ∀ f, b ≠ .fault f) ∧ x = (if bitOf w.toNat 239 then forEach (arraysOf (fld w.toNat 247 244)) (fun a => modArray c a swapped) u else u) ∧ passArrays c (coreOf c x) errs (passPlan acc w.toNat mask span b x)
        (arraysOf (fld w.toNat 247 244)) x = (none, v) :=
  ⟨stPass, rdPass, rdPass, (passArrays 0 (coreOf 0 rdPass) [] (passPlan 1 wPass.toNat 0 1 .none_ rdPass) [0] rdPass).2, rdPass, 0, 1, 0, 1, wPass, [],
    .passOpen, .none_, by simp [passRows], by decide, ⟨by decide, by decide, by decide, by decide, rfl⟩, by decide, by decide,
    by decide, by decide, by decide, by decide, by decide, by decide, rfl, rfl, by simp, rfl,
    noneOf (passArrays 0 (coreOf 0 rdPass) [] (passPlan 1 wPass.toNat 0 1 .none_ rdPass) [0] rdPass) (by decide +kernel)⟩

theorem wit_PassesIssueAndPublish_2 : ∃ (s : State) (c a : Nat) (f : PassFlight) (rest : List PassFlight),
    alive s = true ∧ (arrayOf c a s).flight = f :: rest ∧ s.pow.clamp = false ∧ ringFree c (if (coreOf c s).gang then 0 else a) (bySector f.writes) s = true :=
  ⟨stFlight, 0, 1, PassFlight.init, [], by decide⟩

theorem wit_PassesIssueAndPublish_3 : ∃ (s : State) (c a : Nat) (f : PassFlight) (rest : List PassFlight),
    alive s = true ∧ (arrayOf c a s).flight = f :: rest ∧ s.pow.clamp = false ∧ ringFree c (if (coreOf c s).gang then 0 else a) (bySector f.writes) s = true ∧ f.writes ≠ [] :=
  ⟨stFlightW, 0, 1, flightW, [], by decide⟩

theorem wit_PassesIssueAndPublish_4 : ∃ (s : State) (c a : Nat) (f : PassFlight) (rest : List PassFlight) (bad : Bool),
    alive s = true ∧ (arrayOf c a s).flight = f :: rest ∧ (s.pow.clamp = true ∨ ringFree c (if (coreOf c s).gang then 0 else a) (bySector f.writes) s = false) :=
  ⟨{ stFlight with pow := { stFlight.pow with clamp := true } }, 0, 1, PassFlight.init, [], false, by decide⟩

theorem wit_VectorOperationsIssueAndComplete_1 : ∃ (s t u : State) (c op : Nat) (w : BitVec 256) (errs : List (Nat × BitVec 288)) (k : Nat → List (Nat × BitVec 288) → Instr) (v : VopFlight),
    (op, k) ∈ vopRows ∧ alive s = true ∧ Issues c w t s ∧ cmdOk w.toNat = true ∧ cmdOp w.toNat = 0x10 ∧ fld w.toNat 247 240 = op ∧ (coreOf c t).vops = [] ∧ vopBody op ⟨c, 4, errs, []⟩ (stepSeed t) w.toNat t = (.ok v, u) :=
  ⟨stVop, rdVop, (vopBody 1 ⟨0, 4, [], []⟩ (stepSeed rdVop) wVop.toNat rdVop).2, 0, 1, wVop, [], .vopAdd,
    gotOf VopFlight.init (vopBody 1 ⟨0, 4, [], []⟩ (stepSeed rdVop) wVop.toNat rdVop), by simp [vopRows], by decide,
    ⟨by decide, by decide, by decide, by decide, rfl⟩, by decide, by decide, by decide, by decide,
    okOf VopFlight.init _ (by decide +kernel)⟩

theorem wit_VectorOperationsIssueAndComplete_2 : ∃ (s : State) (c : Nat) (v : VopFlight) (rest : List VopFlight),
    alive s = true ∧ (coreOf c s).vops = v :: rest ∧ ringFree c 4 (bySector v.writes) s = true :=
  ⟨stVops (0x7F * 2 ^ 248), 0, VopFlight.init, [], by decide⟩

theorem wit_VectorOperationsIssueAndComplete_3 : ∃ (s : State) (c : Nat) (v : VopFlight) (rest : List VopFlight),
    alive s = true ∧ (coreOf c s).vops = v :: rest ∧ ringFree c 4 (bySector v.writes) s = true :=
  ⟨stVops (0x7F * 2 ^ 248), 0, VopFlight.init, [], by decide⟩

theorem wit_TasksAreTakenAndBegin_1 : ∃ (s : State) (q : Nat) (e : BitVec 1024),
    alive s = true ∧ entryKind e = 1 ∧ queueOpen q s = true ∧ bufferFull q s = false ∧ queueTurn q s = true ∧ inSitout s = false ∧ taskBodyOk { Task.init with queue := q, body := e, phase := rd Obj.PHASE s } s = true :=
  ⟨stHost, 0, entTask, by decide⟩

theorem wit_TasksAreTakenAndBegin_2 : ∃ (s : State) (q : Nat) (e : BitVec 1024),
    alive s = true ∧ entryKind e = 1 ∧ queueOpen q s = true ∧ bufferFull q s = false ∧ queueTurn q s = true ∧ inSitout s = false ∧ taskBodyOk { Task.init with queue := q, body := e, phase := rd Obj.PHASE s } s = false :=
  ⟨stHost, 0, entBad, by decide⟩

theorem wit_TasksAreTakenAndBegin_3 : ∃ (s u : State) (q : Nat) (e : BitVec 1024),
    alive s = true ∧ entryKind e = 3 ∧ fld e.toNat 998 0 = 0 ∧ queueOpen q s = true ∧ bufferFull q s = false ∧ queueTurn q s = true ∧ u = modQueue q (fun x => { x with
          barriers := x.barriers ++ [(entryCid e, entryIrq e, (queueOf q s).open_)], waiting := !(queueOf q s).open_.isEmpty })
          (takeHead q (entryCid e) s) :=
  ⟨stHost, modQueue 0 (fun x => { x with
          barriers := x.barriers ++ [(entryCid entBarrier, entryIrq entBarrier, (queueOf 0 stHost).open_)], waiting := !(queueOf 0 stHost).open_.isEmpty })
          (takeHead 0 (entryCid entBarrier) stHost), 0, entBarrier, by decide⟩

theorem wit_TasksAreTakenAndBegin_4 : ∃ (s : State) (q cid : Nat) (t : Task),
    alive s = true ∧ s.tasks.find? (fun t => t.queue == q && t.key % 65536 == cid && t.state == .waiting) = some t ∧ running 0 s = true ∧ running 1 s = true ∧ startMet t s = true ∧ resumeFirst t s = false ∧ coresFree t s = true ∧ ((preloadRanges t s).any fun r => frozenAt 3 r.1 s || rangeHeld r.1 r.2 s) = false ∧ snoopLines false (preloadRanges t s) s = [] :=
  ⟨stTask, 0, 0, tskTest, by decide⟩

theorem wit_TasksAreTakenAndBegin_5 : ∃ (s u : State) (t : Task),
    (t.preloads.find? fun p => !preloadOk p s) = none ∧ preloadAll t s = (true, u) :=
  ⟨stTask, (preloadAll tskTest stTask).2, tskTest, by decide⟩

theorem wit_TasksAreTakenAndBegin_6 : ∃ (s : State) (q cid : Nat) (t : Task),
    alive s = true ∧ s.tasks.find? (fun t => t.queue == q && t.key % 65536 == cid && t.state == .waiting) = some t ∧ running 0 s = true ∧ running 1 s = true ∧ startMet t s = true ∧ resumeFirst t s = false ∧ coresFree t s = false ∧ (∀ u ∈ holders t s, u.prio < t.prio ∧ u.spill ≠ 0) :=
  ⟨stClaim, 0, 1, tskHigh, by decide⟩

theorem wit_TasksAreTakenAndBegin_7 : ∃ (s : State) (c : Nat) (t : Task),
    alive s = true ∧ taskOn c s = some t ∧ (coreOf c s).preempting = true ∧ atBoundary (coreOf c s) = true ∧ spillHeld t [c] s = false ∧ snoopLines true [spillRange t s c] s = [] ∧ (t.cores.any fun k => (coreOf k (saveCore t c s)).task == some t.key) = true :=
  ⟨stPre2, 1, tskTwo, by decide +kernel⟩

theorem wit_TasksAreTakenAndBegin_8 : ∃ (s : State) (c : Nat) (t : Task),
    alive s = true ∧ taskOn c s = some t ∧ (coreOf c s).preempting = true ∧ atBoundary (coreOf c s) = true ∧ spillHeld t [c] s = false ∧ snoopLines true [spillRange t s c] s = [] ∧ (t.cores.any fun k => (coreOf k (saveCore t c s)).task == some t.key) = false :=
  ⟨stPre1, 0, tskRun, by decide +kernel⟩

theorem wit_TasksAreTakenAndBegin_9 : ∃ (s u v : State) (q cid : Nat) (t : Task) (ks : List (Nat × Core)),
    alive s = true ∧ s.tasks.find? (fun t => t.queue == q && t.key % 65536 == cid && mayResume t s) = some t ∧ running 0 s = true ∧ running 1 s = true ∧ spillHeld t (t.saved.map (·.1)) s = false ∧ snoopLines false (t.saved.map fun p => spillRange t s p.1) s = [] ∧ u = forEach (t.cores.filter fun c => !(t.saved.any fun p => p.1 == c)) (fun c => modCore c fun k => { k with task := some t.key, status := 0 }) s ∧ restoreCores t t.saved u = (.ok ks, v) :=
  ⟨stResume, stResume, (restoreCores tskSaved tskSaved.saved stResume).2, 0, 0, tskSaved, gotOf [] (restoreCores tskSaved tskSaved.saved stResume),
    by decide, by decide, by decide, by decide, by decide, by decide, rfl, okOf [] _ (by decide +kernel)⟩

theorem wit_StreamsStartAndStop_1 : ∃ (s t u : State) (c : Nat) (w : BitVec 256) (x : Stream),
    alive s = true ∧ Issues c w t s ∧ cmdOk w.toNat = true ∧ cmdOp w.toNat = 0x20 ∧ bitOf w.toNat 245 = false ∧ (streamEng c (fld w.toNat 247 246) t).queued = none ∧ readStream c (fld w.toNat 244 227) t = (.ok x, u) ∧ headerOk c x = true ∧ (if x.kind = 1 then indexOk x else progOk false [] x.prog) = true ∧ ((coreStreams (coreOf c u)).any fun y => overlaps x y) = false :=
  ⟨stStart, rdStart, (readStream 0 4 rdStart).2, 0, wStart, gotOf Stream.init (readStream 0 4 rdStart), by decide,
    ⟨by decide, by decide, by decide, by decide, rfl⟩, by decide, by decide, by decide, by decide,
    okOf Stream.init _ (by decide +kernel), by decide +kernel, by decide +kernel, by decide +kernel⟩

theorem wit_StreamsStartAndStop_2 : ∃ (s t u : State) (c : Nat) (w : BitVec 256) (x : Stream),
    alive s = true ∧ Issues c w t s ∧ cmdOk w.toNat = true ∧ cmdOp w.toNat = 0x20 ∧ bitOf w.toNat 245 = false ∧ (streamEng c (fld w.toNat 247 246) t).queued = none ∧ readStream c (fld w.toNat 244 227) t = (.ok x, u) ∧ (headerOk c x = false ∨ (if x.kind = 1 then indexOk x else progOk false [] x.prog) = false ∨ ((coreStreams (coreOf c u)).any fun y => overlaps x y) = true) :=
  ⟨stBadStart, rdBadStart, (readStream 0 8 rdBadStart).2, 0, wBadStart, gotOf Stream.init (readStream 0 8 rdBadStart), by decide,
    ⟨by decide, by decide, by decide, by decide, rfl⟩, by decide, by decide, by decide, by decide,
    okOf Stream.init _ (by decide +kernel), by decide +kernel⟩

theorem wit_StreamsStartAndStop_3 : ∃ (s t : State) (c : Nat) (w : BitVec 256) (x : Stream),
    alive s = true ∧ Issues c w t s ∧ cmdOk w.toNat = true ∧ cmdOp w.toNat = 0x20 ∧ bitOf w.toNat 245 = true ∧ (streamEng c (fld w.toNat 247 246) (advance c t)).run = some x ∧ x.write = false :=
  ⟨(stStream (0x20 * 2 ^ 248 + 2 ^ 245)), (consumeClean (coreSector 0 0) (stStream (0x20 * 2 ^ 248 + 2 ^ 245))).2, 0, BitVec.ofNat 256 (0x20 * 2 ^ 248 + 2 ^ 245), streamTest, by refine ⟨by decide, ⟨by decide, by decide, by decide, by decide, rfl⟩, ?_⟩; decide⟩

theorem wit_StreamsStartAndStop_4 : ∃ (s t : State) (c : Nat) (w : BitVec 256) (x : Stream),
    alive s = true ∧ Issues c w t s ∧ cmdOk w.toNat = true ∧ cmdOp w.toNat = 0x20 ∧ bitOf w.toNat 245 = true ∧ (streamEng c (fld w.toNat 247 246) (advance c t)).run = some x ∧ x.write = true ∧ x.held = false ∧ writeSettled x = false :=
  ⟨(stStreamW (0x20 * 2 ^ 248 + 2 ^ 245)), (consumeClean (coreSector 0 0) (stStreamW (0x20 * 2 ^ 248 + 2 ^ 245))).2, 0, BitVec.ofNat 256 (0x20 * 2 ^ 248 + 2 ^ 245), streamOut, by refine ⟨by decide, ⟨by decide, by decide, by decide, by decide, rfl⟩, ?_⟩; decide⟩

theorem wit_StreamsStartAndStop_5 : ∃ (s : State) (op c e : Nat) (x : Stream) (k : Nat → Nat → Instr),
    (op, k) ∈ apRows ∧ alive s = true ∧ (coreOf c s).preempting = false ∧ (streamEng c e s).run = some x ∧ x.held = false ∧ x.suspended = false ∧ x.kind = 0 ∧ x.ended = false ∧ x.todo = [] ∧ x.stopped = false ∧ apOp (nth 0#64 x.prog x.pc) = op :=
  ⟨stStream 0, 0, 0, 0, streamTest, .apEnd, by simp [apRows], by decide, by decide, by decide, by decide, by decide, by decide,
    by decide, by decide, by decide, by decide⟩

theorem wit_StreamsStartAndStop_6 : ∃ (s : State) (c e : Nat) (x : Stream),
    alive s = true ∧ (streamEng c e s).run = some x ∧ x.held = true ∧ lookup x s = .here ∧ (streamEng c e s).queued = none :=
  ⟨stHeldStream, 0, 0, { streamFloor with held := true }, by decide, by decide, by decide, by decide +kernel, by decide⟩

theorem wit_WindowPolicyStopsAStream_1 : ∃ (s : State) (c e n : Nat) (x : Stream),
    (lookup x s = .here ∨ ∃ m, lookup x s = .moving m) ∧ windowBroken x s = some n :=
  ⟨stWindow 3, 0, 0, 7, { Stream.init with hdr := hdrWin }, by exact ⟨.inl (by decide +kernel), by decide +kernel⟩⟩

theorem wit_StreamsMoveSectors_1 : ∃ (s : State) (c e n : Nat),
    alive s = true :=
  ⟨stUp, 0, 0, 1, by decide⟩

theorem wit_StreamsMoveSectors_2 : ∃ (s : State) (c e n : Nat) (x : Stream) (off : Int) (rest : List (Option Int)),
    (coreOf c s).preempting = false ∧ (streamEng c e s).run = some x ∧ x.held = false ∧ x.suspended = false ∧ x.write = false ∧ x.stopped = false ∧ x.kind = 0 ∧ x.todo = some off :: rest ∧ (if x.fill then x.requested < x.size else x.requested - x.freed < x.size) ∧ (¬ (x.nearFloor = true ∧ nearSectors true ≤ nearPos x x.requested)) ∧ farSector x off s = some n ∧ accessHeld n s = false ∧ frozenAt 3 n s = false ∧ needsSnoop false n s = false :=
  ⟨stReader, 0, 0, 2 ^ 36, streamFloor, 0, [], by decide, by decide, by decide, by decide, by decide, by decide, by decide,
    by decide, by decide, by decide, by decide +kernel, by decide +kernel, by decide +kernel, by decide +kernel⟩

theorem wit_StreamsMoveSectors_3 : ∃ (s : State) (c e pos k : Nat) (x : Stream) (r : FarReq) (d : BitVec 256) (first again : BitVec 288),
    alive s = true ∧ (streamEng c e s).run = some x ∧ x.inFlight.find? (fun r => r.pos == pos && !x.write) = some r ∧ needsSnoop true (nearDevice c x.nearFloor (nearPos x pos)) s = false ∧ ((unitOf (r.far.getD 0)).isSome && unitGone ((unitOf (r.far.getD 0)).getD 0) s) = false ∧ decodeSector (disturb r.sector first) = .ok d k :=
  ⟨stArrive, 0, 0, 0, 0, streamFly, reqFly, 0, 0, 0, by decide⟩

theorem wit_StreamsMoveSectors_4 : ∃ (s : State) (c e pos : Nat) (x : Stream) (r : FarReq) (first again : BitVec 288),
    alive s = true ∧ (streamEng c e s).run = some x ∧ x.inFlight.find? (fun r => r.pos == pos && !x.write) = some r ∧ needsSnoop true (nearDevice c x.nearFloor (nearPos x pos)) s = false ∧ ((unitOf (r.far.getD 0)).isSome && unitGone ((unitOf (r.far.getD 0)).getD 0) s) = false ∧ decodeSector (disturb r.sector first) = .bad ∧ decodeSector (disturb (rdSector (r.far.getD 0) s) again) = .bad :=
  ⟨stArrive, 0, 0, 0, streamFly, reqFly, 0x030201, 0x030201, by decide, by decide, by decide, by decide, by decide,
    by rw [show disturb reqFly.sector 0x030201 = ⟨0x030201#256, 0#32⟩ from by decide +kernel]; exact decodeSector_three,
    by rw [show disturb (rdSector (reqFly.far.getD 0) stArrive) 0x030201 = ⟨0x030201#256, 0#32⟩ from by decide +kernel]; exact decodeSector_three⟩

theorem wit_StreamsMoveSectors_5 : ∃ (s : State) (c e n : Nat) (x : Stream) (off : Int) (rest : List (Option Int)),
    alive s = true ∧ (coreOf c s).preempting = false ∧ (streamEng c e s).run = some x ∧ x.held = false ∧ x.suspended = false ∧ x.write = true ∧ (x.stopped = false ∨ writeSettled x = false) ∧ x.sent < x.produced ∧ x.kind = 0 ∧ x.todo = some off :: rest ∧ (x.fill = false ∨ x.sent < x.size) ∧ farSector x off s = some n ∧ frozenAt 4 n s = false :=
  ⟨stWriter, 0, 0, 2 ^ 36, streamSend, 0, [], by decide, by decide, by decide, by decide, by decide, by decide, by decide, by decide,
    by decide, by decide, by decide, by decide +kernel, by decide +kernel⟩

theorem wit_StreamsMoveSectors_6 : ∃ (s u : State) (c e n : Nat) (x : Stream) (r : FarReq) (rest : List FarReq),
    alive s = true ∧ (streamEng c e s).run = some x ∧ x.inFlight = r :: rest ∧ r.far = some n ∧ x.write = true ∧ accessHeld n s = false ∧ needsSnoop true n s = false ∧ u = streamGoes c e s ∧ ((unitOf n).isSome && unitGone ((unitOf n).getD 0) u) = false :=
  ⟨stSent, streamGoes 0 0 stSent, 0, 0, 2 ^ 36, streamSent, reqFly, [], by decide⟩

theorem wit_HostAccessesRun_1 : ∃ (s : State) (hpa : BitVec 64) (cache d : Nat) (first again : BitVec 288),
    alive s = true ∧ s.host.up = true ∧ hostDpa hpa.toNat s = some d ∧ lineHeld (d / 64 * 64) s = false ∧ (s.host.waitAcc.any fun b => b.dpa / 64 == d / 64 * 64 / 64) = false ∧ (s.host.snoopWait.find? fun p => p.2.any fun b => b.dpa / 64 == d / 64 * 64 / 64) = none ∧ (cache = 0 ∨ (s.host.snoop.any fun p => p.1 == d / 64 * 64 / 64) = true ∨ s.host.snoop.length < filterLines) :=
  ⟨stMapped, 2 ^ 28, 1, 0, 0, 0, by decide⟩

theorem wit_HostAccessesRun_2 : ∃ (s : State) (hpa : BitVec 64) (data : BitVec 512) (mask : BitVec 64) (cache d : Nat),
    alive s = true ∧ s.host.up = true ∧ hostDpa hpa.toNat s = some d ∧ lineHeld (d / 64 * 64) s = false ∧ (s.host.waitAcc.any fun b => b.dpa / 64 == d / 64 * 64 / 64) = false ∧ (s.host.snoopWait.find? fun p => p.2.any fun b => b.dpa / 64 == d / 64 * 64 / 64) = none ∧ (cache = 0 ∨ (s.host.snoop.any fun p => p.1 == d / 64 * 64 / 64) = true ∨ s.host.snoop.length < filterLines) :=
  ⟨stMapped, 2 ^ 28, 5, 1, 0, 0, by decide⟩

theorem wit_HostAccessesRun_3 : ∃ (s : State) (dpa : Nat) (data : BitVec 512) (mask : BitVec 64),
    inSitout s = true :=
  ⟨stSitout, 0, 0, 1, by decide⟩

theorem wit_HostAccessesRun_4 : ∃ (s : State) (dpa a : Nat) (data : BitVec 512) (mask : BitVec 64),
    inSitout s = false ∧ hostWindow dpa = .system a :=
  ⟨stUp, 0x7FC0000000, 0x7FC0000000, 0, 1, by decide⟩

theorem wit_HostAccessesRun_5 : ∃ (s : State) (dpa : Nat) (first again : BitVec 288),
    hostWindow dpa = .empty :=
  ⟨stUp, 0x14004000000, 0, 0, by decide⟩

theorem wit_HostAccessesRun_6 : ∃ (s : State) (line : Nat) (d : BitVec 512),
    alive s = true ∧ (s.host.snoopWait.any fun p => p.1 == line) = true :=
  ⟨stSnoop, 4, 7, by decide⟩

theorem wit_HostAccessesRun_7 : ∃ (s : State) (line : Nat),
    alive s = true ∧ (s.host.snoopWait.any fun p => p.1 == line) = true :=
  ⟨stSnoop, 4, by decide⟩

theorem wit_HostAccessesRun_8 : ∃ (s : State) (line : Nat),
    alive s = true ∧ (s.host.snoopWait.any fun p => p.1 == line) = true ∧ snoopLate line s = true :=
  ⟨stSnoopLate, 4, by decide⟩

theorem wit_HostAccessesRun_9 : ∃ (s : State),
    alive s = true :=
  ⟨stUp, by decide⟩

theorem wit_DoorbellsAndHostLink_1 : ∃ (s : State) (q n : Nat),
    alive s = true ∧ s.host.up = true ∧ q < 16 ∧ rd (Obj.QUEUE_ENABLE q) s = 1 ∧ n < rd (Obj.SQ_SIZE q) s :=
  ⟨stHost2, 0, 3, by decide⟩

theorem wit_DoorbellsAndHostLink_2 : ∃ (s : State) (off n : Nat),
    (doorbellQueue 0x1000 off = none ∨ ∃ q, doorbellQueue 0x1000 off = some q ∧ (s.host.up = false ∨ rd (Obj.QUEUE_ENABLE q) s ≠ 1 ∨ rd (Obj.SQ_SIZE q) s ≤ n)) :=
  ⟨stUp, 0x1000 + 2, 3, .inl (by decide)⟩

theorem wit_DoorbellsAndHostLink_3 : ∃ (s : State) (q n : Nat),
    alive s = true ∧ s.host.up = true ∧ q < 16 ∧ rd (Obj.QUEUE_ENABLE q) s = 1 ∧ n < rd (Obj.CQ_SIZE q) s :=
  ⟨stHost2, 0, 3, by decide⟩

theorem wit_DoorbellsAndHostLink_4 : ∃ (s : State) (off n : Nat),
    (doorbellQueue 0x1004 off = none ∨ ∃ q, doorbellQueue 0x1004 off = some q ∧ (s.host.up = false ∨ rd (Obj.QUEUE_ENABLE q) s ≠ 1 ∨ rd (Obj.CQ_SIZE q) s ≤ n)) :=
  ⟨stUp, 0x1004 + 2, 3, .inl (by decide)⟩

theorem wit_DoorbellsAndHostLink_6 : ∃ (s : State) (q : Nat),
    alive s = true :=
  ⟨stHost2, 0, by decide⟩

theorem wit_DoorbellsAndHostLink_7 : ∃ (s : State) (q : Nat),
    alive s = true ∧ (queueOf q s).timer = true ∧ q < 16 ∧ (queueOf q s).firstAt + fld (rd (Obj.COALESCE q) s) 15 0 * 1000 ≤ s.clk.ticks :=
  ⟨stTimer, 0, by decide⟩

theorem wit_DoorbellsAndHostLink_8 : ∃ (s : State) (l : BitVec 16),
    alive s = true ∧ s.host.up = true ∧ s.host.badLanes = 0 ∧ l ≠ 0 ∧ (l.toNat % 256 = 0 ∨ l.toNat / 256 = 0) :=
  ⟨stHost2, 1, by decide⟩

theorem wit_DoorbellsAndHostLink_9 : ∃ (s : State) (l : BitVec 16),
    alive s = true ∧ s.host.up = true ∧ s.host.badLanes ||| l ≠ s.host.badLanes ∧ (s.host.badLanes ||| l).toNat % 256 ≠ 0 ∧ (s.host.badLanes ||| l).toNat / 256 ≠ 0 ∧ (¬ ((s.host.badLanes.toNat % 256 = 0 ∧ l.toNat % 256 = 0) ∨ (s.host.badLanes.toNat / 256 = 0 ∧ l.toNat / 256 = 0))) :=
  ⟨stHost2, 0x101, by decide⟩

theorem wit_DoorbellsAndHostLink_10 : ∃ (s : State) (l : BitVec 16),
    alive s = true ∧ s.host.up = true ∧ s.host.badLanes ≠ 0 ∧ ((s.host.badLanes.toNat % 256 = 0 ∧ l.toNat % 256 = 0) ∨ (s.host.badLanes.toNat / 256 = 0 ∧ l.toNat / 256 = 0)) :=
  ⟨{ stHost2 with host := { stHost2.host with badLanes := 1 } }, 2, by decide⟩

theorem wit_DoorbellsAndHostLink_11 : ∃ (s : State),
    alive s = true :=
  ⟨stHost2, by decide⟩

theorem wit_DoorbellsAndHostLink_12 : ∃ (s : State),
    s.host.up = true :=
  ⟨stHost2, by decide⟩

theorem wit_DoorbellsAndHostLink_13 : ∃ (s : State) (width rate : Nat),
    alive s = true ∧ s.host.up = false ∧ 4 ≤ s.boot.stepDone :=
  ⟨stUp, 16, 64, by decide⟩

theorem wit_DoorbellsAndHostLink_14 : ∃ (s : State) (a : Nat),
    alive s = true ∧ s.host.downAt = some a ∧ s.host.cancelled = false ∧ rd Obj.LINKDOWN_CANCEL s ≠ 0 ∧ a + 16 * rd Obj.LINKDOWN_CANCEL s ≤ s.pow.opTime :=
  ⟨stDown, 0, by decide⟩

theorem wit_DoorbellsAndHostLink_15 : ∃ (s : State) (i dpa ways : Nat) (base size : BitVec 64),
    alive s = true ∧ s.host.up = true ∧ decoderOk i base.toNat size.toNat dpa ways s = true :=
  ⟨stHost2, 0, 0, 1, 0, 2 ^ 28, by decide⟩

theorem wit_DoorbellsAndHostLink_16 : ∃ (s : State) (i dpa ways : Nat) (base size : BitVec 64),
    alive s = true ∧ s.host.up = true ∧ decoderOk i base.toNat size.toNat dpa ways s = false :=
  ⟨stHost2, 0, 0, 2, 0, 2 ^ 28, by decide⟩

theorem wit_SectorRequestsAreAnswered_1 : ∃ (s : State) (u : Nat) (w : BitVec 64),
    alive s = true ∧ reqKind w.toNat = 1 ∧ servedAtOnce u w.toNat s = true :=
  ⟨stUp, 0, BitVec.ofNat 64 (2 ^ 60), by decide⟩

theorem wit_SectorRequestsAreAnswered_2 : ∃ (s : State) (u : Nat) (w : BitVec 64) (p : Sector),
    alive s = true ∧ reqKind w.toNat = 2 ∧ servedAtOnce u w.toNat s = true :=
  ⟨stUp, 0, BitVec.ofNat 64 (2 * 2 ^ 60), ⟨5, 0⟩, by decide⟩

theorem wit_SectorRequestsAreAnswered_3 : ∃ (s : State) (u : Nat) (w : BitVec 64) (m : BitVec 32) (p : Sector) (d : BitVec 256) (k : Nat),
    alive s = true ∧ reqKind w.toNat = 3 ∧ servedAtOnce u w.toNat s = true ∧ decodeSector ⟨BitVec.ofNat 256 (overlay 0 p.data.toNat m.toNat), p.chk⟩ = .ok d k :=
  ⟨stUp, 0, BitVec.ofNat 64 (3 * 2 ^ 60), 1, ⟨0, 0⟩, 0, 0, by decide⟩

theorem wit_SectorRequestsAreAnswered_4 : ∃ (s : State) (u : Nat) (w : BitVec 64) (m : BitVec 32) (p : Sector),
    alive s = true ∧ reqKind w.toNat = 3 ∧ servedAtOnce u w.toNat s = true ∧ decodeSector ⟨BitVec.ofNat 256 (overlay 0 p.data.toNat m.toNat), p.chk⟩ = .bad :=
  ⟨stUp, 0, BitVec.ofNat 64 (3 * 2 ^ 60), 7, ⟨0x030201#256, 0#32⟩, by decide, by decide, by decide, (congrArg decodeSector (by decide +kernel)).trans decodeSector_three⟩

theorem wit_SectorRequestsAreAnswered_5 : ∃ (s : State) (u : Nat) (w : BitVec 64),
    alive s = true ∧ reqKind w.toNat = 5 ∧ unitGone u s = false ∧ reqRefused u w.toNat = false :=
  ⟨stUp, 0, BitVec.ofNat 64 (5 * 2 ^ 60), by decide⟩

theorem wit_SectorRequestsAreAnswered_6 : ∃ (s : State) (u : Nat) (w : BitVec 64),
    alive s = true ∧ reqKind w.toNat = 6 ∧ unitGone u s = false ∧ reqRefused u w.toNat = false :=
  ⟨stUp, 0, BitVec.ofNat 64 (6 * 2 ^ 60), by decide⟩

theorem wit_SectorRequestsAreAnswered_7 : ∃ (s : State) (u : Nat) (w : BitVec 64) (m : BitVec 32) (p : Sector),
    alive s = true ∧ unitGone u s = false :=
  ⟨stUp, 0, 0, 0, ⟨0, 0⟩, by decide⟩

theorem wit_SectorRequestsAreAnswered_8 : ∃ (s : State) (u : Nat) (w : BitVec 64) (m : BitVec 32) (p : Sector),
    alive s = true ∧ unitGone u s = true :=
  ⟨stLost, 0, BitVec.ofNat 64 (2 ^ 60), 0, ⟨0, 0⟩, by decide⟩

theorem wit_MergesRefreshesAndRetrains_1 : ∃ (s : State) (n : Nat) (e : WcEntry),
    alive s = true ∧ wcEntry n s = some e ∧ e.since + rd Obj.WC_WINDOW s ≤ s.clk.ticks ∧ accessHeld n s = false ∧ unitGone e.unit s = false :=
  ⟨stWc, 3, entWc, by decide⟩

theorem wit_MergesRefreshesAndRetrains_2 : ∃ (s : State) (pc n : Nat),
    alive s = true ∧ unitGone (pcUnit pc) s = false ∧ heldByTraining (unitSector (pcUnit pc) 0) s = false ∧ debtOf pc s ≤ 3 ∧ debtOf pc s + 1 ≤ n :=
  ⟨stUp, 5, 1, by decide⟩

theorem wit_MergesRefreshesAndRetrains_3 : ∃ (s : State) (pc n : Nat),
    alive s = true ∧ unitGone (pcUnit pc) s = false ∧ (heldByTraining (unitSector (pcUnit pc) 0) s = true ∨ n = 0) ∧ debtOf pc s ≤ 2 ∧ s.mo.precedence.contains pc = false :=
  ⟨stUp, 5, 0, by decide⟩

theorem wit_MergesRefreshesAndRetrains_4 : ∃ (s : State) (pc n : Nat),
    alive s = true ∧ unitGone (pcUnit pc) s = false ∧ (heldByTraining (unitSector (pcUnit pc) 0) s = true ∨ n = 0) ∧ debtOf pc s = 4 :=
  ⟨stDebt, 5, 0, by decide⟩

theorem wit_MergesRefreshesAndRetrains_5 : ∃ (s : State) (u : Nat) (f : RetrainFig) (g : Fig),
    alive s = true ∧ s.mo.figTodo.find? (fun f => f.todo.head? == some u) = some f ∧ s.cal.figs.find? (fun g => figTag g == f.entry) = some g ∧ (s.mo.training.any fun r => r.unit == u) = false ∧ unitGone u s = false ∧ now s + 4500 ≤ g.deadline ∧ retrainReady u s = true :=
  ⟨stRetrain 5000, 7, ⟨0, [7]⟩, { Fig.init with deadline := 5000 }, by decide⟩

theorem wit_MergesRefreshesAndRetrains_6 : ∃ (s : State) (u : Nat) (f : RetrainFig) (g : Fig),
    alive s = true ∧ s.mo.figTodo.find? (fun f => f.todo.head? == some u) = some f ∧ s.cal.figs.find? (fun g => figTag g == f.entry) = some g ∧ (s.mo.training.any fun r => r.unit == u) = false ∧ unitGone u s = false ∧ g.deadline < now s + 4500 :=
  ⟨stRetrain 100, 7, ⟨0, [7]⟩, { Fig.init with deadline := 100 }, by decide⟩

theorem wit_MergesRefreshesAndRetrains_7 : ∃ (s : State) (u : Nat) (r : Retrain),
    alive s = true ∧ s.mo.training.find? (fun r => r.unit == u) = some r ∧ unitGone u s = false :=
  ⟨stHold false false, 7, ⟨7, false, false, 0⟩, by decide⟩

theorem wit_MergesRefreshesAndRetrains_8 : ∃ (s : State) (u : Nat) (r : Retrain),
    alive s = true ∧ s.mo.training.find? (fun r => r.unit == u) = some r ∧ r.second = false ∧ unitGone u s = false :=
  ⟨stHold false false, 7, ⟨7, false, false, 0⟩, by decide⟩

theorem wit_MergesRefreshesAndRetrains_9 : ∃ (s : State) (u : Nat) (r : Retrain),
    alive s = true ∧ s.mo.training.find? (fun r => r.unit == u) = some r ∧ r.second = true ∧ unitGone u s = false :=
  ⟨stHold true true, 7, ⟨7, true, true, 0⟩, by decide⟩

theorem wit_MergesRefreshesAndRetrains_10 : ∃ (s : State) (u : Nat) (r : Retrain) (ok : Bool),
    alive s = true ∧ s.mo.training.find? (fun r => r.unit == u) = some r ∧ unitGone u s = true :=
  ⟨{ stHold false false with mo := { (stHold false false).mo with lost := [(0, 5)] } }, 7, ⟨7, false, false, 0⟩, true, by decide⟩

theorem wit_MergesRefreshesAndRetrains_11 : ∃ (s : State) (u m : Nat),
    alive s = true ∧ unitGone u s = false ∧ heldByTraining (unitSector u 0) s = false ∧ rd Obj.ALARM_MARGIN (wr (Obj.CHAN_MARGIN u) (min m 255) s) ≤ m ∧ s.clk.ticks < spGet 0 s.mo.trainedAt u + rd Obj.RETRAIN_MAX_AGE (wr (Obj.CHAN_MARGIN u) (min m 255) s) * 10 ^ 9 :=
  ⟨stUp, 7, 90, by decide⟩

theorem wit_MergesRefreshesAndRetrains_12 : ∃ (s : State) (u m : Nat),
    alive s = true ∧ unitGone u s = false ∧ heldByTraining (unitSector u 0) s = false ∧ (m < rd Obj.ALARM_MARGIN (wr (Obj.CHAN_MARGIN u) (min m 255) s) ∨ spGet 0 s.mo.trainedAt u + rd Obj.RETRAIN_MAX_AGE (wr (Obj.CHAN_MARGIN u) (min m 255) s) * 10 ^ 9 ≤ s.clk.ticks) ∧ s.mo.alarms.contains u = false :=
  ⟨stUp, 7, 0, by decide⟩

theorem wit_MergesRefreshesAndRetrains_13 : ∃ (s : State) (u : Nat),
    alive s = true ∧ s.mo.alarms.contains u = true ∧ retrainComing u s = false ∧ retrainReady u s = true ∧ unitGone u s = false :=
  ⟨stAlarm, 7, by decide⟩

theorem wit_PatrolTemperaturesAndLosses_1 : ∃ (s u : State) (slow : Bool) (d : BitVec 256) (first again : BitVec 288),
    alive s = true ∧ (patrolOf slow s).active = true ∧ (frozenAt 7 ((patrolOf slow s).pointer / 32) s = false ∨ scrubOpen slow s = true ∨ inSitout s = true) ∧ accessHeld ((patrolOf slow s).pointer / 32) s = false ∧ patrolMay slow s = true ∧ unitGone ((unitOf ((patrolOf slow s).pointer / 32)).getD 0) s = false ∧ needsSnoop (decodeSector (rdSector ((patrolOf slow s).pointer / 32) s) != .ok (rdSector ((patrolOf slow s).pointer / 32) s).data 0) ((patrolOf slow s).pointer / 32) s = false ∧ u = patrolSpend slow s ∧ decodeSector (disturb (rdSector ((patrolOf slow s).pointer / 32) u) first) = .ok d 0 :=
  ⟨stPatrol, patrolSpend false stPatrol, false, 0, 0, 0, by decide +kernel⟩

theorem wit_PatrolTemperaturesAndLosses_2 : ∃ (s u : State) (slow : Bool) (d : BitVec 256) (k : Nat) (first again : BitVec 288),
    alive s = true ∧ (patrolOf slow s).active = true ∧ (frozenAt 7 ((patrolOf slow s).pointer / 32) s = false ∨ scrubOpen slow s = true ∨ inSitout s = true) ∧ accessHeld ((patrolOf slow s).pointer / 32) s = false ∧ patrolMay slow s = true ∧ unitGone ((unitOf ((patrolOf slow s).pointer / 32)).getD 0) s = false ∧ needsSnoop (decodeSector (rdSector ((patrolOf slow s).pointer / 32) s) != .ok (rdSector ((patrolOf slow s).pointer / 32) s).data 0) ((patrolOf slow s).pointer / 32) s = false ∧ u = patrolSpend slow s ∧ decodeSector (disturb (rdSector ((patrolOf slow s).pointer / 32) u) first) = .ok d (k + 1) :=
  ⟨stPatrol, patrolSpend false stPatrol, false, 0, 0, 1, 0, by decide +kernel⟩

theorem wit_PatrolTemperaturesAndLosses_3 : ∃ (s u : State) (slow : Bool) (first again : BitVec 288),
    alive s = true ∧ (patrolOf slow s).active = true ∧ (frozenAt 7 ((patrolOf slow s).pointer / 32) s = false ∨ scrubOpen slow s = true ∨ inSitout s = true) ∧ accessHeld ((patrolOf slow s).pointer / 32) s = false ∧ patrolMay slow s = true ∧ unitGone ((unitOf ((patrolOf slow s).pointer / 32)).getD 0) s = false ∧ needsSnoop (decodeSector (rdSector ((patrolOf slow s).pointer / 32) s) != .ok (rdSector ((patrolOf slow s).pointer / 32) s).data 0) ((patrolOf slow s).pointer / 32) s = false ∧ u = patrolSpend slow s ∧ decodeSector (disturb (rdSector ((patrolOf slow s).pointer / 32) u) first) = .bad ∧ decodeSector (disturb (rdSector ((patrolOf slow s).pointer / 32) u) again) = .bad :=
  ⟨stPatrol, patrolSpend false stPatrol, false, 0x030201, 0x030201, by decide, by decide, by decide, by decide, by decide, by decide, by decide +kernel, rfl,
    by rw [show disturb (rdSector ((patrolOf false stPatrol).pointer / 32) (patrolSpend false stPatrol)) 0x030201 = ⟨0x030201#256, 0#32⟩ from by decide +kernel]; exact decodeSector_three,
    by rw [show disturb (rdSector ((patrolOf false stPatrol).pointer / 32) (patrolSpend false stPatrol)) 0x030201 = ⟨0x030201#256, 0#32⟩ from by decide +kernel]; exact decodeSector_three⟩

theorem wit_PatrolTemperaturesAndLosses_4 : ∃ (s u : State) (slow : Bool) (d : BitVec 256) (k : Nat) (first again : BitVec 288),
    alive s = true ∧ (patrolOf slow s).active = true ∧ (frozenAt 7 ((patrolOf slow s).pointer / 32) s = false ∨ scrubOpen slow s = true ∨ inSitout s = true) ∧ accessHeld ((patrolOf slow s).pointer / 32) s = false ∧ patrolMay slow s = true ∧ unitGone ((unitOf ((patrolOf slow s).pointer / 32)).getD 0) s = false ∧ needsSnoop (decodeSector (rdSector ((patrolOf slow s).pointer / 32) s) != .ok (rdSector ((patrolOf slow s).pointer / 32) s).data 0) ((patrolOf slow s).pointer / 32) s = false ∧ u = patrolSpend slow s ∧ decodeSector (disturb (rdSector ((patrolOf slow s).pointer / 32) u) first) = .bad ∧ decodeSector (disturb (rdSector ((patrolOf slow s).pointer / 32) u) again) = .ok d k :=
  ⟨stPatrol, patrolSpend false stPatrol, false, 0, 0, 0x030201, 0, by decide, by decide, by decide, by decide, by decide, by decide, by decide +kernel, rfl,
    by rw [show disturb (rdSector ((patrolOf false stPatrol).pointer / 32) (patrolSpend false stPatrol)) 0x030201 = ⟨0x030201#256, 0#32⟩ from by decide +kernel]; exact decodeSector_three,
    by decide +kernel⟩

theorem wit_PatrolTemperaturesAndLosses_5 : ∃ (s : State) (slow : Bool) (first again : BitVec 288),
    alive s = true ∧ (patrolOf slow s).active = true ∧ (frozenAt 7 ((patrolOf slow s).pointer / 32) s = false ∨ scrubOpen slow s = true ∨ inSitout s = true) ∧ accessHeld ((patrolOf slow s).pointer / 32) s = false ∧ patrolMay slow s = true ∧ unitGone ((unitOf ((patrolOf slow s).pointer / 32)).getD 0) s = true :=
  ⟨{ stLost with mo := { stLost.mo with patrolFast := stPatrol.mo.patrolFast } }, false, 0, 0, by decide⟩

theorem wit_PatrolTemperaturesAndLosses_6 : ∃ (s : State) (slow : Bool) (first again : BitVec 288),
    patrolMay slow s = false :=
  ⟨{ stPatrol with mo := { stPatrol.mo with patrolFast := { stPatrol.mo.patrolFast with nextAt := 10 ^ 30 } } }, false, 0, 0, by decide⟩

theorem wit_PatrolTemperaturesAndLosses_8 : ∃ (s : State) (slow : Bool),
    alive s = true ∧ (patrolOf slow s).active = true ∧ (patrolOf slow s).behind = false ∧ (patrolOf slow s).startAt + (patrolOf slow s).period * 10 ^ 9 ≤ s.clk.ticks :=
  ⟨stLate, false, by decide⟩

theorem wit_PatrolTemperaturesAndLosses_9 : ∃ (s v : State) (u : Nat) (t : BitVec 16),
    alive s = true ∧ u < 8 ∧ 105 * 8 < t.toInt ∧ nth 0 s.mo.thermal u ≠ 3 ∧ v = { wr (Obj.STACK_TEMP (u + 1)) t.toNat s with mo := { s.mo with
          below92 := belowSince u 92 t.toInt s.clk.ticks s.mo.below92, below83 := belowSince u 83 t.toInt s.clk.ticks s.mo.below83 } } :=
  ⟨stUp, { wr (Obj.STACK_TEMP (2 + 1)) (900 : BitVec 16).toNat stUp with mo := { stUp.mo with
          below92 := belowSince 2 92 (900 : BitVec 16).toInt stUp.clk.ticks stUp.mo.below92, below83 := belowSince 2 83 (900 : BitVec 16).toInt stUp.clk.ticks stUp.mo.below83 } }, 2, 900, by decide⟩

theorem wit_PatrolTemperaturesAndLosses_10 : ∃ (s v : State) (u : Nat) (t : BitVec 16),
    alive s = true ∧ u < 8 ∧ 95 * 8 < t.toInt ∧ t.toInt ≤ 105 * 8 ∧ nth 0 s.mo.thermal u < 2 ∧ v = { wr (Obj.STACK_TEMP (u + 1)) t.toNat s with mo := { s.mo with
          below92 := belowSince u 92 t.toInt s.clk.ticks s.mo.below92, below83 := belowSince u 83 t.toInt s.clk.ticks s.mo.below83 } } :=
  ⟨stUp, { wr (Obj.STACK_TEMP (2 + 1)) (800 : BitVec 16).toNat stUp with mo := { stUp.mo with
          below92 := belowSince 2 92 (800 : BitVec 16).toInt stUp.clk.ticks stUp.mo.below92, below83 := belowSince 2 83 (800 : BitVec 16).toInt stUp.clk.ticks stUp.mo.below83 } }, 2, 800, by decide⟩

theorem wit_PatrolTemperaturesAndLosses_11 : ∃ (s v : State) (u : Nat) (t : BitVec 16),
    alive s = true ∧ u < 8 ∧ 85 * 8 < t.toInt ∧ t.toInt ≤ 95 * 8 ∧ nth 0 s.mo.thermal u = 0 ∧ v = { wr (Obj.STACK_TEMP (u + 1)) t.toNat s with mo := { s.mo with
          below92 := belowSince u 92 t.toInt s.clk.ticks s.mo.below92, below83 := belowSince u 83 t.toInt s.clk.ticks s.mo.below83 } } :=
  ⟨stUp, { wr (Obj.STACK_TEMP (2 + 1)) (700 : BitVec 16).toNat stUp with mo := { stUp.mo with
          below92 := belowSince 2 92 (700 : BitVec 16).toInt stUp.clk.ticks stUp.mo.below92, below83 := belowSince 2 83 (700 : BitVec 16).toInt stUp.clk.ticks stUp.mo.below83 } }, 2, 700, by decide⟩

theorem wit_PatrolTemperaturesAndLosses_12 : ∃ (s v : State) (u : Nat) (t : BitVec 16),
    alive s = true ∧ u < 8 ∧ t.toInt ≤ 85 * 8 ∧ v = { wr (Obj.STACK_TEMP (u + 1)) t.toNat s with mo := { s.mo with
          below92 := belowSince u 92 t.toInt s.clk.ticks s.mo.below92, below83 := belowSince u 83 t.toInt s.clk.ticks s.mo.below83 } } :=
  ⟨stUp, { wr (Obj.STACK_TEMP (2 + 1)) (600 : BitVec 16).toNat stUp with mo := { stUp.mo with
          below92 := belowSince 2 92 (600 : BitVec 16).toInt stUp.clk.ticks stUp.mo.below92, below83 := belowSince 2 83 (600 : BitVec 16).toInt stUp.clk.ticks stUp.mo.below83 } }, 2, 600, by decide⟩

theorem wit_PatrolTemperaturesAndLosses_13 : ∃ (s v : State) (u : Nat) (t : BitVec 16),
    alive s = true ∧ 8 ≤ u ∧ u < 20 ∧ 105 * 8 < t.toInt ∧ nth 0 s.mo.thermal u ≠ 3 ∧ v = { wr (Obj.PACKAGE_TEMP (u + 1)) t.toNat s with mo := { s.mo with
          below92 := belowSince u 92 t.toInt s.clk.ticks s.mo.below92, below83 := belowSince u 83 t.toInt s.clk.ticks s.mo.below83 } } :=
  ⟨stUp, { wr (Obj.PACKAGE_TEMP (9 + 1)) (900 : BitVec 16).toNat stUp with mo := { stUp.mo with
          below92 := belowSince 9 92 (900 : BitVec 16).toInt stUp.clk.ticks stUp.mo.below92, below83 := belowSince 9 83 (900 : BitVec 16).toInt stUp.clk.ticks stUp.mo.below83 } }, 9, 900, by decide⟩

theorem wit_PatrolTemperaturesAndLosses_14 : ∃ (s : State) (u : Nat),
    alive s = true ∧ nth 0 s.mo.thermal u = 2 ∧ belowFor u s.mo.below92 s = true :=
  ⟨stCapped, 2, by decide⟩

theorem wit_PatrolTemperaturesAndLosses_15 : ∃ (s : State) (u : Nat),
    alive s = true ∧ nth 0 s.mo.thermal u = 1 ∧ belowFor u s.mo.below83 s = true :=
  ⟨stHot, 9, by decide⟩

theorem wit_PatrolTemperaturesAndLosses_16 : ∃ (s : State) (u : Nat) (m : List (Nat × Nat)),
    s.clk.ticks + 1 < spGet 0 m u + 10 ^ 9 :=
  ⟨stUp, 2, [(2, 10000000000)], by decide⟩

theorem wit_PatrolTemperaturesAndLosses_17 : ∃ (s : State) (u : Nat),
    alive s = true ∧ u < 14 :=
  ⟨stUp, 3, by decide⟩

theorem wit_PatrolTemperaturesAndLosses_18 : ∃ (s : State) (b : Nat),
    alive s = true ∧ b < 6 :=
  ⟨stUp, 3, by decide⟩

theorem wit_PatrolTemperaturesAndLosses_19 : ∃ (s v : State) (u reason : Nat),
    lostReason u s = 0 ∧ v = abandonUnits (forEach (u :: (packagesOf u).filter fun p => lostReason p s == 0)
          (fun p s => { s with mo := { s.mo with lost := spSet 0 p reason s.mo.lost } }) s) :=
  ⟨stUp, abandonUnits (forEach (3 :: (packagesOf 3).filter fun p => lostReason p stUp == 0)
          (fun p s => { s with mo := { s.mo with lost := spSet 0 p 5 s.mo.lost } }) stUp), 3, 5, by decide⟩

theorem wit_PatrolTemperaturesAndLosses_21 : ∃ (s : State),
    alive s = true ∧ (opSec s + 1) % 60 ≠ 0 ∧ s.rcd.heldSec = 0 :=
  ⟨stUp, by decide⟩

theorem wit_PatrolTemperaturesAndLosses_22 : ∃ (s : State),
    alive s = true ∧ (opSec s + 1) % 60 ≠ 0 ∧ s.rcd.heldSec ≠ 0 :=
  ⟨{ stUp with rcd := { stUp.rcd with heldSec := 2 } }, by decide⟩

theorem wit_TrafficGeneratorsAndArbiters_1 : ∃ (s : State) (w : Writer),
    alive s = true ∧ accepts w 0xE100 7 1 s = true :=
  ⟨stUp, wI3c, by decide⟩

theorem wit_TrafficGeneratorsAndArbiters_2 : ∃ (s : State) (sel : Nat),
    ((tgSelected sel).any fun u => (tgOf u s).status == 1) = false ∧ ((tgSelected sel).any fun u => (tgOf u s).mode != 0 && (!tierFree u s || inSitout s || !s.cal.figs.isEmpty)) = false :=
  ⟨stUp, 7, by decide⟩

theorem wit_TrafficGeneratorsAndArbiters_3 : ∃ (s : State) (sel : Nat),
    (((tgSelected sel).any fun u => (tgOf u s).status == 1) = true ∨ ((tgSelected sel).any fun u => (tgOf u s).mode != 0 && (!tierFree u s || inSitout s || !s.cal.figs.isEmpty)) = true) :=
  ⟨stTg, 7, by decide⟩

theorem wit_TrafficGeneratorsAndArbiters_4 : ∃ (s : State) (w : Writer),
    alive s = true ∧ accepts w 0xE100 7 2 s = true :=
  ⟨stUp, wI3c, by decide⟩

theorem wit_TrafficGeneratorsAndArbiters_5 : ∃ (s : State) (u : Nat) (errs : List (Nat × BitVec 288)),
    alive s = true ∧ (tgOf u s).status = 1 ∧ ((tgOf u s).mode ≠ 0 ∨ frozenAt 7 (unitSector u (tgOf u s).start) s = false) ∧ tgHeld u s = false ∧ unitGone u s = false :=
  ⟨stTg, 7, [], by decide⟩

theorem wit_TrafficGeneratorsAndArbiters_6 : ∃ (s u : State) (a room : Nat) (raised : List (Nat × Nat × Nat × Bool)) (done : List Nat) (r : ArbReq),
    alive s = true ∧ a < 400 ∧ (u = { s with arb := { s.arb with
          waiting := s.arb.waiting ++ (raised.filter fun x => decide (1 ≤ x.1 ∧ x.1 ≤ 7)).map fun x =>
            ({ arb := a, cls := x.1, requester := x.2.1 % 256, id := x.2.2.1, stepStarted := x.2.2.2 } : ArbReq)
          granted := s.arb.granted.filter fun r => !(r.arb == a && done.contains r.id) } }) ∧ grantOf a room u = some r :=
  ⟨stUp, _, 100, 64, [(3, 2, 9, false)], [], ⟨100, 3, 2, 9, false⟩, by decide, by decide, rfl, by decide⟩

theorem wit_TrafficGeneratorsAndArbiters_7 : ∃ (s u : State) (a room : Nat) (raised : List (Nat × Nat × Nat × Bool)) (done : List Nat),
    alive s = true ∧ a < 400 ∧ (u = { s with arb := { s.arb with
          waiting := s.arb.waiting ++ (raised.filter fun x => decide (1 ≤ x.1 ∧ x.1 ≤ 7)).map fun x =>
            ({ arb := a, cls := x.1, requester := x.2.1 % 256, id := x.2.2.1, stepStarted := x.2.2.2 } : ArbReq)
          granted := s.arb.granted.filter fun r => !(r.arb == a && done.contains r.id) } }) ∧ grantOf a room u = none :=
  ⟨stUp, _, 100, 0, [(3, 2, 9, false)], [], by decide, by decide, rfl, by decide⟩

theorem wit_TrafficGeneratorsAndArbiters_8 : ∃ (s : State) (w : Writer) (v : BitVec 8),
    alive s = true ∧ accepts w 0x6201 1 v.toNat s = true ∧ (bitOf v.toNat 0 = false ∨ s.col.slots = []) :=
  ⟨stUp, wI3c, 4, by decide⟩

theorem wit_TrafficGeneratorsAndArbiters_9 : ∃ (s : State) (w : Writer) (v : BitVec 8),
    alive s = true ∧ accepts w 0x6201 1 v.toNat s = true ∧ bitOf v.toNat 0 = true ∧ s.col.slots ≠ [] :=
  ⟨stSlot, wI3c, 1, by decide⟩

theorem wit_DirectoryCommandsRun_1 : ∃ (s : State) (op q : Nat) (e : BitVec 1024) (k : Nat → BitVec 1024 → Instr),
    (op, k) ∈ dirRows ∧ alive s = true ∧ entryKind e = 2 ∧ (jobOfEntry q e).op = op ∧ queueOpen q s = true ∧ bufferFull q s = false ∧ queueTurn q s = true ∧ (¬ (fld e.toNat 998 512 ≠ 0 ∨ (op ≠ 1 ∧ op ≠ 8 ∧ fld e.toNat 255 0 ≠ 0))) ∧ inSitout s = false :=
  ⟨stHost3, 2, 0, entDestroy, .destroy, by simp [dirRows], by decide, by decide, by decide, by decide, by decide, by decide, by decide, by decide⟩

theorem wit_DirectoryCommandsRun_2 : ∃ (s : State) (op q : Nat) (e : BitVec 1024) (k : Nat → BitVec 1024 → Instr),
    (op, k) ∈ dirRows ∧ alive s = true ∧ entryKind e = 2 ∧ (jobOfEntry q e).op = op ∧ queueOpen q s = true ∧ bufferFull q s = false ∧ queueTurn q s = true ∧ (fld e.toNat 998 512 ≠ 0 ∨ (op ≠ 1 ∧ op ≠ 8 ∧ fld e.toNat 255 0 ≠ 0)) :=
  ⟨stHost3, 2, 0, entDestroyBad, .destroy, by simp [dirRows], by decide, by decide, by decide, by decide, by decide, by decide, by decide⟩

theorem wit_DirectoryCommandsRun_3 : ∃ (s : State) (j : DirJob),
    j.op = 1 ∧ jobForm j = true ∧ (tensorOf j.tensor s).state = 0 ∧ imageAllowed j (entryOf j.image.toNat) = true ∧ inTensorSpace j.tier j.dest (entryOf j.image.toNat).size = true :=
  ⟨stUp, jobCreate, by decide⟩

theorem wit_DirectoryCommandsRun_4 : ∃ (s : State) (j : DirJob),
    j.op = 2 ∧ jobForm j = true ∧ (tensorOf j.tensor s).state = 1 ∧ (tensorOf j.tensor s).refs = 0 :=
  ⟨stTensor 0, jobDestroy, by decide +kernel⟩

theorem wit_DirectoryCommandsRun_5 : ∃ (s : State) (j : DirJob),
    j.op = 2 ∧ (tensorOf j.tensor s).refs ≠ 0 :=
  ⟨stTensor 1, jobDestroy, by decide +kernel⟩

theorem wit_DirectoryCommandsRun_6 : ∃ (s : State) (j : DirJob),
    j.op = 3 ∧ jobForm j = true ∧ (tensorOf j.tensor s).state = 1 ∧ moveAllowed j (tensorOf j.tensor s) = true :=
  ⟨stTensor 0, jobMove, by decide +kernel⟩

theorem wit_DirectoryCommandsRun_7 : ∃ (s : State) (j : DirJob),
    j.op = 3 ∧ ((tensorOf j.tensor s).state ≠ 1 ∨ moveAllowed j (tensorOf j.tensor s) = false) :=
  ⟨stUp, jobMove, by decide +kernel⟩

theorem wit_DirectoryCommandsRun_8 : ∃ (s : State) (t : Nat) (j : DirJob),
    alive s = true ∧ jobOn t s = some j ∧ j.phase = .waitRefs ∧ (activeJobs s).length < 8 ∧ (tensorOf t s).refs = 0 ∧ j.op = 3 :=
  ⟨stWaiting6, 9, jobWaiting, by decide +kernel⟩

theorem wit_DirectoryCommandsRun_9 : ∃ (s u : State) (t : Nat) (j : DirJob),
    alive s = true ∧ jobOn t s = some j ∧ frozenAt 5 (tensorOf t s).home s = false ∧ j.phase = .copying ∧ jobHeld j s = false ∧ (tensorOf t s).refs ≤ 1 ∧ snoopLines false [((tensorOf t s).home, (tensorOf t s).size)] s = [] ∧ snoopLines true (jobWrites j s) s = [] ∧ u = (if j.toReserve then finishCopy j (tensorOf t s).reserve (tensorOf t s).resTier false s else finishCopy j j.dest j.tier j.keep s) :=
  ⟨stCopying, _, 9, jobCopying, by decide, by decide, by decide +kernel, by decide, by decide +kernel, by decide +kernel, by decide +kernel, by decide +kernel, rfl⟩

theorem wit_DirectoryCommandsRun_10 : ∃ (s u : State) (j : DirJob) (dst tier : Nat),
    copySectors (tensorOf j.tensor s).home dst (tensorOf j.tensor s).size s = (true, u) :=
  ⟨stUp, stUp, jobMove, 4, 1, by rw [show (tensorOf jobMove.tensor stUp).size = 0 from by decide +kernel]; rfl⟩

theorem wit_DirectoryCommandsRun_11 : ∃ (s u : State) (j : DirJob) (dst tier : Nat) (keep : Bool),
    copySectors (tensorOf j.tensor s).home dst (tensorOf j.tensor s).size s = (false, u) :=
  ⟨stBadHome, (consumeClean 5 stBadHome).2, jobMove, 4, 1, false, by
    rw [show (tensorOf jobMove.tensor stBadHome).home = 5 from by decide +kernel, show (tensorOf jobMove.tensor stBadHome).size = 1 from by decide +kernel]
    exact copySectors_bad⟩

theorem wit_UpdateSetsAndSteps_1 : ∃ (s : State) (n : Nat),
    alive s = true ∧ running 2 s = true ∧ (s.upd.kept.find? fun n => mayBegin n s) = some n :=
  ⟨stKept, 3, by decide +kernel⟩

theorem wit_UpdateSetsAndSteps_2 : ∃ (s : State) (tag n b : Nat) (r : SetRun) (errs : List (BitVec 288)),
    alive s = true ∧ setRunOf n s = some r ∧ r.torn = false ∧ frozenAt 2 (tensorOf (setEntry r.set_ s).landing s).home s = false ∧ b = r.next ∧ b < setBlocks (setEntry r.set_ s) s ∧ setMayRun r.set_ s = true ∧ dispatchHeld (setEntry r.set_ s) b s = false :=
  ⟨stSetRun, 7, 3, 0, runSet, [], by decide +kernel⟩

theorem wit_UpdateSetsAndSteps_3 : ∃ (s : State) (tag n b : Nat) (r : SetRun) (d : Delta) (errs : List (BitVec 288)),
    alive s = true ∧ setRunOf n s = some r ∧ r.torn = false ∧ frozenAt 2 (tensorOf (setEntry r.set_ s).masterT s).home s = false ∧ s.upd.deltas.find? (fun d => d.set_ == r.set_ && d.block == b) = some d :=
  ⟨stDelta, 7, 3, 0, runSet, ⟨3, 0, []⟩, [], by decide +kernel⟩

theorem wit_UpdateSetsAndSteps_4 : ∃ (s : State) (u w b : Nat) (xs : List Sector) (ds : List (BitVec 256)) (errs : List (BitVec 288)),
    unitGone u s = false ∧ reqRefused u w = false ∧ reqKind w = 4 ∧ fld b 6 0 = 0 ∧ arriveSectors xs errs = some ds :=
  ⟨stUp, 0, 4 * 2 ^ 60, 0, [], [], [], by decide⟩

theorem wit_UpdateSetsAndSteps_5 : ∃ (s : State) (u w b : Nat) (xs : List Sector) (errs : List (BitVec 288)),
    (unitGone u s = true ∨ reqRefused u w = true ∨ reqKind w ≠ 4 ∨ fld b 6 0 ≠ 0) :=
  ⟨stUp, 0, 0, 0, [], [], by decide⟩

theorem wit_UpdateSetsAndSteps_6 : ∃ (s : State) (u : Nat) (b : BlockRun) (bs : List BlockRun),
    alive s = true ∧ (unitState u s).step = [] ∧ nextStep u s = b :: bs ∧ boundaryTaken u b.set_ s = true :=
  ⟨stQueuedTrain, 0, blkTest, [], by decide +kernel⟩

theorem wit_UpdateSetsAndSteps_8 : ∃ (s t : State) (u : Nat) (b : BlockRun) (bs l : List BlockRun),
    alive s = true ∧ (unitState u s).step = [] ∧ nextStep u s = b :: bs ∧ boundaryTaken u b.set_ s = false ∧ placesFree (b :: bs) s = true ∧ setMayRun b.set_ s = true ∧ setVacant (setEntry b.set_ s) s = false ∧ snoopLines false (stepRanges (b :: bs) s) s = [] ∧ setDamaged (setEntry b.set_ s) s = false ∧ loadBlocks (b :: bs) s = (some l, t) :=
  ⟨stQueuedRun, _, 0, blkTest, [], _, by decide, by decide +kernel, by decide +kernel, by decide +kernel, by decide +kernel, by decide +kernel,
    by decide +kernel, by decide +kernel, by decide +kernel, rfl⟩

theorem wit_UpdateSetsAndSteps_9 : ∃ (s t : State) (u : Nat) (b : BlockRun) (bs : List BlockRun),
    alive s = true ∧ (unitState u s).step = b :: bs ∧ (partSpan (progOf (setEntry b.set_ s).prog s) b.part).2 ≤ (partSpan (progOf (setEntry b.set_ s).prog s) b.part).1 + (unitState u s).ip ∧ snoopLines true (stepRanges (b :: bs) s) s = [] ∧ t = finishSet b.set_ (modUnit u (fun x => { x with step := [], ip := 0 }) (forEach (b :: bs) storeBlock s)) :=
  ⟨stStepRun, _, 0, blkTest, [], by decide, by decide +kernel, by decide +kernel, by decide +kernel, rfl⟩

theorem wit_UpdateSetsAndSteps_10 : ∃ (s : State) (w : Writer) (v : BitVec 32),
    alive s = true ∧ accepts w 0x7030 1 v.toNat s = true ∧ (begunNow (v.toNat % 2048) s = true ∨ s.upd.landed.contains (v.toNat % 2048) = false ∨ running 2 s = false ∨ (setEntry (v.toNat % 2048) s).valid = false) :=
  ⟨stUp, wI3c, 3, by decide +kernel⟩

theorem wit_UpdateSetsAndSteps_11 : ∃ (s : State) (w : Writer) (v : BitVec 32) (n : Nat),
    alive s = true ∧ accepts w 0x7030 1 v.toNat s = true ∧ n = v.toNat % 2048 ∧ begunNow n s = false ∧ s.upd.landed.contains n = true ∧ running 2 s = true ∧ (setEntry n s).valid = true ∧ ((setEntry n s).clip = false ∨ nth false s.upd.nsqValid (setEntry n s).clipGroup = true) :=
  ⟨stLanded, wI3c, 3, 3, by decide +kernel⟩

theorem wit_UpdateSetsAndSteps_13 : ∃ (s : State) (w : Writer) (v : BitVec 64),
    alive s = true ∧ accepts w 0x7100 4 v.toNat s = true ∧ runOf 2 s ≠ .stopped :=
  ⟨stLanded, wI3c, 3, by decide +kernel⟩

theorem wit_UpdateSetsAndSteps_14 : ∃ (s : State) (w : Writer) (v : BitVec 64),
    alive s = true ∧ accepts w 0x7100 4 v.toNat s = true ∧ runOf 2 s = .stopped :=
  ⟨stUp, wI3c, 3, by decide +kernel⟩

theorem wit_UpdateInstructionsRun_1 : ∃ (s : State) (op u n : Nat) (i : UpdInstr) (k : Nat → Instr) (g : UpdInstr → Nat → Nat → Nat → Nat),
    (op, k, g) ∈ updRows ∧ alive s = true ∧ currentInstr u op s = some (i, n) :=
  ⟨stInstr (2 * 2 ^ 26), 2, 0, 0, updInstrOf (2 * 2 ^ 26), .updAdd, laneAdd, by simp [updRows], by decide, by decide +kernel⟩

theorem wit_UpdateInstructionsRun_2 : ∃ (s : State) (op u : Nat) (k : Nat → Instr) (g : UpdInstr → Nat → Nat → Nat → Nat),
    (op, k, g) ∈ updRows ∧ currentInstr u op s = none :=
  ⟨stUp, 2, 0, .updAdd, laneAdd, by simp [updRows], by decide +kernel⟩

theorem wit_UpdateInstructionsRun_3 : ∃ (s : State) (u n : Nat) (i : UpdInstr),
    alive s = true ∧ currentInstr u 0xA s = some (i, n) :=
  ⟨stInstr (0xA * 2 ^ 26), 0, 0, updInstrOf (0xA * 2 ^ 26), by decide +kernel⟩

theorem wit_UpdateInstructionsRun_4 : ∃ (s : State) (u n : Nat) (i : UpdInstr),
    alive s = true ∧ currentInstr u 0x10 s = some (i, n) :=
  ⟨stInstr (0x10 * 2 ^ 26), 0, 0, updInstrOf (0x10 * 2 ^ 26), by decide +kernel⟩

theorem wit_UpdateInstructionsRun_5 : ∃ (s : State) (u n : Nat) (i : UpdInstr),
    alive s = true ∧ currentInstr u 0x12 s = some (i, n) :=
  ⟨stInstr (0x12 * 2 ^ 26), 0, 0, updInstrOf (0x12 * 2 ^ 26), by decide +kernel⟩

theorem wit_UpdateInstructionsRun_6 : ∃ (s : State) (u n : Nat) (i : UpdInstr),
    alive s = true ∧ currentInstr u 0x13 s = some (i, n) :=
  ⟨stInstr (0x13 * 2 ^ 26), 0, 0, updInstrOf (0x13 * 2 ^ 26), by decide +kernel⟩

theorem wit_UpdateInstructionsRun_7 : ∃ (s : State) (u n : Nat) (i : UpdInstr),
    alive s = true ∧ currentInstr u 0x14 s = some (i, n) :=
  ⟨stInstr (0x14 * 2 ^ 26), 0, 0, updInstrOf (0x14 * 2 ^ 26), by decide +kernel⟩

theorem wit_UpdateInstructionsRun_8 : ∃ (s : State) (u n m : Nat) (i : UpdInstr) (b : BlockRun) (bs : List BlockRun),
    alive s = true ∧ currentInstr u 0x11 s = some (i, n) ∧ (unitState u s).step = b :: bs ∧ sumNat ((b :: bs).map (stNonfinite i s)) = m ∧ (m = 0 ∨ (setRunOf b.set_ s).map (·.noted) = some true) :=
  ⟨stInstr (0x11 * 2 ^ 26), 0, 0, 0, updInstrOf (0x11 * 2 ^ 26), blkTest, [], by decide +kernel⟩

theorem wit_UpdateInstructionsRun_9 : ∃ (s : State) (u n m : Nat) (i : UpdInstr) (b : BlockRun) (bs : List BlockRun) (r : SetRun),
    alive s = true ∧ currentInstr u 0x11 s = some (i, n) ∧ (unitState u s).step = b :: bs ∧ sumNat ((b :: bs).map (stNonfinite i s)) = m ∧ 0 < m ∧ setRunOf b.set_ s = some r ∧ r.noted = false :=
  ⟨stInf, 0, 0, 1, updInstrOf (0x11 * 2 ^ 26), blkInf, [], runSet, by decide +kernel⟩

theorem wit_RoutedTransfersRun_1 : ∃ (s : State) (k op t n part : Nat) (f : Flit) (row : Nat → Flit → Instr),
    (op, row) ∈ descRows ∧ alive s = true ∧ s.net.local_.contains (k, f) = true ∧ f.kind = 1 ∧ descOp (flitData f 0) = op ∧ inSitout (taken k f s) = false ∧ descTarget f (taken k f s) = .ok (t, n, part) ∧ part ≠ 3 ∧ descLen (flitData f 0) ≠ 0 :=
  ⟨stDesc 9, 0, 6, 9, 0, 0, flDesc, .pointToPointWrite, by simp [descRows], by decide, by decide, by decide, by decide +kernel,
    by decide +kernel, by rw [descTarget6]; decide +kernel, by decide, by decide +kernel⟩

theorem wit_RoutedTransfersRun_2 : ∃ (s : State) (k op r : Nat) (f : Flit) (row : Nat → Flit → Instr),
    (op, row) ∈ descRows ∧ alive s = true ∧ s.net.local_.contains (k, f) = true ∧ f.kind = 1 ∧ descOp (flitData f 0) = op ∧ inSitout (taken k f s) = false ∧ descTarget f (taken k f s) = .error r :=
  ⟨stDesc 8, 0, 6, 2, flDesc, .pointToPointWrite, by simp [descRows], by decide, by decide, by decide, by decide +kernel,
    by decide +kernel, by rw [descTarget6]; decide +kernel⟩

theorem wit_RoutedTransfersRun_3 : ∃ (s : State) (k op : Nat) (f : Flit) (row : Nat → Flit → Instr),
    (op, row) ∈ descRows ∧ alive s = true ∧ s.net.local_.contains (k, f) = true ∧ f.kind = 1 ∧ descOp (flitData f 0) = op ∧ inSitout (taken k f s) = true :=
  ⟨wr Obj.FAULT_STATE 1 (stDesc 9), 0, 6, flDesc, .pointToPointWrite, by simp [descRows], by decide, by decide, by decide, by decide +kernel,
    by decide +kernel⟩

theorem wit_RoutedTransfersRun_4 : ∃ (s : State) (k t n : Nat) (f : Flit),
    alive s = true ∧ s.net.local_.contains (k, f) = true ∧ f.kind = 1 ∧ descOp (flitData f 0) = 2 ∧ inSitout (taken k f s) = false ∧ descTarget f (taken k f s) = .ok (t, n, 3) :=
  ⟨stRestoring, 0, 0, 0, flLast, by decide, by decide, by decide, by decide +kernel, by decide +kernel, by rw [descTargetLast]⟩

theorem wit_RoutedTransfersRun_5 : ∃ (s : State) (k : Nat) (f : Flit) (x : Xfer),
    alive s = true ∧ s.net.local_.contains (k, f) = true ∧ f.kind = 2 ∧ s.net.rxX.find? (fun x => x.peer == f.src && x.no == f.xfer) = some x ∧ (tensorOf x.tensor s).state ≠ 2 ∧ (List.range (carried f).length).any (fun i => frozenAt 2 ((tensorOf x.tensor s).home + descStart x.desc.toNat + 8 * f.foff + i) s) = false ∧ (xferWhole x (f.foff :: x.got) = true → rangeHeld ((tensorOf x.tensor s).home + descStart x.desc.toNat) (descLen x.desc.toNat) s = false) ∧ snoopLines true [((tensorOf x.tensor s).home + descStart x.desc.toNat + 8 * f.foff, (carried f).length)] s = [] :=
  ⟨stData, 0, flData, xferTest, by decide +kernel⟩

theorem wit_RoutedTransfersRun_6 : ∃ (s : State) (k : Nat) (f : Flit),
    alive s = true ∧ s.net.local_.contains (k, f) = true ∧ f.kind = 2 ∧ s.net.rxX.find? (fun x => x.peer == f.src && x.no == f.xfer) = none :=
  ⟨stLocal flData, 0, flData, by decide +kernel⟩

theorem wit_RoutedTransfersRun_7 : ∃ (s : State) (k : Nat) (f : Flit) (x : Xfer),
    alive s = true ∧ s.net.local_.contains (k, f) = true ∧ f.kind = 3 ∧ fld (flitData f 0) 255 248 = 1 ∧ answeredTx f (taken k f s) = some x ∧ x.opened = false ∧ reportHeld f s = false ∧ snoopLines false (reportRanges f s) s = [] :=
  ⟨stSending 1, 0, flReport 1, xferOut, by decide +kernel⟩

theorem wit_RoutedTransfersRun_8 : ∃ (s : State) (k : Nat) (f : Flit) (x : Xfer),
    alive s = true ∧ s.net.local_.contains (k, f) = true ∧ f.kind = 3 ∧ fld (flitData f 0) 255 248 = 2 ∧ answeredTx f (taken k f s) = some x :=
  ⟨stSending 2, 0, flReport 2, xferOut, by decide +kernel⟩

theorem wit_RoutedTransfersRun_9 : ∃ (s : State) (k : Nat) (f : Flit) (x : Xfer),
    alive s = true ∧ s.net.local_.contains (k, f) = true ∧ f.kind = 3 ∧ fld (flitData f 0) 255 248 = 3 ∧ answeredTx f (taken k f s) = some x ∧ reportHeld f s = false :=
  ⟨stSending 3, 0, flReport 3, xferOut, by decide +kernel⟩

theorem wit_RoutedTransfersRun_10 : ∃ (s : State) (k n : Nat) (f : Flit),
    alive s = true ∧ s.net.local_.contains (k, f) = true ∧ f.kind = 3 ∧ fld (flitData f 0) 255 248 = 0x10 ∧ matchSet false (fld (flitData f 0) 215 192) (fld (flitData f 0) 191 152) (taken k f s) = some n ∧ (recOf n (taken k f s)).step = fld (flitData f 0) 151 88 :=
  ⟨stApplied, 0, 3, flReport 0x10, by decide +kernel⟩

theorem wit_RoutedTransfersRun_11 : ∃ (s : State) (k : Nat) (f : Flit),
    alive s = true ∧ s.net.local_.contains (k, f) = true ∧ f.kind = 3 ∧ fld (flitData f 0) 255 248 = 0x11 ∧ (s.trn.syncEntry.isSome = true ∨ inSitout s = true) :=
  ⟨{ stLocal (flReport 0x11) with trn := { stUp.trn with syncEntry := some 0 } }, 0, flReport 0x11, by decide +kernel⟩

theorem wit_RoutedTransfersRun_12 : ∃ (s : State) (k : Nat) (f : Flit),
    alive s = true ∧ s.net.local_.contains (k, f) = true ∧ f.kind = 3 ∧ fld (flitData f 0) 255 248 = 0x12 :=
  ⟨stLocal (flReport 0x12), 0, flReport 0x12, by decide +kernel⟩

theorem wit_CollectiveFlitsAndTokens_1 : ∃ (s u : State) (k kind : Nat) (f : Flit) (row : Nat → Flit → Instr) (c : Coll),
    (kind, row) ∈ vl0Rows ∧ alive s = true ∧ f.vl = 0 ∧ f.kind = kind ∧ u = engineTurn s ∧ (linkOf k u).rx.contains f = true ∧ slotOf (flitTag f) u = some c ∧ c.kind = 0 ∧ snoopLines true [((tensorOf (collDest c) u).home, (tensorOf (collDest c) u).size)] u = [] :=
  ⟨stColl 8, engineTurn (stColl 8), 0, 8, flVl0 8, .reduce, collTest, by simp [vl0Rows], by decide, by decide, by decide, rfl, by decide +kernel, by decide +kernel, by decide, by decide +kernel⟩

theorem wit_CollectiveFlitsAndTokens_2 : ∃ (s u : State) (k kind : Nat) (f : Flit) (row : Nat → Flit → Instr) (c : Coll),
    (kind, row) ∈ vl0Rows ∧ alive s = true ∧ f.vl = 0 ∧ f.kind = kind ∧ u = engineTurn s ∧ (linkOf k u).rx.contains f = true ∧ slotOf (flitTag f) u = some c ∧ c.kind ≠ 0 ∧ (c.kind ≠ 6 ∨ flitRound f ≤ c.round) :=
  ⟨stCollBow 8, engineTurn (stCollBow 8), 0, 8, flVl0 8, .reduce, collBow, by simp [vl0Rows], by decide, by decide, by decide, rfl, by decide +kernel, by decide +kernel, by decide, by decide⟩

theorem wit_CollectiveFlitsAndTokens_3 : ∃ (s u : State) (k kind : Nat) (f : Flit) (row : Nat → Flit → Instr),
    (kind, row) ∈ vl0Rows ∧ alive s = true ∧ f.vl = 0 ∧ f.kind = kind ∧ u = engineTurn s ∧ (linkOf k u).rx.contains f = true ∧ slotOf (flitTag f) u = none ∧ tagEnded (flitTag f) u = true :=
  ⟨stEnded 8, engineTurn (stEnded 8), 0, 8, flVl0 8, .reduce, by simp [vl0Rows], by decide, by decide, by decide, rfl, by decide +kernel, by decide +kernel, by decide +kernel⟩

theorem wit_CollectiveFlitsAndTokens_4 : ∃ (s u : State) (k kind : Nat) (f : Flit) (row : Nat → Flit → Instr),
    (kind, row) ∈ vl0Rows ∧ alive s = true ∧ f.vl = 0 ∧ f.kind = kind ∧ u = engineTurn s ∧ (linkOf k u).rx.contains f = true ∧ slotOf (flitTag f) u = none ∧ tagEnded (flitTag f) u = false ∧ tagDeadline (flitTag f) u = none :=
  ⟨stRx 8, engineTurn (stRx 8), 0, 8, flVl0 8, .reduce, by simp [vl0Rows], by decide, by decide, by decide, rfl, by decide +kernel, by decide +kernel, by decide +kernel, by decide +kernel⟩

theorem wit_CollectiveFlitsAndTokens_5 : ∃ (s u : State) (k kind : Nat) (f : Flit) (row : Nat → Flit → Instr) (d : Nat),
    (kind, row) ∈ vl0Rows ∧ alive s = true ∧ f.vl = 0 ∧ f.kind = kind ∧ u = engineTurn s ∧ (linkOf k u).rx.contains f = true ∧ slotOf (flitTag f) u = none ∧ tagEnded (flitTag f) u = false ∧ tagDeadline (flitTag f) u = some d ∧ u.col.staged.length < 131072 :=
  ⟨stAhead 8, engineTurn (stAhead 8), 0, 8, flVl0 8, .reduce, 2 ^ 28, by simp [vl0Rows], by decide, by decide, by decide, rfl, by decide +kernel, by decide +kernel, by decide +kernel, by decide +kernel, by decide⟩

theorem wit_CollectiveFlitsAndTokens_6 : ∃ (s u : State) (k : Nat) (f : Flit) (c : Coll),
    alive s = true ∧ f.vl = 0 ∧ f.kind = 0xA ∧ u = engineTurn s ∧ (linkOf k u).rx.contains f = true ∧ slotOf (flitTag f) u = some c ∧ c.kind = 0 ∧ snoopLines true [((tensorOf (collDest c) u).home, (tensorOf (collDest c) u).size)] u = [] :=
  ⟨stColl 0xA, engineTurn (stColl 0xA), 0, flVl0 0xA, collTest, by decide +kernel⟩

theorem wit_CollectiveFlitsAndTokens_7 : ∃ (s u : State) (k : Nat) (f : Flit) (c : Coll),
    alive s = true ∧ f.vl = 0 ∧ f.kind = 0xA ∧ u = engineTurn s ∧ (linkOf k u).rx.contains f = true ∧ slotOf (flitTag f) u = some c ∧ c.kind = 6 ∧ flitRound f ≤ c.round :=
  ⟨stCollDigest 0xA, engineTurn (stCollDigest 0xA), 0, flVl0 0xA, collDigest, by decide +kernel⟩

theorem wit_CollectiveFlitsAndTokens_8 : ∃ (s u : State) (k : Nat) (f : Flit),
    alive s = true ∧ f.vl = 2 ∧ f.kind = 7 ∧ u = engineTurn s ∧ (linkOf k u).rx.contains f = true ∧ fld f.hdr.toNat 105 98 ≠ 1 ∧ fld f.hdr.toNat 105 98 ≠ 2 ∧ bitOf f.hdr.toNat 106 = true :=
  ⟨stRxOf (flToken true), engineTurn (stRxOf (flToken true)), 0, flToken true, by decide +kernel⟩

theorem wit_CollectiveFlitsAndTokens_9 : ∃ (s u : State) (k : Nat) (f : Flit) (c : Coll),
    alive s = true ∧ f.vl = 2 ∧ f.kind = 7 ∧ u = engineTurn s ∧ (linkOf k u).rx.contains f = true ∧ fld f.hdr.toNat 105 98 ≠ 1 ∧ fld f.hdr.toNat 105 98 ≠ 2 ∧ bitOf f.hdr.toNat 106 = false ∧ slotOf (flitTag f) (takenRx k f u) = some c :=
  ⟨{ stRxOf (flToken false) with col := { stUp.col with slots := [collTest] } }, engineTurn ({ stRxOf (flToken false) with col := { stUp.col with slots := [collTest] } }), 0, flToken false, collTest, by decide +kernel⟩

theorem wit_CollectiveFlitsAndTokens_10 : ∃ (s u : State) (k d : Nat) (f : Flit),
    alive s = true ∧ f.vl = 2 ∧ f.kind = 7 ∧ u = engineTurn s ∧ (linkOf k u).rx.contains f = true ∧ fld f.hdr.toNat 105 98 ≠ 1 ∧ fld f.hdr.toNat 105 98 ≠ 2 ∧ bitOf f.hdr.toNat 106 = false ∧ slotOf (flitTag f) (takenRx k f u) = none ∧ tagEnded (flitTag f) (takenRx k f u) = false ∧ tagDeadline (flitTag f) (takenRx k f u) = some d :=
  ⟨ahead (stRxOf (flToken false)), engineTurn (ahead (stRxOf (flToken false))), 0, 2 ^ 28, flToken false, by decide +kernel⟩

theorem wit_CollectiveFlitsAndTokens_11 : ∃ (s u : State) (tag : Nat) (c : Coll),
    alive s = true ∧ u = engineTurn s ∧ slotOf tag u = some c :=
  ⟨stColl 8, engineTurn (stColl 8), 0, collTest, by decide +kernel⟩

theorem wit_CollectiveFlitsAndTokens_12 : ∃ (s : State) (tag : Nat),
    alive s = true ∧ (s.col.staged.any fun p => flitTag p.2.1 == tag && decide (p.2.2 ≤ now s)) = true :=
  ⟨stStaged, 0, by decide⟩

theorem wit_CollectiveFlitsAndTokens_13 : ∃ (s : State) (tag : Nat),
    alive s = true :=
  ⟨stUp, 0, by decide⟩

theorem wit_CollectivesEndAndStepsCommit_1 : ∃ (s u : State) (tag : Nat) (c : Coll),
    alive s = true ∧ u = engineTurn s ∧ slotOf tag u = some c ∧ c.kind = 0 ∧ c.phase = .running ∧ recordsDone c = true ∧ redoAny c = true ∧ c.round < 31 ∧ ((sourceRanges c u).any fun r => rangeHeld r.1 r.2 u) = false ∧ snoopLines false (sourceRanges c u) u = [] :=
  ⟨stRedo, engineTurn (stRedo), 0, collRedo, by decide +kernel⟩

theorem wit_CollectivesEndAndStepsCommit_2 : ∃ (s u : State) (tag : Nat) (c : Coll),
    alive s = true ∧ u = engineTurn s ∧ slotOf tag u = some c ∧ collDone c = true ∧ rangeHeld (tensorOf (collDest c) u).home (tensorOf (collDest c) u).size u = false ∧ collOp c = 1 :=
  ⟨stDoneRs, engineTurn (stDoneRs), 0, collRs, by decide +kernel⟩

theorem wit_CollectivesEndAndStepsCommit_3 : ∃ (s u : State) (tag g : Nat) (c : Coll),
    alive s = true ∧ u = engineTurn s ∧ slotOf tag u = some c ∧ collDone c = true ∧ rangeHeld (tensorOf (collDest c) u).home (tensorOf (collDest c) u).size u = false ∧ collOp c = 5 ∧ clipGroupOf c.tensor (endColl c u) = some g :=
  ⟨stClip, engineTurn (stClip), 0, 0, collClip, by decide +kernel⟩

theorem wit_CollectivesEndAndStepsCommit_4 : ∃ (s u : State) (tag : Nat) (c : Coll),
    alive s = true ∧ u = engineTurn s ∧ slotOf tag u = some c ∧ collDone c = true ∧ rangeHeld (tensorOf (collDest c) u).home (tensorOf (collDest c) u).size u = false ∧ collOp c ≠ 1 ∧ collOp c ≠ 5 :=
  ⟨stColl 8, engineTurn (stColl 8), 0, collTest, by decide +kernel⟩

theorem wit_CollectivesEndAndStepsCommit_5 : ∃ (s u : State) (tag : Nat) (c : Coll),
    alive s = true ∧ u = engineTurn s ∧ slotOf tag u = some c ∧ c.kind = 1 ∧ finalsDone c = true ∧ bowSum c 0 = collP c ∧ bowSum c 1 = collP c * openStep u :=
  ⟨stBow 1 1, engineTurn (stBow 1 1), 0, collBowOf 1 1, by decide +kernel⟩

theorem wit_CollectivesEndAndStepsCommit_6 : ∃ (s u : State) (tag : Nat) (c : Coll),
    alive s = true ∧ u = engineTurn s ∧ slotOf tag u = some c ∧ c.kind = 1 ∧ finalsDone c = true ∧ (collP c : Int) * openStep u < bowSum c 1 ∧ c.c0 = some true :=
  ⟨stBow 1 2, engineTurn (stBow 1 2), 0, collBowOf 1 2, by decide +kernel⟩

theorem wit_CollectivesEndAndStepsCommit_7 : ∃ (s u : State) (tag : Nat) (c : Coll),
    alive s = true ∧ u = engineTurn s ∧ slotOf tag u = some c ∧ c.kind = 1 ∧ finalsDone c = true ∧ bowSum c 0 ≠ collP c ∧ (bowSum c 1 ≤ (collP c : Int) * openStep u ∨ c.c0 ≠ some true) :=
  ⟨stBow 0 1, engineTurn (stBow 0 1), 0, collBowOf 0 1, by decide +kernel⟩

theorem wit_CollectivesEndAndStepsCommit_8 : ∃ (s u : State) (tag : Nat) (c : Coll),
    alive s = true ∧ u = engineTurn s ∧ slotOf tag u = some c ∧ c.deadline < now u + rd Obj.BOW_MARGIN u * 2 ^ beatB u :=
  ⟨stBow 0 1, engineTurn (stBow 0 1), 0, collBowOf 0 1, by decide +kernel⟩

theorem wit_CollectivesEndAndStepsCommit_9 : ∃ (s u v : State) (entry t : Nat) (d : DigestRun) (c : Coll) (partner : Option (Nat × List (BitVec 128))),
    alive s = true ∧ u = engineTurn s ∧ (digestRuns entry u).find? (fun d => d.tensor == t && !d.done) = some d ∧ u.col.slots.find? (fun c => c.tag == entry && c.kind == 6) = some c ∧ rangeHeld (tensorOf t u).home (tensorOf t u).size u = false ∧ digestEntryHeld t u = false ∧ snoopLines false [((tensorOf t u).home, (tensorOf t u).size)] u = [] ∧ v = takeDigest d (digestCompares entry u) partner u ∧ (digestRuns entry v).all (·.done) = false :=
  ⟨stDigest2, engineTurn (stDigest2), _, 0, 9, runDigest, collDigest, none, by decide, rfl, by decide +kernel, by decide +kernel, by decide +kernel, by decide +kernel, by decide +kernel, rfl, by decide +kernel⟩

theorem wit_CollectivesEndAndStepsCommit_10 : ∃ (s u v : State) (entry t : Nat) (d : DigestRun) (c : Coll) (partner : Option (Nat × List (BitVec 128))),
    alive s = true ∧ u = engineTurn s ∧ (digestRuns entry u).find? (fun d => d.tensor == t && !d.done) = some d ∧ u.col.slots.find? (fun c => c.tag == entry && c.kind == 6) = some c ∧ rangeHeld (tensorOf t u).home (tensorOf t u).size u = false ∧ digestEntryHeld t u = false ∧ snoopLines false [((tensorOf t u).home, (tensorOf t u).size)] u = [] ∧ v = takeDigest d (digestCompares entry u) partner u ∧ (digestRuns entry v).all (·.done) = true ∧ bitOf (digestCompares entry u) 0 = true :=
  ⟨stDigest 1, engineTurn (stDigest 1), _, 0, 9, runDigest, collDigest, none, by decide, rfl, by decide +kernel, by decide +kernel, by decide +kernel, by decide +kernel, by decide +kernel, rfl, by decide +kernel, by decide +kernel⟩

theorem wit_CollectivesEndAndStepsCommit_11 : ∃ (s u v : State) (entry t : Nat) (d : DigestRun) (c : Coll) (partner : Option (Nat × List (BitVec 128))),
    alive s = true ∧ u = engineTurn s ∧ (digestRuns entry u).find? (fun d => d.tensor == t && !d.done) = some d ∧ u.col.slots.find? (fun c => c.tag == entry && c.kind == 6) = some c ∧ rangeHeld (tensorOf t u).home (tensorOf t u).size u = false ∧ digestEntryHeld t u = false ∧ snoopLines false [((tensorOf t u).home, (tensorOf t u).size)] u = [] ∧ v = takeDigest d (digestCompares entry u) partner u ∧ (digestRuns entry v).all (·.done) = true ∧ bitOf (digestCompares entry u) 0 = false :=
  ⟨stDigest 0, engineTurn (stDigest 0), _, 0, 9, runDigest, collDigest, none, by decide, rfl, by decide +kernel, by decide +kernel, by decide +kernel, by decide +kernel, by decide +kernel, rfl, by decide +kernel, by decide +kernel⟩

theorem wit_RestoresAndSeedingsBegin_1 : ∃ (s : State) (w : Writer) (n : Nat),
    alive s = true ∧ accepts w 0x7120 1 1 s = true ∧ inSitout s = false ∧ s.trn.restore = none ∧ (namedSets true s).find? (fun n => begunNow n s && !appliedNow n s) = some n :=
  ⟨stBegunMirror, wI3c, 3, by decide +kernel⟩

theorem wit_RestoresAndSeedingsBegin_2 : ∃ (s : State) (w : Writer) (again : List Nat),
    alive s = true ∧ accepts w 0x7120 1 1 s = true ∧ inSitout s = false ∧ s.trn.restore = none ∧ (namedSets true s).find? (fun n => begunNow n s && !appliedNow n s) = none ∧ again = (namedSets true s).filter (fun n => !begunNow n s && s.trn.retained.contains (setEntry n s).landing) :=
  ⟨stUp, wI3c, [], by decide +kernel⟩

theorem wit_RestoresAndSeedingsBegin_3 : ∃ (s : State) (w : Writer),
    alive s = true ∧ accepts w 0x7120 1 2 s = true ∧ inSitout s = false ∧ s.trn.restore = none :=
  ⟨stUp, wI3c, by decide +kernel⟩

theorem wit_RestoresAndSeedingsBegin_4 : ∃ (s : State) (w : Writer),
    alive s = true ∧ accepts w 0x7120 1 3 s = true ∧ inSitout s = false ∧ s.trn.restore = none :=
  ⟨stUp, wI3c, by decide +kernel⟩

theorem wit_RestoresAndSeedingsBegin_5 : ∃ (s : State) (w : Writer),
    alive s = true ∧ accepts w 0x7120 1 4 s = true ∧ inSitout s = false ∧ s.trn.restore = none :=
  ⟨stUp, wI3c, by decide +kernel⟩

theorem wit_RestoresAndSeedingsBegin_6 : ∃ (s : State) (w : Writer),
    alive s = true ∧ accepts w 0x7120 1 5 s = true ∧ inSitout s = false :=
  ⟨stUp, wI3c, by decide +kernel⟩

theorem wit_RestoresAndSeedingsBegin_7 : ∃ (s : State) (w : Writer) (v : Nat) (row : Writer → Instr),
    (v, row) ∈ [(1, Instr.restoreDonate), (2, .restoreReceive), (3, .seedMirror), (4, .receiveMirror)] ∧ alive s = true ∧ accepts w 0x7120 1 v s = true ∧ (s.trn.restore.isSome = true ∨ inSitout s = true) :=
  ⟨{ stUp with trn := { stUp.trn with restore := some RestoreRun.init } }, wI3c, 1, .restoreDonate, by simp, by decide +kernel, by decide +kernel, by decide⟩

theorem wit_RestoresAndSeedingsBegin_8 : ∃ (s : State) (w : Writer) (v : BitVec 32),
    alive s = true ∧ accepts w 0x4103 1 v.toNat s = true :=
  ⟨stUp, wI3c, 5, by decide +kernel⟩

theorem wit_LinksGoDownAndRetrain_1 : ∃ (s : State) (k : Nat),
    alive s = true :=
  ⟨stUp, 0, by decide +kernel⟩

theorem wit_LinksGoDownAndRetrain_2 : ∃ (s : State) (k : Nat),
    alive s = true :=
  ⟨stUp, 0, by decide +kernel⟩

theorem wit_LinksGoDownAndRetrain_3 : ∃ (s : State) (k : Nat),
    alive s = true :=
  ⟨stUp, 0, by decide +kernel⟩

theorem wit_LinksGoDownAndRetrain_4 : ∃ (s : State) (k : Nat),
    alive s = true :=
  ⟨stUp, 0, by decide +kernel⟩

theorem wit_LinksGoDownAndRetrain_5 : ∃ (s : State) (k : Nat),
    alive s = true ∧ (linkOf k s).state = .hold ∧ stateFor k 8001 s = true :=
  ⟨late8 (stLink .hold), 0, by decide +kernel⟩

theorem wit_LinksGoDownAndRetrain_6 : ∃ (s : State) (k : Nat),
    alive s = true ∧ ((linkOf k s).state ≠ .hold ∨ stateFor k 8001 s = false) :=
  ⟨stLink .up, 0, by decide +kernel⟩

theorem wit_LinksGoDownAndRetrain_7 : ∃ (s : State) (k : Nat),
    alive s = true :=
  ⟨stUp, 0, by decide +kernel⟩

theorem wit_LinksGoDownAndRetrain_8 : ∃ (s : State) (k : Nat),
    alive s = true :=
  ⟨stUp, 0, by decide +kernel⟩

theorem wit_TrainingEndsAndLasersRule_1 : ∃ (s : State) (k n m r b : Nat),
    alive s = true ∧ (linkOf k s).state = .training ∧ n = nodeId s ∧ nodeId s ≠ 0 :=
  ⟨wr Obj.NODE_ID 7 (stLink .training), 0, 7, 0, 0, 0, by decide +kernel⟩

theorem wit_TrainingEndsAndLasersRule_2 : ∃ (s : State) (k n m r b : Nat),
    alive s = true ∧ (linkOf k s).state = .training ∧ (n ≠ nodeId s ∨ nodeId s = 0) :=
  ⟨stLink .training, 0, 7, 0, 0, 160, by decide +kernel⟩

theorem wit_TrainingEndsAndLasersRule_3 : ∃ (s : State) (k n m r b : Nat),
    alive s = true ∧ (linkOf k s).state ≠ .training :=
  ⟨stLink .up, 0, 7, 0, 0, 160, by decide +kernel⟩

theorem wit_TrainingEndsAndLasersRule_4 : ∃ (s : State) (e v b : Nat),
    alive s = true ∧ (b ≤ 90 ∨ nth true (engineOf e s).warned v = true) :=
  ⟨stUp, 0, 0, 50, by decide +kernel⟩

theorem wit_TrainingEndsAndLasersRule_5 : ∃ (s : State) (e v b : Nat),
    alive s = true ∧ 90 < b ∧ nth true (engineOf e s).warned v = false :=
  ⟨stUp, 0, 0, 95, by decide +kernel⟩

theorem wit_TrainingEndsAndLasersRule_6 : ∃ (s : State) (e v b : Nat),
    alive s = true :=
  ⟨stUp, 0, 0, 95, by decide +kernel⟩

theorem wit_TrainingEndsAndLasersRule_7 : ∃ (s : State) (e : Nat),
    alive s = true ∧ e < 8 ∧ (engineOf e s).faulted = false :=
  ⟨stUp, 0, by decide +kernel⟩

theorem wit_TrainingEndsAndLasersRule_8 : ∃ (s : State) (e : Nat),
    alive s = true ∧ e < 8 ∧ (engineOf e s).hotOff = false ∧ (engineOf e s).hot90At.any (fun a => decide (a + 100000000 ≤ s.clk.ticks)) = true :=
  ⟨stHotEngine, 0, by decide +kernel⟩

theorem wit_TrainingEndsAndLasersRule_9 : ∃ (s : State) (e : Nat) (t : BitVec 16),
    alive s = true :=
  ⟨stUp, 0, 100, by decide +kernel⟩

theorem wit_TrainingEndsAndLasersRule_10 : ∃ (s : State) (w : Writer) (k : Nat),
    alive s = true ∧ accepts w 0x8002 (k + 1) 0 s = true :=
  ⟨stUp, wI3c, 0, by decide +kernel⟩

theorem wit_TrainingEndsAndLasersRule_11 : ∃ (s : State) (w : Writer) (k : Nat),
    alive s = true ∧ accepts w 0x8002 (k + 1) 1 s = true :=
  ⟨stUp, wI3c, 0, by decide +kernel⟩

theorem wit_TrainingEndsAndLasersRule_12 : ∃ (s : State) (w : Writer) (k : Nat),
    alive s = true ∧ accepts w 0x8002 (k + 1) 2 s = true :=
  ⟨stUp, wI3c, 0, by decide +kernel⟩

theorem wit_FramesAreReceived_1 : ∃ (s : State) (k : Nat) (x : BitVec 640) (fl : List Flit) (bad : Bool) (cor : Nat),
    alive s = true ∧ (linkOf k s).state = .down ∧ (bad = false ∧ scrcOk x.toNat = true) ∧ fld x.toNat 542 539 = 2 ∧ lightOk k s = true :=
  ⟨stLinkDown, 0, frameSlot (2 * 2 ^ 539), [], false, 2, by decide +kernel⟩

theorem wit_FramesAreReceived_2 : ∃ (s : State) (k : Nat) (x : BitVec 640) (fl : List Flit) (bad : Bool) (cor : Nat),
    alive s = true ∧ linkLive k s = false ∧ ((linkOf k s).state = .down → ¬ ((bad = false ∧ scrcOk x.toNat = true) ∧ fld x.toNat 542 539 = 2 ∧ lightOk k s = true)) :=
  ⟨stLink .training, 0, frameSlot 0, [], false, 2, by decide +kernel⟩

theorem wit_FramesAreReceived_3 : ∃ (s : State) (k : Nat) (x : BitVec 640) (fl : List Flit) (bad : Bool) (cor : Nat),
    alive s = true ∧ linkLive k s = true ∧ (bad = false ∧ scrcOk x.toNat = true) ∧ (fld x.toNat 527 504 ≠ (linkOf k s).farNode ∨ fld x.toNat 533 528 ≠ (linkOf k s).farLink) :=
  ⟨stLink .up, 0, frameSlot (5 * 2 ^ 504), [], false, 2, by decide +kernel⟩

theorem wit_FramesAreReceived_4 : ∃ (s : State) (k : Nat) (x : BitVec 640) (fl : List Flit) (bad : Bool) (cor : Nat),
    alive s = true ∧ linkLive k s = true ∧ (¬ ((bad = false ∧ scrcOk x.toNat = true) ∧ (fld x.toNat 527 504 ≠ (linkOf k s).farNode ∨ fld x.toNat 533 528 ≠ (linkOf k s).farLink))) ∧ 16 ≤ (linkOf k (takeSlot k x.toNat bad cor s)).nakRun :=
  ⟨modLink 0 (fun l => { l with nakRun := 20 }) (stLink .up), 0, frameSlot 0, [], true, 2, by decide +kernel⟩

theorem wit_FramesAreReceived_5 : ∃ (s : State) (k : Nat) (x : BitVec 640) (fl : List Flit) (bad : Bool) (cor : Nat),
    alive s = true ∧ linkLive k s = true ∧ (¬ ((bad = false ∧ scrcOk x.toNat = true) ∧ (fld x.toNat 527 504 ≠ (linkOf k s).farNode ∨ fld x.toNat 533 528 ≠ (linkOf k s).farLink))) ∧ (linkOf k (takeSlot k x.toNat bad cor s)).nakRun < 16 ∧ (bad = true ∨ scrcOk x.toNat = false ∨ fl.all hcrcOk = false) :=
  ⟨stLink .up, 0, frameSlot 0, [], true, 2, by decide +kernel⟩

theorem wit_FramesAreReceived_6 : ∃ (s : State) (k : Nat) (x : BitVec 640) (fl : List Flit) (bad : Bool) (cor : Nat),
    alive s = true ∧ linkLive k s = true ∧ (¬ ((bad = false ∧ scrcOk x.toNat = true) ∧ (fld x.toNat 527 504 ≠ (linkOf k s).farNode ∨ fld x.toNat 533 528 ≠ (linkOf k s).farLink))) ∧ (linkOf k (takeSlot k x.toNat bad cor s)).nakRun < 16 ∧ bad = false ∧ scrcOk x.toNat = true ∧ fl.all hcrcOk = true ∧ fld x.toNat 575 560 ≠ ((linkOf k s).rxNo + 1) % 65536 :=
  ⟨modLink 0 (fun l => { l with rxNo := 3 }) (stLink .up), 0, frameSlot 0, [], false, 2, by decide +kernel⟩

theorem wit_FramesAreReceived_7 : ∃ (s : State) (k : Nat) (x : BitVec 640) (fl : List Flit) (bad : Bool) (cor : Nat),
    alive s = true ∧ linkLive k s = true ∧ (¬ ((bad = false ∧ scrcOk x.toNat = true) ∧ (fld x.toNat 527 504 ≠ (linkOf k s).farNode ∨ fld x.toNat 533 528 ≠ (linkOf k s).farLink))) ∧ (linkOf k (takeSlot k x.toNat bad cor s)).nakRun < 16 ∧ bad = false ∧ scrcOk x.toNat = true ∧ fl.all hcrcOk = true ∧ fld x.toNat 575 560 = ((linkOf k s).rxNo + 1) % 65536 :=
  ⟨stLink .up, 0, frameSlot (1 * 2 ^ 560), [idleFlit], false, 2, by decide +kernel⟩

theorem wit_FlitsAreTransmitted_1 : ∃ (s t : State) (k : Nat),
    alive s = true ∧ t = routesRetried s ∧ (linkOf k t).state ≠ .up :=
  ⟨stLink .hold, stLink .hold, 0, by decide +kernel⟩

theorem wit_FlitsAreTransmitted_2 : ∃ (s t : State) (k : Nat),
    alive s = true ∧ t = routesRetried s ∧ (linkOf k t).state = .up ∧ (linkOf k t).again.isSome = true :=
  ⟨stAgain, stAgain, 0, by decide +kernel⟩

theorem wit_FlitsAreTransmitted_3 : ∃ (s t : State) (k : Nat),
    alive s = true ∧ t = routesRetried s ∧ (linkOf k t).state = .up ∧ (linkOf k t).again = none ∧ (linkOf k t).tokenDue = true ∧ (linkOf k t).token0 = true :=
  ⟨stToken, stToken, 0, by decide +kernel⟩

theorem wit_FlitsAreTransmitted_4 : ∃ (s t : State) (k : Nat),
    alive s = true ∧ t = routesRetried s ∧ (linkOf k t).state = .up ∧ (linkOf k t).again = none ∧ ((linkOf k t).tokenDue = false ∨ (linkOf k t).token0 = false) ∧ (linkOf k t).cur = [] ∧ (linkOf k t).replaying ≠ [] :=
  ⟨stReplay, stReplay, 0, by decide +kernel⟩

theorem wit_FlitsAreTransmitted_5 : ∃ (s t : State) (k : Nat),
    alive s = true ∧ t = routesRetried s ∧ (linkOf k t).state = .up ∧ (linkOf k t).again = none ∧ ((linkOf k t).tokenDue = false ∨ (linkOf k t).token0 = false) ∧ ((linkOf k t).cur ≠ [] ∨ (linkOf k t).replaying = []) ∧ replayRoom k t = false :=
  ⟨stNoRoom, stNoRoom, 0, by decide +kernel⟩

theorem wit_FlitsAreTransmitted_6 : ∃ (s t : State) (k : Nat),
    alive s = true ∧ t = routesRetried s ∧ (linkOf k t).state = .up ∧ (linkOf k t).again = none ∧ ((linkOf k t).tokenDue = false ∨ (linkOf k t).token0 = false) ∧ ((linkOf k t).cur ≠ [] ∨ (linkOf k t).replaying = []) ∧ replayRoom k t = true ∧ (chooseFlit k t).1 = none :=
  ⟨stLink .up, stLink .up, 0, by decide +kernel⟩

theorem wit_FlitsAreTransmitted_7 : ∃ (s t : State) (k : Nat) (f g : Flit) (l : Link),
    alive s = true ∧ t = routesRetried s ∧ (linkOf k t).state = .up ∧ (linkOf k t).again = none ∧ ((linkOf k t).tokenDue = false ∨ (linkOf k t).token0 = false) ∧ ((linkOf k t).cur ≠ [] ∨ (linkOf k t).replaying = []) ∧ replayRoom k t = true ∧ (chooseFlit k t).1 = some f ∧ useCredit f (linkOf k (windowStep k (chooseFlit k t).2 t)) = some (g, l) :=
  ⟨stFlitQueued, stFlitQueued, 0, flVl1, flVl1.set 124 124 0, sentLink, by decide +kernel⟩

theorem wit_HoldsRingsAndAsymmetry_1 : ∃ (s : State) (k : Nat),
    alive s = true ∧ ringLink s = some k ∧ ringMayStart s = true ∧ (linkOf k s).state = .up :=
  ⟨stRing, 0, by decide +kernel⟩

theorem wit_HoldsRingsAndAsymmetry_2 : ∃ (s : State) (k : Nat),
    alive s = true ∧ ringLink s = some k ∧ ringMayStart s = true ∧ (linkOf k s).state = .hold :=
  ⟨modLink 0 (fun l => { l with state := .hold }) stRing, 0, by decide +kernel⟩

theorem wit_HoldsRingsAndAsymmetry_3 : ∃ (s : State) (k : Nat),
    alive s = true ∧ ringLink s = some k ∧ ringMayStart s = true ∧ linkLive k s = false :=
  ⟨modLink 0 (fun l => { l with state := .dark }) stRing, 0, by decide +kernel⟩

theorem wit_HoldsRingsAndAsymmetry_4 : ∃ (s : State) (k : Nat) (r : RingFig) (rest : List RingFig),
    alive s = true ∧ ringLink s = some k ∧ ringMayStart s = false ∧ s.net.ringFigs = r :: rest :=
  ⟨stRingLate, 0, ⟨0, [0], 0, false⟩, [], by decide +kernel⟩

theorem wit_HoldsRingsAndAsymmetry_5 : ∃ (s : State) (k : Nat),
    alive s = true ∧ ringLink s ≠ some k :=
  ⟨stUp, 0, by decide +kernel⟩

theorem wit_HoldsRingsAndAsymmetry_6 : ∃ (s : State) (k : Nat),
    alive s = true ∧ (linkOf k s).state = .hold :=
  ⟨stLink .hold, 0, by decide +kernel⟩

theorem wit_HoldsRingsAndAsymmetry_7 : ∃ (s : State) (k : Nat),
    alive s = true ∧ (linkOf k s).state ≠ .hold :=
  ⟨stLink .up, 0, by decide +kernel⟩

theorem wit_HoldsRingsAndAsymmetry_8 : ∃ (s : State) (e : Nat),
    alive s = true ∧ (engineOf e s).calAge + rd Obj.RING_MAX_AGE s ≤ opSec s ∧ (s.net.ringFigs.any fun r => r.urgent && r.engines.contains e) = false ∧ ringBusy e s = false ∧ e < 8 :=
  ⟨wr Obj.RING_MAX_AGE 0 stUp, 0, by decide +kernel⟩

theorem wit_HoldsRingsAndAsymmetry_9 : ∃ (s : State) (w : Writer),
    alive s = true ∧ accepts w 0x8005 13 1 s = true ∧ s.tim.servo = .locked ∧ (¬ (rd Obj.TIME_MODE s = 0 ∧ rd Obj.PTP_LINK s = selectorOf w.via 0x8005 s)) ∧ linkLive (selectorOf w.via 0x8005 s) s = true :=
  ⟨stAsym, wI3c, by decide +kernel⟩

theorem wit_HoldsRingsAndAsymmetry_10 : ∃ (s : State) (k : Nat) (b : Bool) (a : BitVec 32),
    alive s = true ∧ (linkOf k s).asymCal = true ∧ b = true ∧ s.tim.servo = .locked ∧ (linkOf k s).asymAt + 64000000000 ≤ s.clk.ticks :=
  ⟨stAsymRun, 0, true, 5, by decide +kernel⟩

theorem wit_HoldsRingsAndAsymmetry_11 : ∃ (s : State) (k : Nat) (b : Bool) (a : BitVec 32),
    alive s = true ∧ (linkOf k s).asymCal = true ∧ b = true ∧ s.tim.servo = .locked ∧ s.clk.ticks < (linkOf k s).asymAt + 64000000000 :=
  ⟨modLink 0 (fun l => { l with asymAt := 5 }) stAsymRun, 0, true, 5, by decide +kernel⟩

theorem wit_HoldsRingsAndAsymmetry_12 : ∃ (s : State) (k : Nat) (b : Bool) (a : BitVec 32),
    alive s = true ∧ (linkOf k s).asymCal = true ∧ (b = false ∨ s.tim.servo ≠ .locked) :=
  ⟨stAsymRun, 0, false, 5, by decide +kernel⟩

theorem wit_DictionaryWritesActByClass_1 : ∃ (s : State) (c : Instr) (w : Writer) (tag idx sub len v : Nat),
    writesObject c w tag idx sub len v ∧ requestTaken w idx sub s = true ∧ writeGate w idx sub len v s ≠ 0 :=
  ⟨stUp, .objectWrite wI3c 0x2010 3 (BitVec.ofNat 64 9), wI3c, 0, 0x2010, 3, objSize 0x2010 3, 9, .inr ⟨BitVec.ofNat 64 9, rfl, rfl, rfl, by decide⟩, by decide +kernel, by decide +kernel⟩

theorem wit_DictionaryWritesActByClass_2 : ∃ (s : State) (c : Instr) (w : Writer) (tag idx sub len v : Nat) (r : ObjRow),
    writesObject c w tag idx sub len v ∧ requestTaken w idx sub s = true ∧ writeGate w idx sub len v s = 0 ∧ findObj idx sub = .ok r ∧ isSelector idx sub = true :=
  ⟨stUp, .objectWrite wI3c 0x8005 1 (BitVec.ofNat 64 3), wI3c, 0, 0x8005, 1, objSize 0x8005 1, 3, rowOf 0x8005 1, .inr ⟨BitVec.ofNat 64 3, rfl, rfl, rfl, by decide⟩, by decide +kernel, by decide +kernel, by decide +kernel, by decide +kernel⟩

theorem wit_DictionaryWritesActByClass_3 : ∃ (s : State) (c : Instr) (w : Writer) (tag idx sub len v : Nat) (r : ObjRow),
    writesObject c w tag idx sub len v ∧ requestTaken w idx sub s = true ∧ writeGate w idx sub len v s = 0 ∧ findObj idx sub = .ok r ∧ isSelector idx sub = false ∧ r.access = .wo :=
  ⟨stUp, .objectWrite wI3c 0x2010 3 (BitVec.ofNat 64 1), wI3c, 0, 0x2010, 3, objSize 0x2010 3, 1, rowOf 0x2010 3, .inr ⟨BitVec.ofNat 64 1, rfl, rfl, rfl, by decide⟩, by decide +kernel, by decide +kernel, by decide +kernel, by decide +kernel, by decide +kernel⟩

theorem wit_DictionaryWritesActByClass_4 : ∃ (s : State) (c : Instr) (w : Writer) (tag idx sub len v : Nat) (r : ObjRow),
    writesObject c w tag idx sub len v ∧ requestTaken w idx sub s = true ∧ writeGate w idx sub len v s = 0 ∧ findObj idx sub = .ok r ∧ isSelector idx sub = false ∧ r.access ≠ .wo ∧ 0x2000 ≤ idx ∧ idx ≤ 0x2FFF :=
  ⟨stUp, .objectWrite wI3c 0x2010 1 (BitVec.ofNat 64 1), wI3c, 0, 0x2010, 1, objSize 0x2010 1, 1, rowOf 0x2010 1, .inr ⟨BitVec.ofNat 64 1, rfl, rfl, rfl, by decide⟩, by decide +kernel, by decide +kernel, by decide +kernel, by decide +kernel, by decide +kernel, by decide +kernel, by decide +kernel⟩

theorem wit_DictionaryWritesActByClass_5 : ∃ (s : State) (c : Instr) (w : Writer) (tag idx sub len v : Nat) (r : ObjRow),
    writesObject c w tag idx sub len v ∧ requestTaken w idx sub s = true ∧ writeGate w idx sub len v s = 0 ∧ findObj idx sub = .ok r ∧ isSelector idx sub = false ∧ r.access ≠ .wo ∧ (¬ (0x2000 ≤ idx ∧ idx ≤ 0x2FFF)) ∧ (r.change = .commit ∨ nth false s.dict.stageMode (transportNum w.via) = true) :=
  ⟨stUp, .objectWrite wI3c 0x8001 1 (BitVec.ofNat 64 7), wI3c, 0, 0x8001, 1, objSize 0x8001 1, 7, rowOf 0x8001 1, .inr ⟨BitVec.ofNat 64 7, rfl, rfl, rfl, by decide⟩, by decide +kernel, by decide +kernel, by decide +kernel, by decide +kernel, by decide +kernel, by decide +kernel, by decide +kernel⟩

theorem wit_DictionaryWritesActByClass_6 : ∃ (s : State) (c : Instr) (w : Writer) (tag idx sub len v : Nat) (r : ObjRow) (f : Nat),
    writesObject c w tag idx sub len v ∧ requestTaken w idx sub s = true ∧ writeGate w idx sub len v s = 0 ∧ findObj idx sub = .ok r ∧ isSelector idx sub = false ∧ r.access ≠ .wo ∧ (¬ (0x2000 ≤ idx ∧ idx ≤ 0x2FFF)) ∧ r.change ≠ .commit ∧ nth false s.dict.stageMode (transportNum w.via) = false ∧ r.change = .stopped ∧ ownerFn idx = some f ∧ f ≠ 15 ∧ runOf f s ≠ .stopped :=
  ⟨stRunningCores, .objectWrite wI3c 0x4101 1 (BitVec.ofNat 64 1), wI3c, 0, 0x4101, 1, objSize 0x4101 1, 1, rowOf 0x4101 1, 0, .inr ⟨BitVec.ofNat 64 1, rfl, rfl, rfl, by decide⟩, by decide +kernel, by decide +kernel, by decide +kernel, by decide +kernel, by decide +kernel, by decide +kernel, by decide +kernel, by decide +kernel, by decide +kernel, by decide +kernel, by decide +kernel⟩

theorem wit_DictionaryWritesActByClass_7 : ∃ (s : State) (c : Instr) (w : Writer) (tag idx sub len v : Nat) (r : ObjRow),
    writesObject c w tag idx sub len v ∧ requestTaken w idx sub s = true ∧ writeGate w idx sub len v s = 0 ∧ findObj idx sub = .ok r ∧ isSelector idx sub = false ∧ r.access ≠ .wo ∧ (¬ (0x2000 ≤ idx ∧ idx ≤ 0x2FFF)) ∧ r.change ≠ .commit ∧ nth false s.dict.stageMode (transportNum w.via) = false ∧ (r.change ≠ .stopped ∨ ownerFn idx = none ∨ (∃ f, ownerFn idx = some f ∧ (f = 15 ∨ runOf f s = .stopped))) :=
  ⟨stUp, .objectWrite wI3c 0x6020 1 (BitVec.ofNat 64 500), wI3c, 0, 0x6020, 1, objSize 0x6020 1, 500, rowOf 0x6020 1, .inr ⟨BitVec.ofNat 64 500, rfl, rfl, rfl, by decide⟩, by decide +kernel, by decide +kernel, by decide +kernel, by decide +kernel, by decide +kernel, by decide +kernel, by decide +kernel, by decide +kernel⟩

theorem wit_DictionaryReadsAnswer_1 : ∃ (s : State) (w : Writer) (a : BitVec 16) (b d : BitVec 24),
    requestTaken w (dictIndex (dictHeader a b d)) (dictSub (dictHeader a b d)) s = true ∧ headerCheck 1 (dictHeader a b d) 0 = 0 ∧ firmwareDown s = true :=
  ⟨wr Obj.FAULT_STATE 1 { stUp with boot := { stUp.boot with fwRunning := false } }, wI3c, BitVec.ofNat 16 (1 * 256), BitVec.ofNat 24 (0x3001 * 256 + 1), BitVec.ofNat 24 0, by decide +kernel⟩

theorem wit_DictionaryReadsAnswer_2 : ∃ (s : State) (w : Writer) (a : BitVec 16) (b d : BitVec 24) (e : Nat),
    requestTaken w (dictIndex (dictHeader a b d)) (dictSub (dictHeader a b d)) s = true ∧ headerCheck 1 (dictHeader a b d) 0 = 0 ∧ firmwareDown s = false ∧ findObj (dictIndex (dictHeader a b d)) (dictSub (dictHeader a b d)) = .error e :=
  ⟨stUp, wI3c, BitVec.ofNat 16 (1 * 256), BitVec.ofNat 24 (0x1 * 256 + 0), BitVec.ofNat 24 0, errOf 1 0, by decide +kernel⟩

theorem wit_DictionaryReadsAnswer_3 : ∃ (s : State) (w : Writer) (a : BitVec 16) (b d : BitVec 24) (r : ObjRow),
    requestTaken w (dictIndex (dictHeader a b d)) (dictSub (dictHeader a b d)) s = true ∧ headerCheck 1 (dictHeader a b d) 0 = 0 ∧ firmwareDown s = false ∧ findObj (dictIndex (dictHeader a b d)) (dictSub (dictHeader a b d)) = .ok r ∧ isBar w = true ∧ r.size = 0 ∧ dictIndex (dictHeader a b d) ≠ 0x1000 :=
  ⟨{ stUp with host := { stUp.host with up := true } }, ⟨.cxl, 0⟩, BitVec.ofNat 16 (1 * 256), BitVec.ofNat 24 (0xB100 * 256 + 1), BitVec.ofNat 24 0, rowOf 0xB100 1, by decide +kernel⟩

theorem wit_DictionaryReadsAnswer_4 : ∃ (s : State) (w : Writer) (a : BitVec 16) (b d : BitVec 24) (r : ObjRow),
    requestTaken w (dictIndex (dictHeader a b d)) (dictSub (dictHeader a b d)) s = true ∧ headerCheck 1 (dictHeader a b d) 0 = 0 ∧ firmwareDown s = false ∧ findObj (dictIndex (dictHeader a b d)) (dictSub (dictHeader a b d)) = .ok r ∧ (isBar w = false ∨ r.size ≠ 0 ∨ dictIndex (dictHeader a b d) = 0x1000) ∧ r.access = .wo :=
  ⟨stUp, wI3c, BitVec.ofNat 16 (1 * 256), BitVec.ofNat 24 (0x2010 * 256 + 3), BitVec.ofNat 24 0, rowOf 0x2010 3, by decide +kernel⟩

theorem wit_DictionaryReadsAnswer_5 : ∃ (s : State) (w : Writer) (a : BitVec 16) (b d : BitVec 24) (r : ObjRow),
    requestTaken w (dictIndex (dictHeader a b d)) (dictSub (dictHeader a b d)) s = true ∧ headerCheck 1 (dictHeader a b d) 0 = 0 ∧ firmwareDown s = false ∧ findObj (dictIndex (dictHeader a b d)) (dictSub (dictHeader a b d)) = .ok r ∧ (isBar w = false ∨ r.size ≠ 0 ∨ dictIndex (dictHeader a b d) = 0x1000) ∧ r.access ≠ .wo :=
  ⟨stUp, wI3c, BitVec.ofNat 16 (1 * 256), BitVec.ofNat 24 (0x3001 * 256 + 1), BitVec.ofNat 24 0, rowOf 0x3001 1, by decide +kernel⟩

theorem wit_DictionaryReadsAnswer_6 : ∃ (s : State) (w : Writer) (a : BitVec 16) (b d : BitVec 24) (v : List Byte),
    requestTaken w (dictIndex (dictHeader a b d)) (dictSub (dictHeader a b d)) s = true ∧ requestTaken w (dictIndex (dictHeader a b d)) 1 s = true ∧ headerCheck 3 (dictHeader a b d) v.length = 0 ∧ (writeObject w (dictIndex (dictHeader a b d)) 1 v.length (ofLeBytes v) s).1 = 0 :=
  ⟨stUp, wI3c, BitVec.ofNat 16 (3 * 256), BitVec.ofNat 24 (0x8005 * 256 + 2), BitVec.ofNat 24 1, [3#8], by decide +kernel⟩

theorem wit_DictionaryReadsAnswer_7 : ∃ (s : State) (w : Writer) (a : BitVec 16) (b d : BitVec 24) (v : List Byte),
    requestTaken w (dictIndex (dictHeader a b d)) (dictSub (dictHeader a b d)) s = true ∧ requestTaken w (dictIndex (dictHeader a b d)) 1 s = true ∧ headerCheck 3 (dictHeader a b d) v.length = 0 ∧ (writeObject w (dictIndex (dictHeader a b d)) 1 v.length (ofLeBytes v) s).1 ≠ 0 :=
  ⟨stUp, wI3c, BitVec.ofNat 16 (3 * 256), BitVec.ofNat 24 (0x8005 * 256 + 2), BitVec.ofNat 24 2, [3#8, 0#8], by decide +kernel⟩

theorem wit_DictionaryReadsAnswer_8 : ∃ (s : State) (w : Writer) (a : BitVec 16) (b d : BitVec 24) (v : List Byte),
    requestTaken w (dictIndex (dictHeader a b d)) (dictSub (dictHeader a b d)) s = true ∧ headerCheck 4 (dictHeader a b d) v.length = 0 ∧ (v.length ≠ 4 ∨ isDomain (dictIndex (dictHeader a b d)) (dictSub (dictHeader a b d)) = false) :=
  ⟨stUp, wI3c, BitVec.ofNat 16 (4 * 256), BitVec.ofNat 24 (0x3001 * 256 + 1), BitVec.ofNat 24 4, [0, 0, 0, 0], by decide +kernel⟩

theorem wit_DictionaryReadsAnswer_9 : ∃ (s : State) (w : Writer) (a : BitVec 16) (b d : BitVec 24) (v : List Byte),
    requestTaken w (dictIndex (dictHeader a b d)) (dictSub (dictHeader a b d)) s = true ∧ headerCheck 4 (dictHeader a b d) v.length = 0 ∧ v.length = 4 ∧ isDomain (dictIndex (dictHeader a b d)) (dictSub (dictHeader a b d)) = true :=
  ⟨stUp, wI3c, BitVec.ofNat 16 (4 * 256), BitVec.ofNat 24 (0xB100 * 256 + 1), BitVec.ofNat 24 4, [0, 0, 0, 0], by decide +kernel⟩

theorem wit_DictionaryReadsAnswer_10 : ∃ (s : State) (w : Writer) (a : BitVec 16) (b d : BitVec 24),
    requestTaken w (dictIndex (dictHeader a b d)) (dictSub (dictHeader a b d)) s = true ∧ headerCheck 1 (dictHeader a b d) 0 ≠ 0 :=
  ⟨stUp, wI3c, BitVec.ofNat 16 (7 * 256), BitVec.ofNat 24 (0x3001 * 256 + 1), BitVec.ofNat 24 0, by decide +kernel⟩

theorem wit_DictionaryReadsAnswer_11 : ∃ (s : State) (w : Writer) (a : BitVec 16) (b d : BitVec 24) (v : List Byte),
    requestTaken w (dictIndex (dictHeader a b d)) (dictSub (dictHeader a b d)) s = true ∧ headerCheck 2 (dictHeader a b d) v.length ≠ 0 :=
  ⟨stUp, wI3c, BitVec.ofNat 16 (7 * 256), BitVec.ofNat 24 (0x3001 * 256 + 1), BitVec.ofNat 24 0, [0], by decide +kernel⟩

theorem wit_DictionaryReadsAnswer_12 : ∃ (s : State) (w : Writer) (a : BitVec 16) (b d : BitVec 24) (v : List Byte),
    requestTaken w (dictIndex (dictHeader a b d)) (dictSub (dictHeader a b d)) s = true ∧ requestTaken w (dictIndex (dictHeader a b d)) 1 s = true ∧ headerCheck 3 (dictHeader a b d) v.length ≠ 0 :=
  ⟨stUp, wI3c, BitVec.ofNat 16 (7 * 256), BitVec.ofNat 24 (0x3001 * 256 + 1), BitVec.ofNat 24 0, [0], by decide +kernel⟩

theorem wit_DictionaryReadsAnswer_13 : ∃ (s : State) (w : Writer) (a : BitVec 16) (b d : BitVec 24) (v : List Byte),
    requestTaken w (dictIndex (dictHeader a b d)) (dictSub (dictHeader a b d)) s = true ∧ headerCheck 4 (dictHeader a b d) v.length ≠ 0 :=
  ⟨stUp, wI3c, BitVec.ofNat 16 (7 * 256), BitVec.ofNat 24 (0x3001 * 256 + 1), BitVec.ofNat 24 0, [0], by decide +kernel⟩

theorem wit_DictionaryReadsAnswer_14 : ∃ (s : State) (p : Flit × Nat),
    alive s = true ∧ lateResponse s = some p :=
  ⟨stLateAnswer, (lateFlit, 0), by decide +kernel⟩

theorem wit_DictionaryReadsAnswer_15 : ∃ (s : State),
    alive s = true ∧ lateResponse s = none :=
  ⟨stUp, by decide +kernel⟩

theorem wit_CommitsStartArmAndEnd_1 : ∃ (s t : State) (w : Writer),
    alive s = true ∧ accepts w 0x2010 3 1 s = true ∧ commitBusy s = false ∧ commitOwner w s = true ∧ t = touchStaging w s ∧ t.trn.phase = none ∧ setLegal (rd Obj.COMMIT_SET t) = true ∧ ((rd Obj.COMMIT_TIME t) = 0 ∨ now t ≤ (rd Obj.COMMIT_TIME t)) ∧ ((rd Obj.COMMIT_TIME t) = 0 ∨ bitOf (rd Obj.COMMIT_SET t) 5 = false ∨ ((nextB (rd Obj.COMMIT_SET t) t = beatB t ∨ onMeasure (commitGrid (rd Obj.COMMIT_SET t) t) (rd Obj.COMMIT_TIME t) = true) ∧ onMeasure (beatB t) (rd Obj.COMMIT_TIME t) = true)) :=
  ⟨stUp, stUp, wI3c, by decide +kernel⟩

theorem wit_CommitsStartArmAndEnd_2 : ∃ (s t : State) (w : Writer),
    alive s = true ∧ accepts w 0x2010 3 2 s = true ∧ commitBusy s = false ∧ commitOwner w s = true ∧ t = touchStaging w s ∧ setLegal (rd Obj.COMMIT_SET t) = true :=
  ⟨stUp, stUp, wI3c, by decide +kernel⟩

theorem wit_CommitsStartArmAndEnd_3 : ∃ (s t : State) (w : Writer),
    alive s = true ∧ accepts w 0x2010 3 3 s = true ∧ commitBusy s = false ∧ commitOwner w s = true ∧ t = touchStaging w s :=
  ⟨stUp, stUp, wI3c, by decide +kernel⟩

theorem wit_CommitsStartArmAndEnd_4 : ∃ (s t : State) (w : Writer),
    alive s = true ∧ accepts w 0x2010 3 4 s = true ∧ commitBusy s = false ∧ commitOwner w s = true ∧ t = touchStaging w s :=
  ⟨stUp, stUp, wI3c, by decide +kernel⟩

theorem wit_CommitsStartArmAndEnd_5 : ∃ (s : State) (w : Writer),
    alive s = true ∧ accepts w 0x2010 3 4 s = true ∧ commitOwner w s = false ∧ w.via = .i3c :=
  ⟨stOwned, wI3c, by decide +kernel⟩

theorem wit_CommitsStartArmAndEnd_6 : ∃ (s t : State) (w : Writer),
    alive s = true ∧ accepts w 0x2010 3 5 s = true ∧ commitBusy s = false ∧ commitOwner w s = true ∧ t = touchStaging w s ∧ setLegal (rd Obj.COMMIT_SET t) = true ∧ (validated (stagedIn (rd Obj.COMMIT_SET t) t) t).1 = none :=
  ⟨stUp, stUp, wI3c, by decide +kernel⟩

theorem wit_CommitsStartArmAndEnd_7 : ∃ (s t : State) (w : Writer) (e a : Nat),
    alive s = true ∧ accepts w 0x2010 3 5 s = true ∧ commitBusy s = false ∧ commitOwner w s = true ∧ t = touchStaging w s ∧ setLegal (rd Obj.COMMIT_SET t) = true ∧ (validated (stagedIn (rd Obj.COMMIT_SET t) t) t).1 = some (e, a) :=
  ⟨stBadStaged, stBadStaged, wI3c, failOf.1, failOf.2, by decide +kernel⟩

theorem wit_CommitsStartArmAndEnd_8 : ∃ (s : State) (w : Writer),
    alive s = true ∧ accepts w 0x2010 3 1 s = true ∧ commitBusy s = false ∧ commitOwner w s = false :=
  ⟨stOwned, wI3c, by decide +kernel⟩

theorem wit_CommitsStartArmAndEnd_9 : ∃ (s : State) (w : Writer),
    alive s = true ∧ accepts w 0x2010 3 2 s = true ∧ commitBusy s = false ∧ commitOwner w s = false :=
  ⟨stOwned, wI3c, by decide +kernel⟩

theorem wit_CommitsStartArmAndEnd_10 : ∃ (s : State) (w : Writer),
    alive s = true ∧ accepts w 0x2010 3 3 s = true ∧ commitBusy s = false ∧ commitOwner w s = false :=
  ⟨stOwned, wI3c, by decide +kernel⟩

theorem wit_CommitsStartArmAndEnd_11 : ∃ (s : State) (w : Writer),
    alive s = true ∧ accepts w 0x2010 3 5 s = true ∧ commitBusy s = false ∧ commitOwner w s = false :=
  ⟨stOwned, wI3c, by decide +kernel⟩

theorem wit_CommitsStartArmAndEnd_12 : ∃ (s : State) (c : Commit),
    alive s = true ∧ s.dict.commit = some c ∧ c.phase = .waitTime ∧ commitBegin c s ≤ now s :=
  ⟨stCommitWaiting, { Commit.init with phase := .waitTime }, by decide +kernel⟩

theorem wit_CommitsStartArmAndEnd_13 : ∃ (s t : State) (c : Commit),
    alive s = true ∧ s.dict.commit = some c ∧ c.phase = .stopping ∧ t = forEach ([0, 1, 2, 3, 4, 6].filter fun f => bitOf c.fset.toNat f) (fun f u => onlyIf (runOf f u == .stopping && atSafe f u) (setRun f .stopped) u) s ∧ commitSafe c.fset.toNat t = true :=
  ⟨stCommitStopping, stCommitStopping, { Commit.init with phase := .stopping }, by decide +kernel⟩

theorem wit_CommitsStartArmAndEnd_14 : ∃ (s : State) (c : Commit),
    alive s = true ∧ s.dict.commit = some c ∧ c.phase = .stopping ∧ c.figure = none ∧ (c.deadline ≤ s.clk.ticks ∨ (c.applyAt.any fun t => decide (t < now s)) = true) :=
  ⟨stCommitStopping, { Commit.init with phase := .stopping }, by decide +kernel⟩

theorem wit_CommitsStartArmAndEnd_15 : ∃ (s : State),
    alive s = true ∧ s.dict.owner.isSome = true ∧ s.dict.idleAt + rd Obj.STAGE_IDLE s ≤ opSec s :=
  ⟨wr Obj.STAGE_IDLE 0 stOwned, by decide +kernel⟩

theorem wit_FunctionsStopAndStartAndSave_1 : ∃ (s : State) (w : Writer) (f : Nat),
    alive s = true ∧ accepts w 0x2001 (f + 1) 1 s = true ∧ (2 < f ∨ inSitout s = false) ∧ s.boot.ready = true ∧ commitHolds f s = false ∧ f ≠ 5 ∧ running f s = false :=
  ⟨stStoppedCores, wI3c, 0, by decide +kernel⟩

theorem wit_FunctionsStopAndStartAndSave_2 : ∃ (s : State) (w : Writer) (f : Nat),
    alive s = true ∧ accepts w 0x2001 (f + 1) 1 s = true ∧ (2 < f ∨ inSitout s = false) ∧ s.boot.ready = true ∧ commitHolds f s = false ∧ f ≠ 5 ∧ f ≠ 6 ∧ running f s = true :=
  ⟨stRunningCores, wI3c, 0, by decide +kernel⟩

theorem wit_FunctionsStopAndStartAndSave_3 : ∃ (s : State) (w : Writer) (f : Nat),
    alive s = true ∧ accepts w 0x2001 (f + 1) 1 s = true ∧ (2 < f ∨ inSitout s = false) ∧ s.boot.ready = true ∧ commitHolds f s = false ∧ f = 5 :=
  ⟨stUp, wI3c, 5, by decide +kernel⟩

theorem wit_FunctionsStopAndStartAndSave_4 : ∃ (s : State) (w : Writer) (f : Nat),
    alive s = true ∧ accepts w 0x2001 (f + 1) 1 s = true ∧ (2 < f ∨ inSitout s = false) ∧ s.boot.ready = true ∧ commitHolds f s = false ∧ f = 6 ∧ running 6 s = true :=
  ⟨stRunningRec, wI3c, 6, by decide +kernel⟩

theorem wit_FunctionsStopAndStartAndSave_5 : ∃ (s : State) (w : Writer) (f : Nat),
    alive s = true ∧ accepts w 0x2001 (f + 1) 2 s = true ∧ (2 < f ∨ inSitout s = false) ∧ s.boot.ready = true ∧ commitHolds f s = false ∧ f ≠ 5 ∧ f ≠ 6 :=
  ⟨stRunningCores, wI3c, 0, by decide +kernel⟩

theorem wit_FunctionsStopAndStartAndSave_6 : ∃ (s : State) (w : Writer) (f : Nat),
    alive s = true ∧ accepts w 0x2001 (f + 1) 2 s = true ∧ (2 < f ∨ inSitout s = false) ∧ s.boot.ready = true ∧ commitHolds f s = false ∧ f = 6 :=
  ⟨stUp, wI3c, 6, by decide +kernel⟩

theorem wit_FunctionsStopAndStartAndSave_7 : ∃ (s : State) (w : Writer) (f : Nat),
    alive s = true ∧ accepts w 0x2001 (f + 1) 2 s = true ∧ (2 < f ∨ inSitout s = false) ∧ s.boot.ready = true ∧ commitHolds f s = false ∧ f = 5 ∧ s.cal.firing = true :=
  ⟨stFiring, wI3c, 5, by decide +kernel⟩

theorem wit_FunctionsStopAndStartAndSave_8 : ∃ (s : State) (w : Writer) (f : Nat),
    alive s = true ∧ accepts w 0x2001 (f + 1) 2 s = true ∧ (2 < f ∨ inSitout s = false) ∧ s.boot.ready = true ∧ commitHolds f s = false ∧ f = 5 ∧ s.cal.firing = false :=
  ⟨stUp, wI3c, 5, by decide +kernel⟩

theorem wit_FunctionsStopAndStartAndSave_9 : ∃ (s : State) (f : Nat),
    alive s = true ∧ f ≠ 5 ∧ runOf f s = .stopping ∧ atSafe f s = true :=
  ⟨setRun 0 .stopping stUp, 0, by decide +kernel⟩

theorem wit_FunctionsStopAndStartAndSave_10 : ∃ (s : State) (w : Writer),
    alive s = true ∧ accepts w 0x2020 1 1 s = true :=
  ⟨stUp, wI3c, by decide +kernel⟩

theorem wit_FunctionsStopAndStartAndSave_11 : ∃ (s : State) (w : Writer),
    alive s = true ∧ accepts w 0x2020 1 1 s = true :=
  ⟨stUp, wI3c, by decide +kernel⟩

theorem wit_FunctionsStopAndStartAndSave_12 : ∃ (s : State) (w : Writer),
    alive s = true ∧ accepts w 0x2020 1 2 s = true :=
  ⟨stUp, wI3c, by decide +kernel⟩

theorem wit_FunctionsStopAndStartAndSave_13 : ∃ (s : State) (ok : Bool),
    alive s = true ∧ s.boot.saveDirty = true ∧ (s.rcd.flush.any fun f => f.powerFail) = false :=
  ⟨{ stUp with boot := { stUp.boot with saveDirty := true } }, true, by decide +kernel⟩

/-! ### Well-formedness refuses an ill-formed term for each of its checks -/

/-- A writer whose source is no 24-bit node id. -/
def wBad : Writer := ⟨.cavo, 2 ^ 24⟩

/-- A flit of nine sectors. -/
def flBad : Flit := ⟨0, List.replicate 9 ⟨0, 0⟩⟩

theorem test_wf_core : (Instr.vopAdd 16 []).wf = false ∧ (Instr.passPublish 0 4 false).wf = false ∧
    (Instr.loadWComplete 16 0).wf = false ∧ (Instr.apEmit 0 4).wf = false := by decide
theorem test_wf_queue : (Instr.barrier 16 0).wf = false ∧ (Instr.taskBegin 0 65536).wf = false ∧
    (Instr.sqDoorbell 0 65536).wf = false ∧ (Instr.cqHeadDoorbell 16 0).wf = false := by decide
theorem test_wf_memory : (Instr.readRequest 304 0).wf = false ∧ (Instr.refresh 560 0).wf = false ∧
    (Instr.wcWindowExpire 0 (2 ^ 59)).wf = false ∧ (Instr.memoryTempReading 20 0).wf = false ∧
    (Instr.requestSilentTimeout 14).wf = false ∧ (Instr.bufferLinkReplay 6).wf = false ∧
    (Instr.memoryBringup [(304, true)] []).wf = false ∧
    (Instr.memoryBringup [] [(0, 2 ^ 29, 0)]).wf = false := by decide
theorem test_wf_update : (Instr.updFma 262).wf = false ∧ (Instr.setBegin 2048).wf = false ∧
    (Instr.updateWork 0 2048 (.moment 0) []).wf = false ∧ (Instr.updateWork 256 0 (.master 0) []).wf = false ∧ (Instr.moverDone (2 ^ 24)).wf = false := by decide
theorem test_wf_links : (Instr.lossOfLight 64).wf = false ∧ (Instr.linkTrainingComplete 0 (2 ^ 24) 0 0 0).wf = false ∧
    (Instr.linkTrainingComplete 0 0 64 0 0).wf = false ∧ (Instr.laserBiasCheck 8 0 0 true).wf = false ∧
    (Instr.laserBiasCheck 0 2 0 true).wf = false ∧ (Instr.opticalEngineFault 8).wf = false := by decide
theorem test_wf_flits : (Instr.reduce 0 flBad).wf = false ∧ (Instr.restore 64 ⟨0, []⟩).wf = false ∧
    (Instr.frameReceive 0 0 (List.replicate 136 ⟨0, []⟩) false 0).wf = false ∧
    (Instr.frameReceive 0 0 [flBad] false 0).wf = false ∧ (Instr.frameReceive 0 0 [] false 65).wf = false ∧
    (Instr.ptpSync 0 ⟨0, []⟩ true 256 0 0 0 0).wf = false := by decide
theorem test_wf_figures : (Instr.lateFigureStart 512).wf = false ∧ (Instr.roundStart 8192).wf = false ∧
    (Instr.digestComputed 8192 0 none).wf = false ∧ (Instr.arbiterGrant 400 0 [] []).wf = false := by decide
theorem test_wf_dictionary : (Instr.dictRead wBad 0 0 0).wf = false ∧ (Instr.dictWrite wBad 0 0 0 []).wf = false ∧
    (Instr.selectRead wBad 0 0 0 []).wf = false ∧ (Instr.readSegment wBad 0 0 0 []).wf = false ∧ (Instr.objectWrite wBad 0 0 0).wf = false ∧
    (Instr.arm wBad).wf = false ∧ (Instr.functionReset wI3c 7).wf = false ∧ (Instr.functionSafeBoundary 7).wf = false := by
  decide
theorem test_wf_host : (Instr.cxlMemRead 0 3 0 0).wf = false ∧ (Instr.hdmDecoderCommit 4 0 0 0 0).wf = false ∧
    (Instr.backInvalidateAnswer (2 ^ 58) none).wf = false ∧ (Instr.cxlBringup 3 0 0).wf = false ∧
    (Instr.controlParityError 65536).wf = false ∧ (Instr.telemetrySample 0 0 0 []).wf = false := by decide

/-! ### Worked examples of the spec -/

/-- 02, at B = 16: measure 6,500,000,000 begins at 1,744,830,464,000,000,000 and its beat 1,900 at …,124,518,400. -/
theorem test_beats : measureAt 16 1744830464000000000 = 6500000000 ∧ beatStart 16 6500000000 1900 = 1744830464124518400 ∧
    beatAt 16 1744830464124518400 = 1900 := by decide
/-- 21: entry 12 fires at beat 1,900 of every measure and has its deadline at beat 2,350. -/
theorem test_entry12 : firesAt 0x8076C092E0010000 1900 6500000000 = true ∧ firesAt 0x8076C092E0010000 1901 6500000000 = false ∧
    descDeadline 16 0x8076C092E0010000 6500000000 = beatStart 16 6500000000 2350 := by decide
/-- 02: with MODULUS 16 the same entry fires in every sixteenth measure. -/
theorem test_modulus : firesAt 0x8076C092E0100000 1900 6500000000 = true ∧ firesAt 0x8076C092E0100000 1900 6500000001 = false := by
  decide
/-- 02 R61: the default RETRAIN_FAST entry 449 fires at beat 4,088 of the measures with phase 1 of 32. -/
theorem test_default_schedule : firesAt (defaultDesc 449) 4088 33 = true ∧ dType (defaultDesc 449) = 2 ∧
    fld (defaultParam 449) 63 59 = 1 ∧ dValid (defaultDesc 497) = false := by decide
/-- 03: the MXFP8 E4M3 drain of 41.25 and -0.7 with H = 0x82 and h = 1: elements 0x7A and 0xCB, scale 0x7C, one raise. -/
theorem test_mx_drain :
    (let b := mxDrain e4m3 .rne 0x82 1 ([(.fin false 165 (-2), 0), (.fin true 45875 (-16), 0)] ++ List.replicate 30 (FVal.zero, 0))
     (b.scale, b.elems % 256, b.elems / 256 % 256, b.raises)) = (0x7C, 0x7A, 0xCB, 1) := by decide +kernel
/-- 03: the BF16 drain of 1 + 3 x 2^-10 rounds up from r = 0xA0_0000 on. -/
theorem test_bf16_stochastic : encodeIeee bf16 .sr 0xA00000 (.fin false 1027 (-10)) = 0x3F81 ∧
    encodeIeee bf16 .sr 0x9FFFFF (.fin false 1027 (-10)) = 0x3F80 := by decide +kernel
/-- 06 R199, R200: the channels and channel addresses of the worked addresses. -/
theorem test_channels : fastChannel 0x01234567800 = 8 ∧ channelAddr 0x01234567800 = 0x12345600 ∧ slowChannel 0x08000003000 = 1 ∧
    slowChannel 0x08000005F00 = 0 ∧ channelAddr 0x08000005F00 = 0x100 := by decide
/-- 08: the encodings of MUL s0,s0,k0, of FMA f4,f4,t1,k5 and of EMIT f5. -/
theorem test_update_words : updInstrOf 0x0E081000 = ⟨3, 0x20, 0x20, 0x10, 0, 0⟩ ∧ updInstrOf 0x04412554 = ⟨1, 4, 4, 0x25, 0x15, 0⟩ ∧
    updInstrOf 0x50014000 = ⟨0x14, 0, 5, 0, 0, 0⟩ := by decide
/-- 10: the routing entry 0x989B_0000 has primary L12 and first alternate L13, which crosses a dateline. -/
theorem test_route_entry : candidates 0x989B0000 = [(0, 12, false), (1, 13, true)] := by decide
/-- 21: the Adam program in slot 2. -/
def stAdam : State :=
  let ws : List Nat := [0x0E1852000E081000, 0x0A5621020A462002, 0x1A59400012452400, 0x1A7B000006651662, 0x1E79D8000E79D700,
    0x0C00270048000000, 0x4020400040100000, 0x041011040C105000, 0x0C2092000C300000, 0x440040000420D308, 0x1440800044008100,
    0x1050440004412554, 0x500140000C516402, 0x4C10000040000000, 0x4400000004002604]
  ws.zipIdx.foldl (fun s p => wr (Obj.PROG_WORD (3 + p.2) 2) p.1 s) (wr (Obj.PROG_HEADER 2) 0x2804001000000000 stUp)
/-- 21: it is legal for sets with two moment slots and one master slot; with one moment slot LD 1 and ST 1 are not. -/
theorem test_adam_program : programOk 2 2 1 stAdam = true ∧ programOk 2 1 1 stAdam = false := by decide +kernel
/-- Slot s of the host domain of 21: its plans' ring and NODE_ID are legal. -/
theorem test_node_id : nodeIdOk (wr Obj.NODE_ID 0x050044 stUp) = true ∧ nodeIdOk (wr Obj.NODE_ID 0x051044 stUp) = false := by
  decide +kernel

/-! ### Words of no row -/

/-- The table gives no row any bits, so no word spells a command. -/
theorem test_no_words (n w : Nat) : decodeTableWord n w = none ∧ State.reset.withFetchWord n w = State.reset := ⟨rfl, rfl⟩

/-- The block idles on an empty queue. -/
theorem test_idle : step State.reset = .next State.reset := rfl

end Sys2Proof.Tests
end

section
/-! PROOF. Which commands keep the Count: each runs in a frame, and every frame but those of the clock, of power and of resets
puts the Count back (log entry 18). -/

namespace Sys2Proof.Machine

open Sys2Proof

/-! ### Frames -/

/-- A command whose condition fails leaves the state, alive or not. -/
theorem run_idle (f : State → State) (s : State) (h : f s = s) : run f s = .next s := by
  cases ha : alive s with
  | false => exact run_dead _ _ ha
  | true => rw [run_alive _ _ ha, h, framed_self]

/-- The command answers a next state whose Count, with its set mark and its hold, is that of `s`. -/
def KeepsClk (o : Host.Outcome State Fault Refusal) (s : State) : Prop := ∃ t, o = .next t ∧ t.clk = s.clk

theorem keepsClk_run (f : State → State) (s : State) : KeepsClk (run f s) s := by
  refine ⟨_, rfl, ?_⟩
  split <;> rfl

theorem keepsClk_runFuse (f : State → State) (s : State) : KeepsClk (runFuse f s) s := by
  refine ⟨_, rfl, ?_⟩
  split <;> rfl

theorem keepsClk_runFw (f : State → State) (s : State) : KeepsClk (runFw f s) s := by
  refine ⟨_, rfl, ?_⟩
  split <;> rfl

theorem keepsClk_runAny (f : State → State) (s : State) : KeepsClk (runAny f s) s := ⟨_, rfl, rfl⟩

theorem keepsClk_runWrite (idx sub : Nat) (f : State → State) (s : State) (h : (idx == 0x2040) = false) :
    KeepsClk (runWrite idx sub f s) s :=
  ⟨_, rfl, if_neg (by simpa using h)⟩

/-- Every command runs in the frame its row of the dispatch gives it; the movers of the Count are the ones `h` shuts out. -/
theorem exec_keepsClk (c : Instr) (s : State) (h : movesCount c = false) : KeepsClk (exec c s) s := by
  cases c with
  | tick | countStep | countHoldRelease | ptpSync | timePpsInEdge | functionReset | powerOn | powerRemoved | perstNFall =>
    exact absurd h (by simp [movesCount])
  | dictWrite | selectRead | objectWrite => simp only [exec]; exact keepsClk_runWrite _ _ _ _ h
  | dictRead | readSegment | recordUpdate | flushSnapshot | flushComplete | perstNResetEnd | pwrFailNFall | pwrFailNRise
  | laserEnFall | laserEnRise | dynamicAddressAssignment => simp only [exec]; exact keepsClk_runAny _ _
  | fwData | fwVerify | fwClearPending => simp only [exec]; exact keepsClk_runFw _ _
  | fuseSvn | revokeKey => simp only [exec]; exact keepsClk_runFuse _ _
  | _ => simp only [exec]; exact keepsClk_run _ _

end Sys2Proof.Machine

open Sys2Proof Sys2Proof.Machine

/-- Settles O27, from the frame of each command. -/
theorem countHasFewMovers : Obligations.CountHasFewMovers := by
  intro s t c hc ht
  obtain ⟨t', ht', hclk⟩ := exec_keepsClk c s hc
  rw [ht'] at ht
  cases ht
  exact hclk
end

section
/-! PROOF. The Count: what a tick does, what a step does, and what neither can do (02 R26, R32, R33, R632). -/

namespace Sys2Proof.Machine

open Sys2Proof

/-! ### TICK -/

/-- The crystal's tick is counted before anything else of a TICK is decided. -/
def ticked (s : State) : State := { s with clk := { s.clk with ticks := s.clk.ticks + 1 } }

@[simp] theorem ticked_count (s : State) : (ticked s).clk.count = s.clk.count := rfl

theorem tick_held (slew : Slew) (s : State) (h : s.clk.held = true) :
    tick slew s = { s with clk := { s.clk with heldUntil := s.clk.heldUntil - 1, ticks := s.clk.ticks + 1 } } :=
  if_pos h

theorem tick_plain (slew : Slew) (s : State) (h : s.clk.held = false) (hm : maySlew slew (ticked s) = false) :
    tick slew s = moveCount 1 (ticked s) := by
  show (if s.clk.held = true then _ else if maySlew slew (ticked s) = true then _ else _) = _
  rw [h, hm]; rfl

theorem tick_slewed (slew : Slew) (s : State) (h : s.clk.held = false) (hm : maySlew slew (ticked s) = true) :
    tick slew s = moveCount (if slew == .ahead then 2 else 0) (modTim (fun t => { t with
      lastSlew := s.clk.ticks + 1, offset := if slew == .ahead then t.offset - 1 else t.offset + 1 }) (ticked s)) := by
  show (if s.clk.held = true then _ else if maySlew slew (ticked s) = true then _ else _) = _
  rw [h, hm]; rfl

theorem exec_tick_alive (slew : Slew) (s : State) (ha : alive s = true) :
    exec (.tick slew) s = .next (framedClk (tick slew s) s) :=
  runClk_alive _ _ ha

/-- A tick adds none, one or two to the Count. -/
theorem tick_count (slew : Slew) (s : State) : ∃ n ≤ 2, (tick slew s).clk.count = s.clk.count + BitVec.ofNat 64 n := by
  cases hh : s.clk.held with
  | true => exact ⟨0, by omega, by simp [tick_held slew s hh]⟩
  | false =>
    cases hm : maySlew slew (ticked s) with
    | false => exact ⟨1, by omega, by rw [tick_plain slew s hh hm]; rfl⟩
    | true =>
      refine ⟨if slew == .ahead then 2 else 0, by split <;> omega, ?_⟩
      rw [tick_slewed slew s hh hm]; rfl

/-! ### COUNT_STEP -/

theorem exec_countStep_due (s : State) (ha : alive s = true) (hd : s.tim.stepDue = true) (hf : s.cal.firing = false) :
    exec .countStep s =
      .next (framedClk (stepCount (setServo .acquiring { s with tim := { s.tim with stepDue := false } })) s) := by
  simp only [exec, execCountStep]
  rw [runClk_alive _ _ ha]
  simp only [hd, hf, Bool.true_eq_false, Bool.false_eq_true, or_self, if_false, modTim]

theorem exec_countStep_idle (s : State) (h : alive s = false ∨ s.tim.stepDue = false ∨ s.cal.firing = true) :
    exec .countStep s = .next s := by
  simp only [exec, execCountStep]
  cases ha : alive s with
  | false => exact runClk_dead _ _ ha
  | true =>
    rw [runClk_alive _ _ ha, if_pos (h.resolve_left (by simp [ha])), framedClk_self]

theorem stepCount_ahead (s : State) (h : 0 < s.tim.offset) : stepCount s =
    { s with clk := { s.clk with everSet := true, count := s.clk.count + BitVec.ofNat 64 s.tim.offset.toNat }
             tim := { s.tim with offset := 0 } } := by
  rw [stepCount, if_pos h]; rfl

theorem stepCount_behind (s : State) (h : s.tim.offset < -1000) : stepCount s =
    { emit 0x4004 0 (min (s.tim.offset.natAbs / 1000) (2 ^ 32 - 1)) s with
      clk := { s.clk with everSet := true, held := true, heldUntil := s.tim.offset.natAbs }
      tim := { s.tim with ppsOut := false } } := by
  rw [stepCount, if_neg (by omega), if_pos h]; rfl

/-- A step adds the offset of a source that is ahead, and nothing for one behind. -/
theorem stepCount_count (s : State) :
    (stepCount s).clk.count = s.clk.count + BitVec.ofNat 64 s.tim.offset.toNat := by
  by_cases h : 0 < s.tim.offset
  · rw [stepCount_ahead s h]
  · have hz : s.tim.offset.toNat = 0 := by omega
    by_cases hb : s.tim.offset < -1000
    · rw [stepCount_behind s hb, hz]; simp
    · rw [stepCount, if_neg h, if_neg hb, hz]; simp

/-- A Count that stays below 2^64 is the sum. -/
theorem count_add_toNat (c : BitVec 64) (n : Nat) (h : c.toNat + n < 2 ^ 64) :
    (c + BitVec.ofNat 64 n).toNat = c.toNat + n := by
  rw [BitVec.toNat_add, BitVec.toNat_ofNat, Nat.add_mod_mod, Nat.mod_eq_of_lt h]

end Sys2Proof.Machine

open Sys2Proof Sys2Proof.Machine

/-- Settles O2: a tick adds at most two, and a step adds the offset of a source that is ahead. -/
theorem countNeverRunsBackward : Obligations.CountNeverRunsBackward := by
  refine ⟨fun s t slew hlt ht => ?_, fun s t hlt ht => ?_⟩
  · cases ha : alive s with
    | false =>
      have hdead : exec (.tick slew) s = .next s := runClk_dead _ _ ha
      rw [hdead] at ht; cases ht; omega
    | true =>
      rw [exec_tick_alive slew s ha] at ht; cases ht
      obtain ⟨n, hn, hcount⟩ := tick_count slew s
      have hsum : (framedClk (tick slew s) s).clk.count.toNat = s.clk.count.toNat + n := by
        rw [← count_add_toNat _ n (by omega), ← hcount]; rfl
      omega
  · by_cases hidle : alive s = false ∨ s.tim.stepDue = false ∨ s.cal.firing = true
    · rw [exec_countStep_idle s hidle] at ht; cases ht
      exact ⟨le_rfl, fun _ => rfl⟩
    · simp only [not_or, Bool.not_eq_true, Bool.not_eq_false] at hidle
      obtain ⟨ha, hd, hf⟩ := hidle
      rw [exec_countStep_due s ha hd hf] at ht; cases ht
      refine ⟨?_, fun hfire => absurd hfire (by simp [hf])⟩
      have hcount := stepCount_count (setServo .acquiring { s with tim := { s.tim with stepDue := false } })
      simp only [setServo_clk, setServo_offset] at hcount
      show _ ≤ (stepCount _).clk.count.toNat
      rw [hcount, count_add_toNat _ _ (by omega)]
      omega

/-- Settles O1: one case for each kind of tick, of step and of hold. -/
theorem countTicksStepsAndHolds : Obligations.CountTicksStepsAndHolds := by
  refine ⟨fun s slew ha hh hm => ?_, fun s ha hh hm => ?_, fun s ha hh hm => ?_, fun s slew ha hh => ?_,
    fun s u ha hd hf ho hu => ?_, fun s u ha hd hf ho hu => ?_, fun s v h => ?_, fun s ha hh hz => ?_⟩
  · rw [exec_tick_alive slew s ha, tick_plain slew s hh hm]; rfl
  · rw [exec_tick_alive .ahead s ha, tick_slewed .ahead s hh hm]; rfl
  · rw [exec_tick_alive .behind s ha, tick_slewed .behind s hh hm]
    simp [moveCount, modTim, ticked, framedClk]
  · rw [exec_tick_alive slew s ha, tick_held slew s hh]; rfl
  · have hoff : u.tim.offset = s.tim.offset := by rw [hu, setServo_offset]
    have hclk : u.clk = s.clk := by rw [hu, setServo_clk]
    rw [exec_countStep_due s ha hd hf, ← hu, stepCount_ahead u (hoff ▸ ho), hclk, hoff]
  · have hoff : u.tim.offset = s.tim.offset := by rw [hu, setServo_offset]
    have hclk : u.clk = s.clk := by rw [hu, setServo_clk]
    rw [exec_countStep_due s ha hd hf, ← hu, stepCount_behind u (hoff ▸ ho), hclk, hoff]
  · exact h.elim (setServo_free v s) (setServo_calm v s)
  · simp only [exec, execCountHoldRelease]
    rw [runClk_alive _ _ ha, if_pos ⟨hh, hz⟩]; rfl
end

section
/-! PROOF. The sources of the servo, TIME_PPS_OUT, the master ports and the arming of a rejoin (02 R29 to R43; 10 R369 to R373). -/

namespace Sys2Proof.Machine

open Sys2Proof

/-! ### Sources -/

theorem isPtp_of_vl_kind (f : Flit) (hv : f.vl = 3) (hk : f.kind = 5) : isPtp f = true := by simp [isPtp, hv, hk]

/-- A write of TOD_NEXT_PPS in its window is kept with the Count of its instant. -/
theorem writeTod_inWindow (v : Nat) (s : State) (h : s.tim.ppsSeen = false ∨
    (s.tim.ppsEdge + 100000000 ≤ s.clk.ticks ∧ s.clk.ticks ≤ s.tim.ppsEdge + 900000000)) :
    writeTod v s = (0, { s with tim := { s.tim with tod := some (v, now s) } }) := by
  have hc : (s.tim.ppsSeen && (decide (s.tim.ppsEdge + 900000000 < s.clk.ticks) ||
      decide (s.clk.ticks < s.tim.ppsEdge + 100000000))) = false := by
    rcases h with hs | ⟨hlo, hhi⟩
    · simp [hs]
    · simp [Nat.not_lt.mpr hlo, Nat.not_lt.mpr hhi]
  simp only [writeTod, hc, Bool.false_eq_true, if_false, modTim]

theorem sourceLost_locked (s : State) (hl : s.tim.lost = false) (hs : s.tim.servo = .locked) :
    sourceLost s = enterHoldover { s with tim := { s.tim with lost := true, good := 0 } } := by
  simp only [sourceLost, hl, hs, Bool.false_eq_true, if_false, if_true]

end Sys2Proof.Machine

open Sys2Proof Sys2Proof.Machine

/-- Settles O3: what each source's command does once its condition holds. -/
theorem sourcesMoveTheServo : Obligations.SourcesMoveTheServo := by
  refine ⟨fun s u k f stamp arrival dom bound residence filter freq ha hin hv hk hst hu hm hl hasym hd => ?_,
    fun s k f v dom bound residence filter freq ha hin hv hk hbad => ?_,
    fun s filter freq v at_ ha hm htod => ?_, fun s ha htod hp => ?_, fun s w v ha hacc hwin => ?_,
    fun s ha hm hlate hl hs => ?_, fun s ha hm hseen hlate hl hs => ?_, fun s => ⟨?_, ?_⟩,
    fun s c ha hs hf hc hlate hdue => ?_⟩
  · simp only [exec, execPtpSync]
    rw [runClk_alive _ _ ha, takeLocal_taken _ _ _ _ _ hin (isPtp_of_vl_kind f hv hk)]
    simp only [hst, ← hu, hm, hl, hd, hasym, Bool.true_eq_false, ne_eq, not_true_eq_false, or_self, if_false, modTim]
  · simp only [exec, execPtpSync]
    rw [runClk_alive _ _ ha, takeLocal_taken _ _ _ _ _ hin (isPtp_of_vl_kind f hv hk), if_pos]
    exact hbad.imp_right Or.inl
  · simp only [exec, execTimePpsInEdge]
    rw [runClk_alive _ _ ha, if_neg (show ¬ rd Obj.TIME_MODE (modTim _ s) ≠ 1 from not_not_intro hm)]
    simp only [edgeTime, htod, modTim]; rfl
  · simp only [exec, execTimePpsInEdge]
    rw [runClk_alive _ _ ha]
    simp only [edgeTime, htod, hp, Option.map_none, ite_self, modTim]; rfl
  · simp only [exec, execTodNextPps]
    rw [run_alive _ _ ha, command_accepted _ _ _ _ _ _ hacc, writeTod_inWindow _ _ hwin]
  · simp only [exec, execSyncIntervalTimeout]
    rw [run_alive _ _ ha, if_pos ⟨hm, hlate⟩, sourceLost_locked s hl hs]
  · simp only [exec, execPpsMissingTimeout]
    rw [run_alive _ _ ha, if_pos ⟨hm, hseen, hlate⟩, sourceLost_locked s hl hs]
  · simp only [enterHoldover, now, setServo_clk]
  · rw [setServo_frame]
  · have hten : (s.tim.holdoverAt.any fun c => decide (c + 10000000000 ≤ now s)) = true := by
      rw [hc, Option.any_some]; exact decide_eq_true hlate
    simp only [exec, execHoldoverLimit]
    rw [run_alive _ _ ha, if_pos ⟨hs, hf, hten⟩, hdue]; rfl

namespace Sys2Proof.Machine

/-! ### Rejoining -/

theorem writeRejoin_ahead (v : Nat) (s : State) (h : measureAt (beatB s) (now s) < v) :
    writeRejoin v s = (0, wr Obj.REJOIN_MEASURE v { s with cal := { s.cal with rejoinArmed := true } }) :=
  if_neg (Nat.not_le.mpr h)

theorem writeRejoin_begun (v : Nat) (s : State) (h : v ≤ measureAt (beatB s) (now s)) :
    writeRejoin v s = (0x03000004, s) :=
  if_pos h

end Sys2Proof.Machine

/-- Settles O4: what each command of the pulse, of the master ports and of the rejoin does where it is due, and where not. -/
theorem pulseOutAndMasterPorts : Obligations.PulseOutAndMasterPorts := by
  refine ⟨fun s ha he hh hsec hp => ?_, fun s he => ?_, fun s ha hp hat => ?_, fun s ha hs hdue => ?_, fun s h => ?_,
    fun s ha hdue => ?_, fun s w v ha hacc hlt => ?_, fun s w v ha hacc hle => ?_⟩
  · simp only [exec, execPpsOutRise]
    rw [run_alive _ _ ha, if_pos ⟨he, hh, hsec, hp⟩]; rfl
  · simp only [exec, execPpsOutRise]
    exact run_idle _ _ (if_neg (by simp [he]))
  · simp only [exec, execPpsOutFall]
    rw [run_alive _ _ ha, if_pos ⟨hp, hat⟩]; rfl
  · simp only [exec, execPtpSyncSend]
    rw [run_alive _ _ ha, if_pos ⟨hs, hdue⟩]; rfl
  · simp only [exec, execPtpSyncSend]
    refine run_idle _ _ (if_neg ?_)
    rcases h with (hs | hs) | hdue
    · simp [hs]
    · simp [hs]
    · simp [hdue]
  · simp only [exec, execAnnounceSend]
    rw [run_alive _ _ ha, if_pos hdue]; rfl
  · simp only [exec, execRejoinMeasure]
    rw [run_alive _ _ ha, command_accepted _ _ _ _ _ _ hacc, writeRejoin_ahead _ _ hlt]
  · simp only [exec, execRejoinMeasure]
    rw [run_alive _ _ ha, command_accepted _ _ _ _ _ _ hacc, writeRejoin_begun _ _ hle]
end

section
/-! PROOF. The Caller: which entries fire at a beat, what a stop at a measure boundary does, and how figures start late and end
(02 R39 to R57; 09 R336). -/

namespace Sys2Proof.Machine

open Sys2Proof

/-! ### Firing -/

theorem firesAt_iff (d beat measure : Nat) : firesAt d beat measure = true ↔
    bitOf d 63 = true ∧ fld d 55 44 = beat ∧ measure % max 1 (fld d 27 16) = fld d 15 4 := by
  simp only [firesAt, dValid, dBeat, dModulus, dPhase, Bool.and_eq_true, beq_iff_eq, and_assoc]

theorem mem_firingEntries (s : State) (n : Nat) : n ∈ firingEntries s ↔
    n < 512 ∧ firesAt (entryDesc n s) (beatAt (beatB s) (now s)) (measureAt (beatB s) (now s)) = true := by
  simp only [firingEntries, List.mem_filter, List.mem_range]

theorem firingEntries_ascending (s : State) : (firingEntries s).Pairwise (· < ·) :=
  List.pairwise_lt_range.filter _

/-- A boundary that has been acted on is not acted on again. -/
theorem measureEvents_done (s : State) (h : s.cal.lastMeasure = some (measureAt (beatB s) (now s))) :
    measureEvents s = s :=
  if_pos (.inr (.inl h))

/-! ### The Caller's stop -/

/-- The Caller stopped at the boundary `at_`, with its code. -/
def callerStopped (at_ : Nat) (s : State) : State :=
  emit 0x4002 0 0 (setRun 5 .stopped { s with cal := { s.cal with firing := false, stopDue := none, stopAt := some at_ } })

theorem abortFlagWaiters_noTasks (p : Task → State → Bool) (s : State) (h : s.tasks = []) : abortFlagWaiters p s = s := by
  simp only [abortFlagWaiters, h, List.filter_nil, forEach, List.foldl_nil]

theorem callerStop_due (at_ : Nat) (s : State) (hf : s.cal.firing = true) (hd : s.cal.stopDue ≠ none) (ht : s.tasks = []) :
    callerStop at_ s = callerStopped at_ s := by
  have hc : ¬ (s.cal.firing = false ∨ s.cal.stopDue.isNone = true) := by simp [hf, hd]
  rw [callerStop, if_neg hc]
  exact abortFlagWaiters_noTasks _ _ ht

theorem commitAtBoundary_none (at_ : Nat) (s : State) (h : s.dict.commit = none) : commitAtBoundary at_ s = s := by
  simp only [commitAtBoundary, beginAtTime, h]

/-- The Caller does not rejoin at the boundary of its stop. -/
theorem rejoinAtBoundary_atStop (at_ m : Nat) (s : State) (hf : s.cal.firing = false) (hs : s.cal.stopAt = some at_) :
    rejoinAtBoundary at_ m s = s := by
  simp only [rejoinAtBoundary, hf, hs, Bool.false_eq_true, or_true, if_false, if_true]

theorem measureEvents_stops (s : State) (hh : s.clk.held = false) (hcm : s.dict.commit = none)
    (hl : s.cal.lastMeasure ≠ some (measureAt (beatB s) (now s)))
    (hw : now s < beatStart (beatB s) (measureAt (beatB s) (now s)) 0 + 128)
    (hf : s.cal.firing = true) (hd : s.cal.stopDue ≠ none) (ht : s.tasks = []) :
    measureEvents s =
      { callerStopped (beatStart (beatB s) (measureAt (beatB s) (now s)) 0) s with
        cal := { s.cal with firing := false, stopDue := none
                            stopAt := some (beatStart (beatB s) (measureAt (beatB s) (now s)) 0)
                            lastMeasure := some (measureAt (beatB s) (now s)) } } := by
  have hc : ¬ (s.clk.held = true ∨ s.cal.lastMeasure = some (measureAt (beatB s) (now s)) ∨
      beatStart (beatB s) (measureAt (beatB s) (now s)) 0 + 128 ≤ now s) := by
    simp [hh, hl, Nat.not_le.mpr hw]
  rw [measureEvents, if_neg hc, commitAtBoundary_none _ _ hcm, callerStop_due _ _ hf hd ht, rejoinAtBoundary_atStop _ _ _ rfl rfl]
  rfl

/-! ### The end of a figure -/

/-- A flag gains one generation, wrapping, and the outcome, where no higher entry has set it in this tick. -/
theorem flagEnd_regs (flag entry outcome : Nat) (s : State) (hf : flag ≠ 0)
    (h : (spGet (0, 0) s.cal.flagLast flag).1 ≠ s.clk.ticks + 1 ∨ (spGet (0, 0) s.cal.flagLast flag).2 ≤ entry) :
    (flagEnd flag entry outcome s).regs =
      (wr (Obj.FLAG flag) ((flagGen flag s + 1) % 2 ^ 31 + outcome * 2 ^ 31) s).regs := by
  have hlater : ((spGet (0, 0) s.cal.flagLast flag).1 == s.clk.ticks + 1 &&
      decide (entry < (spGet (0, 0) s.cal.flagLast flag).2)) = false := by
    rcases h with h | h
    · simp [h]
    · simp [Nat.not_lt.mpr h]
  simp only [flagEnd, hlater, Bool.false_eq_true, if_false, flagAdvance, hf, flagGen, Nat.mod_add_mod]

/-! ### PHASE -/

/-- The image is applied once cores, streams and updates have stopped and reached their boundaries. -/
theorem applyPhase_stopped (s t : State) (p : PhaseRun) (hp : s.trn.phase = some p) (hso : inSitout s = false)
    (hrun : ∀ f ∈ [0, 1, 2], runOf f s = .stopped) (hsafe : ∀ f ∈ [0, 1, 2], phaseSafe f s = true)
    (himg : imageState p.target s = (none, t)) : applyPhase s = finishPhase p t := by
  simp only [List.forall_mem_cons, List.not_mem_nil, false_implies, implies_true, and_true] at hrun hsafe
  obtain ⟨h0, h1, h2⟩ := hrun
  obtain ⟨g0, g1, g2⟩ := hsafe
  have hcalm : forEach [0, 1, 2] (fun f s => onlyIf (runOf f s == .stopping && phaseSafe f s) (setRun f .stopped) s) s = s := by
    simp [forEach, onlyIf, h0, h1, h2]
  have hgo : ¬ (inSitout s = true ∨ ([0, 1, 2].any fun f => runOf f s != .stopped || !phaseSafe f s) = true) := by
    simp [hso, h0, h1, h2, g0, g1, g2]
  simp only [applyPhase, hp, hcalm, if_neg hgo, himg]

end Sys2Proof.Machine

open Sys2Proof Sys2Proof.Machine

/-- Settles O5: the entries that fire, the beat that fires them, the beats that fire none, and the stop at a measure boundary. -/
theorem callerFiresItsEntries : Obligations.CallerFiresItsEntries := by
  refine ⟨fun s n => ?_, firingEntries_ascending, fun s ha hm hf hr hh hw hb => ?_, fun s ha hm hno => ?_,
    fun s ha hh hcm hl hw hf hd hr ht => ⟨_, run_alive _ _ ha, ?_⟩⟩
  · rw [mem_firingEntries, firesAt_iff]
  · simp only [exec, execBeatBoundary]
    rw [run_alive _ _ ha, measureEvents_done s hm, if_neg (by simp [hf, hr, hh, hb, Nat.not_le.mpr hw])]
  · simp only [exec, execBeatBoundary]
    rw [run_alive _ _ ha, measureEvents_done s hm, if_pos (by tauto), framed_self]
  · rw [measureEvents_stops s hh hcm hl hw hf hd ht]
    exact ⟨rfl, rfl, rfl, rfl, rfl, rfl, rfl⟩

/-- Settles O6: late starts, deadlines, the flag of a figure that ends, and PHASE_APPLY. -/
theorem lateFiguresAndDeadlines : Obligations.LateFiguresAndDeadlines := by
  refine ⟨fun s n ha hso hf hh => ?_, fun s n hno => ?_, fun s ha => ?_, fun s f outcome hfind => ?_,
    fun s flag entry outcome => flagEnd_regs flag entry outcome s, fun s t p ha hp hso hrun hsafe himg => ?_⟩
  · simp only [exec, execLateFigureStart]
    rw [run_alive _ _ ha, if_neg (by simp [hso, hf, hh])]
  · simp only [exec, execLateFigureStart]
    exact run_idle _ _ (if_pos hno)
  · simp only [exec, execFigureDeadline]
    exact run_alive _ _ ha
  · simp only [endFigure, hfind]
  · simp only [exec, execPhaseApply]
    rw [run_alive _ _ ha, applyPhase_stopped s t p hp hso hrun hsafe himg]
end

section
/-! PROOF. What a read of the Count answers, and what the module holds after reset (02 R28, R29; 13 R452; 18 R576). -/

namespace Sys2Proof.Machine

open Sys2Proof

/-! ### Reading the Count -/

/-- The row of the Count: eight bytes, read-only. -/
def countRow : ObjRow := ⟨0x3000, 0x3000, 1, 1, 8, .ro, .fixed, false, 0, 0xffffffffffffffff, [], 1, false, false⟩

theorem findObj_count : findObj 0x3000 1 = .ok countRow := rfl

theorem readBytes_count (v : Transport) (s : State) : readBytes v countRow 0x3000 1 s = (leBytes 8 (now s), s) := rfl

theorem readFrom_count (w : Writer) (s : State) (h : firmwareDown s = false) :
    readFrom w 0x3000 1 0 s = (0, leBytes 8 (now s), s) := by
  have hsize : countRow.size ≠ 0 := by decide
  have hacc : countRow.access ≠ .wo := by decide
  simp only [readFrom, h, findObj_count, readBytes_count, hsize, hacc, Bool.false_eq_true, false_and, and_false, if_false]

/-! ### Reset -/

/-- No register is listed after reset: each reads its default. -/
theorem rd_reset (r : RegId) (h : r.dflt < 2 ^ 64) : rd r State.reset = r.dflt := by
  show (BitVec.ofNat 64 r.dflt).toNat = r.dflt
  rw [BitVec.toNat_ofNat, Nat.mod_eq_of_lt h]

theorem nth_replicate_default {α : Type} (d : α) (n i : Nat) : nth d (List.replicate n d) i = d := by
  rw [nth, List.getD_eq_getElem?_getD, List.getElem?_getD_replicate_default_eq]

theorem linkLive_reset (k : Nat) : linkLive k State.reset = false := by
  have h : linkOf k State.reset = Link.init := nth_replicate_default Link.init 64 k
  rw [linkLive, h]; rfl

theorem runOf_reset (f : Nat) : runOf f State.reset = .stopped :=
  nth_replicate_default RunState.stopped 7 f

end Sys2Proof.Machine

open Sys2Proof Sys2Proof.Machine

/-- Settles O22: the request is taken and carried out, and the read answers the Count of the state. -/
theorem countReadsAsOneValue : Obligations.CountReadsAsOneValue := by
  intro s w a b d hidx hsub hhead htaken hfw
  simp only [exec, execDictRead]
  rw [runAny_eq, hidx, hsub, request_taken _ _ _ _ _ _ _ htaken hhead]
  simp only [readRequest, readFrom_count w s hfw]

/-- Settles O25: no register and no byte is listed after reset, and every item of the state is the initial one. -/
theorem resetLeavesTheStatedValues : Obligations.ResetLeavesTheStatedValues := by
  refine ⟨⟨rfl, rfl, fun f _ => runOf_reset f, rfl, fun k _ => linkLive_reset k, fun n _ => ?_⟩, rd_reset, rfl, fun a => rfl⟩
  rw [flagGen, rd_reset _ (Nat.two_pow_pos 64)]; rfl
end

section
/-! PROOF. RESTORE_CONTROL and HISTORY_RESET: what each value does where it is taken, and when it is refused (03 R100; 09 R326, R327;
14 R492). -/

namespace Sys2Proof.Machine

open Sys2Proof

/-- An accepted write command of an active module: its rule's answer, in the frame of a write. -/
theorem run_command_accepted (w : Writer) (idx sub v : Nat) (f : State → Nat × State) (s : State) (ha : alive s = true)
    (hacc : accepts w idx sub v s = true) :
    run (command w idx sub v f) s = .next (framed (answerWith w 0 (f s).1 [] (f s).2) s) := by
  rw [run_alive _ _ ha, command_accepted _ _ _ _ _ _ hacc]

/-! ### Refusals (09 R326; 14 R492) -/

theorem writeRestoreControl_sitout (v : Nat) (s : State) (h : inSitout s = true) :
    writeRestoreControl v s = (0x03000003, s) := by
  unfold writeRestoreControl; rw [if_pos h]

theorem writeRestoreControl_underWay (v : Nat) (s : State) (hso : inSitout s = false) (hv : v ≠ 5)
    (hr : s.trn.restore.isSome = true) : writeRestoreControl v s = (0x03000004, s) := by
  unfold writeRestoreControl; rw [if_neg (by simp [hso]), if_neg hv, if_pos hr]

/-- A value that begins a run is refused in Sit-out, which is tested first, and while a run is under way. -/
theorem writeRestoreControl_refused (v : Nat) (s : State) (hv : v ≠ 5) (h : s.trn.restore.isSome = true ∨ inSitout s = true) :
    writeRestoreControl v s = (if inSitout s then 0x03000003 else 0x03000004, s) := by
  cases hso : inSitout s with
  | true => exact writeRestoreControl_sitout v s hso
  | false => exact writeRestoreControl_underWay v s hso hv (h.resolve_right (by simp [hso]))

/-- The rows whose value begins a run, with their values. -/
theorem exec_restoreRow (v : Nat) (row : Writer → Instr) (w : Writer) (s : State)
    (h : (v, row) ∈ [(1, Instr.restoreDonate), (2, .restoreReceive), (3, .seedMirror), (4, .receiveMirror)]) :
    v ≠ 5 ∧ exec (row w) s = run (command w 0x7120 1 v (writeRestoreControl v)) s := by
  simp only [List.mem_cons, List.not_mem_nil, or_false, Prod.mk.injEq] at h
  obtain ⟨rfl, rfl⟩ | ⟨rfl, rfl⟩ | ⟨rfl, rfl⟩ | ⟨rfl, rfl⟩ := h <;> exact ⟨by decide, rfl⟩

/-! ### Beginning and cancelling a run (09 R326, R327) -/

theorem writeRestoreControl_cancel (s : State) (hso : inSitout s = false) : writeRestoreControl 5 s =
    (0, if rd Obj.STEP_STATE (setRestore 0 none s) = 2
      then setStep (committedStep (setRestore 0 none s)) 0 (setRestore 0 none s) else setRestore 0 none s) := by
  unfold writeRestoreControl; rw [if_neg (by simp [hso]), if_pos rfl]

section
variable (s : State) (hso : inSitout s = false) (hr : s.trn.restore = none)
include hso hr

/-- A set begun and not applied cannot be donated: the restore begins and fails. -/
theorem writeRestoreControl_donate_fails (n : Nat)
    (hn : (namedSets true s).find? (fun n => begunNow n s && !appliedNow n s) = some n) :
    writeRestoreControl 1 s = (0, failRestore n (beginRestore 1 { RestoreRun.init with kind := 1 } s)) := by
  simp [writeRestoreControl, hso, hr, hn]

/-- Sets with a retained landing are reapplied before they are sent; the others go at once. -/
theorem writeRestoreControl_donate_sends (again : List Nat)
    (hn : (namedSets true s).find? (fun n => begunNow n s && !appliedNow n s) = none)
    (hagain : again = (namedSets true s).filter (fun n => !begunNow n s && s.trn.retained.contains (setEntry n s).landing)) :
    writeRestoreControl 1 s = (0, restoreGo (forEach again startSet (beginRestore 1 { RestoreRun.init with
      kind := 1, sets := (namedSets true s).filter fun n => !again.contains n, waitApply := again } s))) := by
  subst hagain
  simp only [writeRestoreControl, hso, hr, hn, Option.isSome_none, Bool.false_eq_true, if_false, OfNat.one_ne_ofNat]

theorem writeRestoreControl_receive : writeRestoreControl 2 s =
    (0, setStep (committedStep s) 2 (beginRestore 2 { RestoreRun.init with kind := 2 } s)) := by
  simp [writeRestoreControl, hso, hr]

theorem writeRestoreControl_seed : writeRestoreControl 3 s =
    (0, restoreGo (beginRestore 1 { RestoreRun.init with kind := 3, sets := namedSets false s } s)) := by
  simp [writeRestoreControl, hso, hr]

theorem writeRestoreControl_receiveMirror : writeRestoreControl 4 s =
    (0, beginRestore 2 { RestoreRun.init with kind := 4 } s) := by
  simp [writeRestoreControl, hso, hr]

end

end Sys2Proof.Machine

open Sys2Proof Sys2Proof.Machine

/-- Settles O51: each row is its accepted write, and the rule's equation for its value gives the answer. -/
theorem restoresAndSeedingsBegin : Obligations.RestoresAndSeedingsBegin := by
  refine ⟨fun s w n ha hacc hso hr hn => (run_command_accepted _ _ _ _ _ _ ha hacc).trans ?_,
    fun s w again ha hacc hso hr hn hagain => (run_command_accepted _ _ _ _ _ _ ha hacc).trans ?_,
    fun s w ha hacc hso hr => (run_command_accepted _ _ _ _ _ _ ha hacc).trans ?_,
    fun s w ha hacc hso hr => (run_command_accepted _ _ _ _ _ _ ha hacc).trans ?_,
    fun s w ha hacc hso hr => (run_command_accepted _ _ _ _ _ _ ha hacc).trans ?_,
    fun s w ha hacc hso => (run_command_accepted _ _ _ _ _ _ ha hacc).trans ?_,
    fun s w v row hrow ha hacc h => ?_,
    fun s w v ha hacc => run_command_accepted _ _ _ _ _ _ ha hacc⟩
  · rw [writeRestoreControl_donate_fails s hso hr n hn]
  · rw [writeRestoreControl_donate_sends s hso hr again hn hagain]
  · rw [writeRestoreControl_receive s hso hr]
  · rw [writeRestoreControl_seed s hso hr]
  · rw [writeRestoreControl_receiveMirror s hso hr]
  · rw [writeRestoreControl_cancel s hso]
  · obtain ⟨hv, hexec⟩ := exec_restoreRow v row w s hrow
    rw [hexec, run_command_accepted _ _ _ _ _ _ ha hacc, writeRestoreControl_refused v s hv h]
end

section
/-! PROOF. The sequencer: what each command of a core does once it issues, and what holds it (04 R142 to R147). -/

namespace Sys2Proof.Machine

open Sys2Proof

/-! ### Flags (04 R143) -/

/-- A generation has reached a target when it is less than half the range ahead of it, over the wrap of the counter. -/
theorem reached_iff (g t : Nat) (ht : t < 2 ^ 31) :
    reached g t = true ↔ ((g : Int) - (t : Int)) % 2 ^ 31 < 2 ^ 30 := by
  rw [reached, decide_eq_true_iff, Nat.mod_eq_of_lt ht]
  omega

theorem fwaitMet_core (w : Nat) (s : State) (hb : bitOf w 247 = true) :
    fwaitMet w s = reached (coreFlag (fld w 246 239) s) (fld w 238 208) := by
  simp only [fwaitMet, hb, if_true]

theorem fwaitMet_caller (w : Nat) (s : State) (hb : bitOf w 247 = false) :
    fwaitMet w s = reached (flagGen (fld w 246 239) s) (fld w 238 208) := by
  simp only [fwaitMet, hb, Bool.false_eq_true, if_false]

/-! ### Engines at END (05 R182, R183) -/

theorem forEach_id {α : Type} (l : List α) (f : α → State → State) (s : State) (h : ∀ a ∈ l, f a s = s) :
    forEach l f s = s := by
  induction l with
  | nil => rfl
  | cons a l ih =>
    have hhead : f a s = s := h a List.mem_cons_self
    calc forEach (a :: l) f s = forEach l f (f a s) := rfl
      _ = s := by rw [hhead, ih fun b hb => h b (List.mem_cons_of_mem _ hb)]

theorem settleWrites_idle (c e n : Nat) (s : State) (h : (streamEng c e s).run = none) : settleWrites c e n s = s := by
  cases n with
  | zero => rfl
  | succ n => simp only [settleWrites, h]

theorem stopReads_idle (c e n : Nat) (s : State) (h : (streamEng c e s).run = none) : stopReads c e n s = s := by
  cases n with
  | zero => rfl
  | succ n => simp only [stopReads, h]

/-- A core runs no stream when none of its four engines does. -/
theorem engines_idle (c : Nat) (s : State) (hlen : (coreOf c s).engines.length = 4)
    (h : ∀ e < 4, (streamEng c e s).run = none) : ((coreOf c s).engines.any fun g => g.run.isSome) = false := by
  rw [List.any_eq_false]
  intro g hg
  obtain ⟨e, he, rfl⟩ := List.getElem_of_mem hg
  have hrun := h e (hlen ▸ he)
  rw [streamEng, nth, List.getD_eq_getElem _ _ he] at hrun
  simp [hrun]

/-! ### Issue (04 R141, R147) -/

section
variable {s t : State} {c : Nat} {w : BitVec 256} (ha : alive s = true) (hi : Issues c w t s)
include ha hi

/-- A row that names the legal command a core issues carries it out on the state its read leaves. -/
theorem run_issue {p : Nat → Bool} {f : Nat → State → State} (hl : cmdOk w.toNat = true) (hp : p w.toNat = true) :
    run (issue c p f) s = .next (framed (f w.toNat t) s) := by
  rw [run_alive _ _ ha, issue_of_issues c p f w t s hi hl hp]

/-- An illegal command aborts the task, whatever row is tried. -/
theorem run_issue_illegal {p : Nat → Bool} {f : Nat → State → State} (hl : cmdOk w.toNat = false) :
    run (issue c p f) s = .next (framed (faultTask c 0x2201 (coreOf c s).pc t) s) := by
  rw [run_alive _ _ ha, issue_illegal c p f w t s hi hl]

variable (hl : cmdOk w.toNat = true)
include hl

/-! ### Loops and flags (04 R146, R147) -/

theorem exec_loop_issued (hop : cmdOp w.toNat = 0x40) :
    exec (.loop c) s = .next (framed (advance c (modCore c (fun k =>
      { k with ctrs := k.ctrs.set (fld w.toNat 247 246) (fld w.toNat 245 222) }) t)) s) :=
  run_issue ha hi hl (by simp [hop])

/-- BRANCH jumps while its counter, lowered by 1 modulo 2^24, is not 0. -/
theorem exec_branch_taken (hop : cmdOp w.toNat = 0x41)
    (hn : (nth 0 (coreOf c t).ctrs (fld w.toNat 247 246) + (2 ^ 24 - 1)) % 2 ^ 24 ≠ 0) :
    exec (.branch c) s = .next (framed (goTo c (ofSigned 24 (((coreOf c t).pc : Int) + toSigned 16 (fld w.toNat 245 230)))
      (modCore c (fun k => { k with
        ctrs := k.ctrs.set (fld w.toNat 247 246) ((nth 0 (coreOf c t).ctrs (fld w.toNat 247 246) + (2 ^ 24 - 1)) % 2 ^ 24) })
        t)) s) := by
  have hpc (f : Core → List Nat) : (coreOf c (modCore c (fun k => { k with ctrs := f k }) t)).pc = (coreOf c t).pc :=
    coreOf_modCore_keeps Core.pc c c (fun k => { k with ctrs := f k }) (fun _ => rfl) t
  refine (run_issue ha hi hl (by simp [hop])).trans ?_
  rw [if_pos hn, hpc]

theorem exec_branch_passed (hop : cmdOp w.toNat = 0x41)
    (hn : (nth 0 (coreOf c t).ctrs (fld w.toNat 247 246) + (2 ^ 24 - 1)) % 2 ^ 24 = 0) :
    exec (.branch c) s = .next (framed (advance c
      (modCore c (fun k => { k with ctrs := k.ctrs.set (fld w.toNat 247 246) 0 }) t)) s) := by
  refine (run_issue ha hi hl (by simp [hop])).trans ?_
  rw [if_neg (not_not_intro hn), hn]

theorem exec_flag_issued (hop : cmdOp w.toNat = 0x31) :
    exec (.flag c) s = .next (framed (contributeReady (coreFlagUp (fld w.toNat 247 242) (advance c t))) s) :=
  run_issue ha hi hl (by simp [hop])

/-! ### Waits (04 R142 to R145) -/

theorem exec_sync_issued (hop : cmdOp w.toNat = 0x32) :
    exec (.sync c) s = .next (framed (if syncMet c w.toNat t then advance c t else holdCmd c 0 t) s) :=
  run_issue ha hi hl (by simp [hop])

/-- A CWAIT for no more sectors than its engine's ring or region holds. -/
theorem exec_cwait_issued (x : Stream) (hop : cmdOp w.toNat = 0x21)
    (hx : heldStream (streamEng c (fld w.toNat 247 246) t) = some x) (hsize : fld w.toNat 245 228 ≤ x.size) :
    exec (.cwait c) s = .next (framed
      (if cwaitMet c w.toNat t then advance c t else holdCmd c (fld w.toNat 227 212) t) s) := by
  refine (run_issue ha hi hl (by simp [hop])).trans ?_
  simp only [hx, if_neg (Nat.not_lt.mpr hsize)]

theorem exec_fwait_held (hop : cmdOp w.toNat = 0x30) (hm : fwaitMet w.toNat t = false) :
    exec (.fwait c) s = .next (framed (holdCmd c (fld w.toNat 206 191) t) s) := by
  refine (run_issue ha hi hl (by simp [hop])).trans ?_
  rw [hm, if_neg Bool.false_ne_true]

/-- An FWAIT whose flag is a core flag, ended well or may end aborted goes on, with the outcome kept. -/
theorem exec_fwait_met (hop : cmdOp w.toNat = 0x30) (hm : fwaitMet w.toNat t = true)
    (ho : bitOf w.toNat 247 = true ∨ flagOutcome (fld w.toNat 246 239) t = 0 ∨ bitOf w.toNat 207 = true) :
    exec (.fwait c) s = .next (framed (advance c (modCore c (fun k => { k with
      outcome := if bitOf w.toNat 247 then 0 else flagOutcome (fld w.toNat 246 239) t }) t)) s) := by
  refine (run_issue ha hi hl (by simp [hop])).trans ?_
  rw [hm, if_pos rfl, if_neg]
  rintro ⟨hone, hbit⟩
  rcases ho with hcore | hended | hok
  · simp [hcore] at hone
  · simp [hended] at hone
  · exact absurd hok (by simp [hbit])

/-- A Caller flag that ended aborted ends the task of an FWAIT without ABORT_OK. -/
theorem exec_fwait_aborts (hop : cmdOp w.toNat = 0x30) (hm : fwaitMet w.toNat t = true) (hb : bitOf w.toNat 247 = false)
    (ho : flagOutcome (fld w.toNat 246 239) t = 1) (hok : bitOf w.toNat 207 = false) :
    exec (.fwait c) s = .next (framed (faultTask c 0x2203 0 (modCore c (fun k => { k with outcome := 1 }) t)) s) := by
  refine (run_issue ha hi hl (by simp [hop])).trans ?_
  rw [hm, if_pos rfl, hb, ho, if_neg Bool.false_ne_true, if_pos ⟨rfl, hok⟩]
  rfl

/-- A CWAIT or FWAIT that has not completed within its TIMEOUT aborts the task. -/
theorem exec_waitTimeout_expired (a : Nat) (hat : (coreOf c s).waitAt = some a) (hst : (coreOf c s).status = 2)
    (htmo : (coreOf c s).waitTmo ≠ 0) (hpast : a + (coreOf c s).waitTmo * 2 ^ beatB s ≤ s.clk.ticks)
    (hop : (cmdOp w.toNat = 0x30 ∧ fwaitMet w.toNat s = false) ∨ (cmdOp w.toNat = 0x21 ∧ cwaitMet c w.toNat s = false)) :
    exec (.waitTimeout c) s = .next (framed (faultTask c 0x2203 0 t) s) := by
  have hrow : ((cmdOp w.toNat == 0x21 && !cwaitMet c w.toNat s) || (cmdOp w.toNat == 0x30 && !fwaitMet w.toNat s)) = true := by
    rcases hop with ⟨hop, hm⟩ | ⟨hop, hm⟩ <;> simp [hop, hm]
  have hdue : ¬ ((coreOf c s).status ≠ 2 ∨ (coreOf c s).waitTmo = 0 ∨
      s.clk.ticks < a + (coreOf c s).waitTmo * 2 ^ beatB s) := by simp [hst, htmo, hpast]
  simp only [exec, execWaitTimeout]
  rw [run_alive _ _ ha]
  simp only [hat, if_neg hdue]
  rw [issue_of_issues c _ _ w t s hi hl hrow, seqFault]

/-! ### END (04 R147; 05 R183) -/

theorem exec_seqEnd_held (hop : cmdOp w.toNat = 0x7F) (hidle : coreIdle (coreOf c t) = false) :
    exec (.seqEnd c) s = .next (framed (holdCmd c 0 t) s) := by
  refine (run_issue ha hi hl (by simp [hop])).trans ?_
  rw [if_pos hidle]

/-- With its units idle and no stream left to stop, the core's copy of the task ends. -/
theorem exec_seqEnd_ends (hop : cmdOp w.toNat = 0x7F) (hidle : coreIdle (coreOf c t) = true)
    (htask : (coreOf c t).task.isNone = false) (hrun : ∀ e < 4, (streamEng c e t).run = none)
    (hlen : (coreOf c t).engines.length = 4) : exec (.seqEnd c) s = .next (framed (coreEnded c t) s) := by
  have hw : forEach (List.range 4) (fun e => settleWrites c e 2) t = t :=
    forEach_id _ _ t fun e he => settleWrites_idle c e 2 t (hrun e (List.mem_range.mp he))
  have hr : forEach (List.range 4) (fun e => stopReads c e 2) t = t :=
    forEach_id _ _ t fun e he => stopReads_idle c e 2 t (hrun e (List.mem_range.mp he))
  refine (run_issue ha hi hl (by simp [hop])).trans ?_
  simp only [hidle, hw, hr, htask, engines_idle c t hlen hrun, Bool.true_eq_false, Bool.false_eq_true, if_false]

end

end Sys2Proof.Machine

open Sys2Proof Sys2Proof.Machine

/-- Settles O19: FWAIT's rules, with its condition read on the flag that bit 247 names. -/
theorem flagWaitsCompleteByDistance : Obligations.FlagWaitsCompleteByDistance := by
  refine ⟨fun g t _ ht => reached_iff g t ht, fun s t c w ha hi hl hop hb hr => ?_, fun s t c w ha hi hl hop hb hr => ?_,
    fun s t c w ha hi hl hop hb hr => ?_, fun s t c w ha hi hl hop hb hr ho => ?_⟩
  · rw [exec_fwait_met ha hi hl hop ((fwaitMet_core _ t hb).trans hr) (.inl hb), if_pos hb]
  · exact exec_fwait_held ha hi hl hop ((fwaitMet_core _ t hb).trans hr)
  · exact exec_fwait_held ha hi hl hop ((fwaitMet_caller _ t hb).trans hr)
  · rw [exec_fwait_met ha hi hl hop ((fwaitMet_caller _ t hb).trans hr) (.inr (.inl ho)), if_neg (by simp [hb]), ho]

/-- Settles O31: the rule of each flow command. -/
theorem flowCommandsIssue : Obligations.FlowCommandsIssue := by
  refine ⟨fun s t c w ha hi hl hop => exec_loop_issued ha hi hl hop,
    fun s t c w ha hi hl hop hn => exec_branch_taken ha hi hl hop hn,
    fun s t c w ha hi hl hop hn => exec_branch_passed ha hi hl hop hn,
    fun s t c w ha hi hl hop => exec_flag_issued ha hi hl hop,
    fun s t c w ha hi hl hop hm => ?_, fun s t c w ha hi hl hop hm => ?_,
    fun s t c w x ha hi hl hop hx hsize hm => ?_, fun s t c w x ha hi hl hop hx hsize hm => ?_,
    fun s t c w ha hi hl hop hm ho => exec_fwait_met ha hi hl hop hm ho,
    fun s t c w ha hi hl hop hm hb ho hok => exec_fwait_aborts ha hi hl hop hm hb ho hok,
    fun s t c w ha hi hl hop hm => exec_fwait_held ha hi hl hop hm,
    fun s t c w a ha hi hl hat hst htmo hpast hop => exec_waitTimeout_expired ha hi hl a hat hst htmo hpast hop,
    fun s t c w ha hi hl hop hidle => exec_seqEnd_held ha hi hl hop hidle,
    fun s t c w ha hi hl hop hidle htask hrun hlen => exec_seqEnd_ends ha hi hl hop hidle htask hrun hlen,
    fun s t c w ha hi hl => ⟨run_issue_illegal ha hi hl, run_issue_illegal ha hi hl, run_issue_illegal ha hi hl,
      run_issue_illegal ha hi hl, run_issue_illegal ha hi hl⟩⟩
  · rw [exec_sync_issued ha hi hl hop, if_pos hm]
  · rw [exec_sync_issued ha hi hl hop, if_neg (by simp [hm])]
  · rw [exec_cwait_issued ha hi hl x hop hx hsize, if_pos hm]
  · rw [exec_cwait_issued ha hi hl x hop hx hsize, if_neg (by simp [hm])]
end

section
/-! PROOF. The arrays: weight sets and modes, and what a PASS does when it issues and when it ends (04 R112 to R131, R154; 05 R177,
R179; 14 R501). -/

namespace Sys2Proof.Machine

open Sys2Proof

/-! ### Shadows (04 R112, R116) -/

theorem anyShadow_of_mem {c : Nat} {as : List Nat} {x : ShadowState} {s : State}
    (h : ∃ a ∈ as, (arrayOf c a s).shadow = x) : (as.any fun a => (arrayOf c a s).shadow == x) = true := by
  simpa using h

theorem noShadow_of_forall {c : Nat} {as : List Nat} {x : ShadowState} {s : State}
    (h : ∀ a ∈ as, (arrayOf c a s).shadow ≠ x) : (as.any fun a => (arrayOf c a s).shadow == x) = false := by
  simpa using h

/-- Where every shadow is in one state, none is in another. -/
theorem noShadow_of_all {c : Nat} {as : List Nat} {x y : ShadowState} {s : State} (hxy : y ≠ x)
    (h : ∀ a ∈ as, (arrayOf c a s).shadow = y) : (as.any fun a => (arrayOf c a s).shadow == x) = false :=
  noShadow_of_forall fun a hmem => (h a hmem).trans_ne hxy

theorem swapState_empty {c : Nat} {as : List Nat} {s : State} (h : ∃ a ∈ as, (arrayOf c a s).shadow = .empty) :
    swapState c as s = .empty := if_pos (anyShadow_of_mem h)

theorem swapState_loading {c : Nat} {as : List Nat} {s : State} (hne : ∀ a ∈ as, (arrayOf c a s).shadow ≠ .empty)
    (h : ∃ a ∈ as, (arrayOf c a s).shadow = .loading) : swapState c as s = .loading := by
  simp only [swapState, noShadow_of_forall hne, anyShadow_of_mem h, Bool.false_eq_true, if_false, if_true]

theorem swapState_ready {c : Nat} {as : List Nat} {s : State} (h : ∀ a ∈ as, (arrayOf c a s).shadow = .ready) :
    swapState c as s = .ready := by
  simp only [swapState, noShadow_of_all (x := .empty) (by decide) h, noShadow_of_all (x := .loading) (by decide) h,
    Bool.false_eq_true, if_false]

/-! ### Commands that issue -/

/-- The row of each accumulation mode. -/
theorem exec_passRow {acc c : Nat} {k : Nat → List (Nat × BitVec 288) → Instr} (hk : (acc, k) ∈ passRows)
    (errs : List (Nat × BitVec 288)) (s : State) : exec (k c errs) s = run (issuePass acc c errs) s := by
  simp only [passRows, List.mem_cons, List.not_mem_nil, or_false, Prod.mk.injEq] at hk
  obtain ⟨rfl, rfl⟩ | ⟨rfl, rfl⟩ | ⟨rfl, rfl⟩ | ⟨rfl, rfl⟩ := hk <;> rfl

section
variable {s t : State} {c : Nat} {w : BitVec 256} (ha : alive s = true) (hi : Issues c w t s)
  (hl : cmdOk w.toNat = true)
include ha hi hl

/-! ### MODE and DRAIN (04 R127, R131) -/

/-- MODE takes effect on a core with no pass in flight and no group open; a ganged core's arrays are whole. -/
theorem exec_mode_issued (hop : cmdOp w.toNat = 0x01)
    (hbusy : ((coreOf c t).arrays.any fun a => !a.flight.isEmpty || a.group.isSome) = false)
    (hpart : bitOf w.toNat 247 = false ∨ ∀ a < 4, fld w.toNat (240 + 2 * a) (239 + 2 * a) = 0) :
    exec (.mode c) s = .next (framed (advance c (modCore c (fun k => { k with
      gang := bitOf w.toNat 247, part := (List.range 4).map fun a => fld w.toNat (240 + 2 * a) (239 + 2 * a),
      share := (List.range 4).map fun a => bitOf w.toNat (235 + a),
      ptab := (List.range 4).map fun a => fld w.toNat (180 + 18 * a) (163 + 18 * a) }) t)) s) := by
  have hwhole : (bitOf w.toNat 247 &&
      ((List.range 4).map fun a => fld w.toNat (240 + 2 * a) (239 + 2 * a)).any (· != 0)) = false := by
    rcases hpart with hgang | hzero
    · rw [hgang, Bool.false_and]
    · have hnone : (((List.range 4).map fun a => fld w.toNat (240 + 2 * a) (239 + 2 * a)).any (· != 0)) = false := by
        simpa using hzero
      rw [hnone, Bool.and_false]
  refine (run_issue ha hi hl (by simp [hop])).trans ?_
  simp only [hbusy, hwhole, Bool.false_eq_true, or_self, if_false]

theorem exec_mode_busy (hop : cmdOp w.toNat = 0x01)
    (hbusy : ((coreOf c t).arrays.any fun a => !a.flight.isEmpty || a.group.isSome) = true) :
    exec (.mode c) s = .next (framed (faultTask c 0x2204 0 t) s) := by
  refine (run_issue ha hi hl (by simp [hop])).trans ?_
  simp only [hbusy, true_or, if_true, seqFault]

theorem exec_drain_issued (hop : cmdOp w.toNat = 0x05) (hg : gangBroken c (fld w.toNat 247 244) t = false) :
    exec (.drain c) s = .next (framed (advance c (forEach (arraysOf (fld w.toNat 247 244)) (fun a =>
      modArray c a fun y => { y with drain := some ⟨BitVec.ofNat 256 w.toNat, 0⟩ }) t)) s) := by
  refine (run_issue ha hi hl (by simp [hop])).trans ?_
  rw [hg, if_neg Bool.false_ne_true]

/-! ### LOAD_W (04 R112 to R114) -/

section
variable (errs : List (Nat × BitVec 288)) (hop : cmdOp w.toNat = 0x02) (hg : gangBroken c (fld w.toNat 247 244) t = false)
  (hempty : ∀ a ∈ arraysOf (fld w.toNat 247 244), (arrayOf c a t).shadow = .empty)
  (hthaw : bitOf w.toNat 235 = false ∨ frozenAt 3 (0x20000000000 / 32) t = false)
include hop hg hempty hthaw

/-- A LOAD_W of EMPTY shadows that nothing freezes comes to its access, which once it goes reads the set for the shadows. -/
theorem exec_loadW_accesses : ∃ f : State → State,
    exec (.loadW c errs) s = .next (framed (afterSnoops false (loadRanges w.toNat) f t) s) ∧
    ∀ x u, readSet ⟨c, 5, errs, []⟩ w.toNat t = (.ok x, u) →
      f t = advance c (forEach (arraysOf (fld w.toNat 247 244)) (fun a =>
        modArray c a fun y => { y with shadow := .loading, shadowSet := some x }) u) := by
  have hfrozen : (bitOf w.toNat 235 && frozenAt 3 (0x20000000000 / 32) t) = false := Bool.and_eq_false_iff.mpr hthaw
  have hexec : exec (.loadW c errs) s = _ := run_issue ha hi hl (by simp [hop])
  simp only [hg, noShadow_of_all (x := .ready) (by decide) hempty, noShadow_of_all (x := .loading) (by decide) hempty, hfrozen,
    Bool.or_self, Bool.false_eq_true, if_false] at hexec
  exact ⟨_, hexec, fun x u hread => by simp only [hread]⟩

theorem exec_loadW_reads {x : WeightSet} {u : State} (hclear : snoopLines false (loadRanges w.toNat) t = [])
    (hread : readSet ⟨c, 5, errs, []⟩ w.toNat t = (.ok x, u)) :
    exec (.loadW c errs) s = .next (framed (advance c (forEach (arraysOf (fld w.toNat 247 244)) (fun a =>
      modArray c a fun y => { y with shadow := .loading, shadowSet := some x }) u)) s) := by
  obtain ⟨f, hexec, hf⟩ := exec_loadW_accesses ha hi hl errs hop hg hempty hthaw
  rw [hexec, afterSnoops_clear _ _ _ _ hclear, hf x u hread]

theorem exec_loadW_snoops (hheld : snoopLines false (loadRanges w.toNat) t ≠ []) :
    exec (.loadW c errs) s =
      .next (framed (forEach (snoopLines false (loadRanges w.toNat) t) (fun l => sendSnoop l none) t) s) := by
  obtain ⟨f, hexec, -⟩ := exec_loadW_accesses ha hi hl errs hop hg hempty hthaw
  rw [hexec, afterSnoops_held _ _ _ _ hheld]

end

/-! ### SWAP (04 R115, R116) -/

theorem exec_swap_waits (hop : cmdOp w.toNat = 0x03) (hg : gangBroken c (fld w.toNat 247 244) t = false)
    (hne : ∀ a ∈ arraysOf (fld w.toNat 247 244), (arrayOf c a t).shadow ≠ .empty)
    (h : ∃ a ∈ arraysOf (fld w.toNat 247 244), (arrayOf c a t).shadow = .loading) :
    exec (.swap c) s = .next (framed t s) := by
  refine (run_issue ha hi hl (by simp [hop])).trans ?_
  simp only [hg, swapState_loading hne h, Bool.false_eq_true, if_false]

/-- Ganged arrays or not, an EMPTY shadow is a sequence error. -/
theorem exec_swap_empty (hop : cmdOp w.toNat = 0x03)
    (h : ∃ a ∈ arraysOf (fld w.toNat 247 244), (arrayOf c a t).shadow = .empty) :
    exec (.swap c) s = .next (framed (faultTask c 0x2204 0 t) s) := by
  have hsome : (arraysOf (fld w.toNat 247 244)).isEmpty = false := by
    obtain ⟨a, hmem, -⟩ := h
    exact List.isEmpty_eq_false_iff_exists_mem.mpr ⟨a, hmem⟩
  refine (run_issue ha hi hl (by simp [hop])).trans ?_
  simp only [swapState_empty h, hsome, seqFault, Bool.false_eq_true, if_false, ite_self]

theorem exec_swap_ready (hop : cmdOp w.toNat = 0x03) (hg : gangBroken c (fld w.toNat 247 244) t = false)
    (h : ∀ a ∈ arraysOf (fld w.toNat 247 244), (arrayOf c a t).shadow = .ready) :
    exec (.swap c) s = .next (framed (advance c (forEach (arraysOf (fld w.toNat 247 244))
      (fun a => modArray c a swapped) t)) s) := by
  refine (run_issue ha hi hl (by simp [hop])).trans ?_
  simp only [hg, swapState_ready h, Bool.false_eq_true, if_false]

/-! ### PASS (04 R116, R118 to R121; 05 R177) -/

section
variable {acc : Nat} {k : Nat → List (Nat × BitVec 288) → Instr} (errs : List (Nat × BitVec 288))
  (hk : (acc, k) ∈ passRows) (hop : cmdOp w.toNat = 0x04) (hacc : fld w.toNat 238 237 = acc) (hhold : t.pow.passHold = false)
  (hclamp : t.pow.clamp = false)
include hk hop hacc hhold hclamp

theorem exec_pass_swapWaits (hsw : bitOf w.toNat 239 = true) (hg : gangBroken c (fld w.toNat 247 244) t = false)
    (hne : ∀ a ∈ arraysOf (fld w.toNat 247 244), (arrayOf c a t).shadow ≠ .empty)
    (h : ∃ a ∈ arraysOf (fld w.toNat 247 244), (arrayOf c a t).shadow = .loading) :
    exec (k c errs) s = .next (framed t s) := by
  rw [exec_passRow hk]
  refine (run_issue ha hi hl (by simp [hop, hacc])).trans ?_
  simp only [hhold, hclamp, hg, hsw, noShadow_of_forall hne, anyShadow_of_mem h, Bool.false_eq_true, or_self, Bool.and_false,
    Bool.and_self, if_false, if_true]

theorem exec_pass_swapEmpty (hsw : bitOf w.toNat 239 = true)
    (h : ∃ a ∈ arraysOf (fld w.toNat 247 244), (arrayOf c a t).shadow = .empty) :
    exec (k c errs) s = .next (framed (faultTask c 0x2204 0 t) s) := by
  rw [exec_passRow hk]
  refine (run_issue ha hi hl (by simp [hop, hacc])).trans ?_
  simp only [hhold, hclamp, hsw, anyShadow_of_mem h, seqFault, Bool.false_eq_true, or_self, Bool.and_self, if_false, if_true,
    ite_self]

/-- A legal PASS whose BIND is absent or ready issues, with its sets swapped first under SWAP. -/
theorem exec_pass_issued {mask span : Nat} {u v x : State} {b : BindState} (hg : gangBroken c (fld w.toNat 247 244) t = false)
    (hready : bitOf w.toNat 239 = true → ∀ a ∈ arraysOf (fld w.toNat 247 244), (arrayOf c a t).shadow = .ready)
    (hgroups : ∀ a ∈ arraysOf (fld w.toNat 247 244),
      passBroken (coreOf c t) a acc (fld w.toNat 236 225 + 1) (fld w.toNat 243 240) (bitOf w.toNat 239) = false)
    (hshift : readShift c w.toNat t = (.ok (mask, span), u)) (hb : bindState c w.toNat (fld w.toNat 236 225 + 1) u = b)
    (hbind : b ≠ .wait ∧ ∀ f, b ≠ .fault f)
    (hx : x = if bitOf w.toNat 239 then forEach (arraysOf (fld w.toNat 247 244)) (fun a => modArray c a swapped) u else u)
    (hpass : passArrays c (coreOf c x) errs (passPlan acc w.toNat mask span b x) (arraysOf (fld w.toNat 247 244)) x = (none, v)) :
    exec (k c errs) s =
      .next (framed (advance c (bumpBy (rd Obj.THROTTLE_GAP v) Obj.THROTTLE_CYCLES v)) s) := by
  have hshadow (y : ShadowState) (hy : .ready ≠ y) : (bitOf w.toNat 239 &&
      (arraysOf (fld w.toNat 247 244)).any fun a => (arrayOf c a t).shadow == y) = false := by
    cases hsw : bitOf w.toNat 239 with
    | false => rfl
    | true => exact noShadow_of_all hy (hready hsw)
  have hlegal : ((arraysOf (fld w.toNat 247 244)).any fun a => passBroken (coreOf c t) a acc (fld w.toNat 236 225 + 1)
      (fld w.toNat 243 240) (bitOf w.toNat 239)) = false :=
    List.any_eq_false.mpr fun a hmem => by simp [hgroups a hmem]
  rw [exec_passRow hk]
  refine (run_issue ha hi hl (by simp [hop, hacc])).trans ?_
  simp only [hhold, hclamp, hg, hshadow .empty (by decide), hshadow .loading (by decide), hlegal, Bool.false_eq_true, or_self,
    if_false, hshift, hb]
  cases b with
  | wait => exact absurd rfl hbind.1
  | fault f => exact absurd rfl (hbind.2 f)
  | none_ | ready => simp only [← hx, hpass]

end

end

/-! ### The end of a load (04 R113) and of a pass (04 R121, R154; 14 R501) -/

section
variable {s : State} {c a : Nat} {f : PassFlight} {rest : List PassFlight} (hf : (arrayOf c a s).flight = f :: rest)
include hf

/-- The oldest pass of an array waits for its ring sectors and for the clamp. -/
theorem exec_passPublish_waits (bad : Bool)
    (h : s.pow.clamp = true ∨ ringFree c (if (coreOf c s).gang then 0 else a) (bySector f.writes) s = false) :
    exec (.passPublish c a bad) s = .next s := by
  simp only [exec, execPassPublish]
  refine run_idle _ s ?_
  simp only [hf]
  rw [if_pos (by simpa using h)]

variable (ha : alive s = true) (hclamp : s.pow.clamp = false)
  (hfree : ringFree c (if (coreOf c s).gang then 0 else a) (bySector f.writes) s = true)
include ha hclamp hfree

theorem exec_passPublish_publishes : exec (.passPublish c a false) s =
    .next (framed (takeNotes c f.notes (produce c 7 f.hist (produce c (if (coreOf c s).gang then 0 else a) f.writes
      (modArray c a (fun y => { y with flight := rest }) s)))) s) := by
  simp only [exec, execPassPublish]
  rw [run_alive _ _ ha]
  simp only [hf, hclamp, hfree, Bool.not_true, Bool.or_self, Bool.false_and, Bool.false_eq_true, if_false]

theorem exec_passPublish_residue (hw : f.writes ≠ []) : exec (.passPublish c a true) s =
    .next (framed (residueFault c a s) s) := by
  have hsome : f.writes.isEmpty = false := List.isEmpty_eq_false_iff.mpr hw
  simp only [exec, execPassPublish]
  rw [run_alive _ _ ha]
  simp only [hf, hclamp, hfree, hsome, Bool.not_true, Bool.not_false, Bool.or_self, Bool.and_self, Bool.false_eq_true, if_false,
    if_true]

end

end Sys2Proof.Machine

open Sys2Proof Sys2Proof.Machine

/-- Settles O18: a SWAP, and a PASS that swaps, over a LOADING shadow and over an EMPTY one. -/
theorem swapsWaitOrAbort : Obligations.SwapsWaitOrAbort :=
  ⟨fun _ _ _ _ ha hi hl hop hg hne h => exec_swap_waits ha hi hl hop hg hne h,
    fun _ _ _ _ ha hi hl hop h => exec_swap_empty ha hi hl hop h,
    fun _ _ _ _ _ errs _ hk ha hi hl hop hacc hsw hhold hclamp hg hne h =>
      exec_pass_swapWaits ha hi hl errs hk hop hacc hhold hclamp hsw hg hne h,
    fun _ _ _ _ _ errs _ hk ha hi hl hop hacc hsw hhold hclamp h =>
      exec_pass_swapEmpty ha hi hl errs hk hop hacc hhold hclamp hsw h⟩

/-- Settles O32: the rule of each command of the weight sets, and LOAD_W_COMPLETE as it stands. -/
theorem weightSetsAndModes : Obligations.WeightSetsAndModes :=
  ⟨fun _ _ _ _ ha hi hl hop hbusy hpart => exec_mode_issued ha hi hl hop hbusy hpart,
    fun _ _ _ _ ha hi hl hop hbusy => exec_mode_busy ha hi hl hop hbusy,
    fun _ _ _ _ _ _ errs ha hi hl hop hg hempty hthaw hclear hread =>
      exec_loadW_reads ha hi hl errs hop hg hempty hthaw hclear hread,
    fun _ _ _ _ errs ha hi hl hop hg hempty hthaw hheld => exec_loadW_snoops ha hi hl errs hop hg hempty hthaw hheld,
    fun s _ _ ha _ => run_alive _ s ha,
    fun _ _ _ _ ha hi hl hop hg h => exec_swap_ready ha hi hl hop hg h,
    fun _ _ _ _ ha hi hl hop hg => exec_drain_issued ha hi hl hop hg⟩

/-- Settles O33: the issue of a PASS, and what its end publishes, refuses or waits for. -/
theorem passesIssueAndPublish : Obligations.PassesIssueAndPublish :=
  ⟨fun _ _ _ _ _ _ _ _ _ _ errs _ _ hk ha hi hl hop hacc hhold hclamp hg hready hgroups hshift hb hbind hx hpass =>
      exec_pass_issued ha hi hl errs hk hop hacc hhold hclamp hg hready hgroups hshift hb hbind hx hpass,
    fun _ _ _ _ _ ha hf hclamp hfree => exec_passPublish_publishes hf ha hclamp hfree,
    fun _ _ _ _ _ ha hf hclamp hfree hw => exec_passPublish_residue hf ha hclamp hfree hw,
    fun _ _ _ _ _ bad _ hf h => exec_passPublish_waits hf bad h⟩
end

section
/-! PROOF. The vector unit: how each operation issues, and what it leaves when it completes (04 R136 to R142; 05 R179; 14 R501). -/

namespace Sys2Proof.Machine

open Sys2Proof

/-- The row of each vector operation. -/
theorem exec_vopRow {op c : Nat} {k : Nat → List (Nat × BitVec 288) → Instr} (hk : (op, k) ∈ vopRows)
    (errs : List (Nat × BitVec 288)) (s : State) : exec (k c errs) s = run (issueVop op c errs) s := by
  simp only [vopRows, List.mem_cons, List.not_mem_nil, or_false, Prod.mk.injEq] at hk
  obtain ⟨rfl, rfl⟩ | ⟨rfl, rfl⟩ | ⟨rfl, rfl⟩ | ⟨rfl, rfl⟩ | ⟨rfl, rfl⟩ | ⟨rfl, rfl⟩ | ⟨rfl, rfl⟩ | ⟨rfl, rfl⟩ | ⟨rfl, rfl⟩ |
    ⟨rfl, rfl⟩ | ⟨rfl, rfl⟩ | ⟨rfl, rfl⟩ | ⟨rfl, rfl⟩ | ⟨rfl, rfl⟩ | ⟨rfl, rfl⟩ := hk <;> rfl

/-- A vector operation issues on a free vector unit, and its result waits for its end. -/
theorem exec_vop_issued {s t u : State} {c op : Nat} {w : BitVec 256} {k : Nat → List (Nat × BitVec 288) → Instr}
    {v : VopFlight} (errs : List (Nat × BitVec 288)) (hk : (op, k) ∈ vopRows) (ha : alive s = true) (hi : Issues c w t s)
    (hl : cmdOk w.toNat = true) (hop : cmdOp w.toNat = 0x10) (hcode : fld w.toNat 247 240 = op) (hfree : (coreOf c t).vops = [])
    (hbody : vopBody op ⟨c, 4, errs, []⟩ (stepSeed t) w.toNat t = (.ok v, u)) :
    exec (k c errs) s = .next (framed (advance c (modCore c (fun q => { q with vops := q.vops ++ [v] }) u)) s) := by
  rw [exec_vopRow hk]
  refine (run_issue ha hi hl (by simp [hop, hcode])).trans ?_
  simp only [hfree, ne_eq, not_true_eq_false, if_false, hbody]

section
variable {s : State} {c : Nat} {v : VopFlight} {rest : List VopFlight} (ha : alive s = true) (hv : (coreOf c s).vops = v :: rest)
  (hfree : ringFree c 4 (bySector v.writes) s = true)
include ha hv hfree

/-- What a pre-emption has not stored of the result is written, and its ring sectors become produced. -/
theorem exec_vopComplete_writes : exec (.vopComplete c false) s =
    .next (framed (takeNotes c v.notes (produceRest c 4 v.writes (v.writes.drop (vopBytes v.cmd.toNat v.done))
      (modCore c (fun k => { k with vops := rest }) s))) s) := by
  simp only [exec, execVopComplete]
  rw [run_alive _ _ ha]
  simp only [hv, hfree, Bool.true_eq_false, Bool.false_eq_true, if_false]

theorem exec_vopComplete_residue : exec (.vopComplete c true) s = .next (framed (residueFault c 4 s) s) := by
  simp only [exec, execVopComplete]
  rw [run_alive _ _ ha]
  simp only [hv, hfree, Bool.true_eq_false, if_false, if_true]

end

end Sys2Proof.Machine

open Sys2Proof Sys2Proof.Machine

/-- Settles O34: every operation issues by its row, and completes with its result or with a residue fault. -/
theorem vectorOperationsIssueAndComplete : Obligations.VectorOperationsIssueAndComplete :=
  ⟨fun _ _ _ _ _ _ errs _ _ hk ha hi hl hop hcode hfree hbody =>
      exec_vop_issued errs hk ha hi hl hop hcode hfree hbody,
    fun _ _ _ _ ha hv hfree => exec_vopComplete_writes ha hv hfree,
    fun _ _ _ _ ha hv hfree => exec_vopComplete_residue ha hv hfree⟩
end

section
/-! PROOF. The stream engines: how a stream starts and stops, the instructions of an address program, and the sectors a stream
moves (05 R156 to R174, R179, R182, R191; 06 R206). -/

namespace Sys2Proof.Machine

open Sys2Proof

/-! ### Engines -/

/-- A change of its running stream keeps what an engine has queued. -/
@[simp] theorem streamEng_modRun_queued (c e d i : Nat) (f : Stream → Stream) (s : State) :
    (streamEng d i (modRun c e f s)).queued = (streamEng d i s).queued :=
  coreOf_modCore_keeps (fun k => (nth Engine.init k.engines i).queued) c d
    (fun k => { k with engines := upd (fun g => { g with run := g.run.map f }) k.engines e })
    (fun k => nth_upd_keeps _ (fun g => { g with run := g.run.map f }) Engine.queued (fun _ => rfl) k.engines e i) s

/-- References are counted in the directory: no engine changes. -/
@[simp] theorem streamEng_takeRefs (c e : Nat) (ts : List Nat) (s : State) :
    streamEng c e (forEach ts takeRef s) = streamEng c e s := by
  have hcores : (forEach ts takeRef s).cores = s.cores :=
    forEach_keeps State.cores ts takeRef (fun t s => by rw [takeRef_frame]) s
  simp only [streamEng, coreOf, hcores]

/-- A change of a running stream leaves the memory tiers as they are. -/
@[simp] theorem unitGone_modRun (c e unit : Nat) (f : Stream → Stream) (s : State) :
    unitGone unit (modRun c e f s) = unitGone unit s := rfl

@[simp] theorem rdSector_modRun (c e n : Nat) (f : Stream → Stream) (s : State) :
    rdSector n (modRun c e f s) = rdSector n s := rfl

/-- The engine of a running core whose stream is neither held nor suspended takes its step. -/
theorem engineStep_runs {c e : Nat} {x : Stream} {s : State} (f : Stream → State → State)
    (hp : (coreOf c s).preempting = false) (hx : (streamEng c e s).run = some x) (hh : x.held = false)
    (hs : x.suspended = false) : engineStep c e f s = f x s := by
  simp only [engineStep, hp, hx, hh, hs, Bool.false_eq_true, or_self, if_false]

/-! ### STREAM_START and STREAM_STOP (05 R156 to R161, R168, R182) -/

/-- A descriptor that STREAM_START has read breaks a check of its header, of its program or index list, or of the near sectors it
shares with another stream (05 R157, R160, R168, R169). -/
def startBroken (c : Nat) (x : Stream) (s : State) : Prop :=
  headerOk c x = false ∨ (if x.kind = 1 then indexOk x else progOk false [] x.prog) = false ∨
    ((coreStreams (coreOf c s)).any fun y => overlaps x y) = true

section
variable {s t u : State} {c : Nat} {w : BitVec 256} {x : Stream} (ha : alive s = true) (hi : Issues c w t s)
  (hl : cmdOk w.toNat = true) (hop : cmdOp w.toNat = 0x20)
include ha hi hl hop

section
variable (hb : bitOf w.toNat 245 = false) (hq : (streamEng c (fld w.toNat 247 246) t).queued = none)
  (hr : readStream c (fld w.toNat 244 227) t = (.ok x, u))
include hb hq hr

theorem exec_streamStart_queues (h : ¬ startBroken c x u) :
    exec (.streamStart c) s = .next (framed (queueStream c (fld w.toNat 247 246) x (advance c u)) s) := by
  refine (run_issue ha hi hl (by simp [hop, hb])).trans ?_
  simp only [hq, hr, Option.isSome_none, Bool.false_eq_true, if_false]
  rw [startBroken] at h
  rw [if_neg h]

theorem exec_streamStart_aborts (h : startBroken c x u) : exec (.streamStart c) s =
    .next (framed (faultNowhere c (fld w.toNat 247 246) 0x2301 (fld w.toNat 247 246) x.faultTensor u) s) := by
  refine (run_issue ha hi hl (by simp [hop, hb])).trans ?_
  simp only [hq, hr, Option.isSome_none, Bool.false_eq_true, if_false]
  rw [startBroken] at h
  rw [if_pos h]

end

section
variable (hb : bitOf w.toNat 245 = true) (hx : (streamEng c (fld w.toNat 247 246) (advance c t)).run = some x)
include hb hx

theorem exec_streamStop_read (hw : x.write = false) :
    exec (.streamStop c) s = .next (framed (endStream c (fld w.toNat 247 246) false (advance c t)) s) := by
  refine (run_issue ha hi hl (by simp [hop, hb])).trans ?_
  simp only [stopStream, hx, hw, true_or, if_true]

/-- A write stream with sectors still to be accepted goes on until they are. -/
theorem exec_streamStop_write (hw : x.write = true) (hh : x.held = false) (hset : writeSettled x = false) :
    exec (.streamStop c) s = .next (framed (modRun c (fld w.toNat 247 246) (fun x => { x with stopped := true })
      (advance c t)) s) := by
  refine (run_issue ha hi hl (by simp [hop, hb])).trans ?_
  simp only [stopStream, hx, hw, hh, hset, Bool.true_eq_false, Bool.false_eq_true, or_self, if_false]

end

end

/-! ### Address programs (05 R167) and held streams (05 R161) -/

/-- The row of each address-program instruction. -/
theorem exec_apRow {op : Nat} {k : Nat → Nat → Instr} (hk : (op, k) ∈ apRows) (c e : Nat) (s : State) :
    exec (k c e) s = run (apRow op c e) s := by
  simp only [apRows, List.mem_cons, List.not_mem_nil, or_false, Prod.mk.injEq] at hk
  obtain ⟨rfl, rfl⟩ | ⟨rfl, rfl⟩ | ⟨rfl, rfl⟩ | ⟨rfl, rfl⟩ | ⟨rfl, rfl⟩ := hk <;> rfl

section
variable {s : State} {c e : Nat} {x : Stream} (ha : alive s = true) (hx : (streamEng c e s).run = some x)
include ha hx

/-- The instruction the program is at acts once every sector named before has been moved. -/
theorem exec_apRow_steps {op : Nat} {k : Nat → Nat → Instr} (hk : (op, k) ∈ apRows) (hp : (coreOf c s).preempting = false)
    (hh : x.held = false) (hs : x.suspended = false) (hkind : x.kind = 0) (hend : x.ended = false) (htodo : x.todo = [])
    (hop : apOp (nth 0#64 x.prog x.pc) = op) :
    exec (k c e) s = .next (framed (checkComplete c e (modRun c e apStep s)) s) := by
  rw [exec_apRow hk, run_alive _ _ ha, apRow, engineStep_runs _ hp hx hh hs, if_pos ⟨hkind, hend, by simp [htodo], hop⟩]

theorem exec_streamHeldRelease_starts (hh : x.held = true) (hhere : lookup x s = .here)
    (hq : (streamEng c e s).queued = none) : exec (.streamHeldRelease c e) s =
    .next (framed (checkComplete c e (modRun c e (fun y => { y with held := false, hasRef := true })
      (forEach x.refs takeRef s))) s) := by
  simp only [exec, execStreamHeldRelease]
  rw [run_alive _ _ ha]
  simp only [hx, hh, hhere, streamEng_modRun_queued, streamEng_takeRefs, hq, if_true]

end

/-! ### Far requests (05 R156, R162, R163, R165, R173) -/

section
variable {s : State} {c e n : Nat} {x : Stream} {off : Int} {rest : List (Option Int)}

/-- The request of the sector a read stream has named next, which lies inside its tensor or store, waits for nothing and has
a place in the ring or region. -/
theorem farRequest_sends (hp : (coreOf c s).preempting = false) (hx : (streamEng c e s).run = some x) (hh : x.held = false)
    (hs : x.suspended = false) (hw : x.write = false) (hstop : x.stopped = false) (htodo : x.todo = some off :: rest)
    (hroom : if x.fill then x.requested < x.size else x.requested - x.freed < x.size)
    (hfloor : ¬ (x.nearFloor = true ∧ nearSectors true ≤ nearPos x x.requested)) (hfar : farSector x off s = some n)
    (hheld : accessHeld n s = false) (hfrozen : frozenAt 3 n s = false) (hsnoop : needsSnoop false n s = false) :
    farRequest c e s = modRun c e (fun y => { y with inFlight := y.inFlight ++ [{ FarReq.init with
      pos := x.requested, far := some n, off := off, sector := readOverlay n s }] })
      (modRun c e (fun y => { y with todo := rest, requested := x.requested + 1 }) (streamGoes c e s)) := by
  have hregion : ¬ (x.fill = true ∧ x.size ≤ x.requested) := by
    rintro ⟨hfill, hpast⟩
    rw [if_pos hfill] at hroom
    omega
  have hring : ¬ (x.fill = false ∧ x.size ≤ x.requested - x.freed) := by
    rintro ⟨hfill, hfull⟩
    rw [if_neg (by simp [hfill])] at hroom
    omega
  rw [farRequest, engineStep_runs _ hp hx hh hs]
  simp only [hw, hstop, htodo, hx, hfar, hheld, hfrozen, hsnoop, List.isEmpty_cons, Bool.or_self, Bool.false_eq_true, or_self,
    if_false]
  rw [if_neg hregion, if_neg hfloor, if_neg hring]

end

/-! ### Arrivals (05 R158, R162, R174, R191; 06 R206) -/

section
variable {s : State} {c e pos : Nat} {x : Stream} {r : FarReq} (first again : BitVec 288) (ha : alive s = true)
  (hx : (streamEng c e s).run = some x) (hr : x.inFlight.find? (fun r => r.pos == pos && !x.write) = some r)
  (hsnoop : needsSnoop true (nearDevice c x.nearFloor (nearPos x pos)) s = false)
  (hgone : ((unitOf (r.far.getD 0)).isSome && unitGone ((unitOf (r.far.getD 0)).getD 0) s) = false)
include ha hx hr hsnoop hgone

theorem exec_sectorArrival_lands {d : BitVec 256} {k : Nat} (hd : decodeSector (disturb r.sector first) = .ok d k) :
    exec (.sectorArrival c e pos first again) s = .next (framed (landSector c e pos (some r.off) (disturb r.sector first)
      (modRun c e (fun y => { y with inFlight := y.inFlight.filter fun q => q.pos != pos }) s)) s) := by
  simp only [exec, execSectorArrival]
  rw [run_alive _ _ ha]
  simp only [hx, hr, hsnoop, unitGone_modRun, hgone, hd, Bool.false_eq_true, if_false]

/-- A sector that is uncorrectable as read and as reread ends the task, and the finding is confirmed. -/
theorem exec_sectorArrival_bad (hd : decodeSector (disturb r.sector first) = .bad)
    (hd' : decodeSector (disturb (rdSector (r.far.getD 0) s) again) = .bad) :
    exec (.sectorArrival c e pos first again) s = .next (framed (faultStream c e 0x2302 (offValue r.off) x.faultTensor
      (offValue r.off) (confirmBad (r.far.getD 0)
        (modRun c e (fun y => { y with inFlight := y.inFlight.filter fun q => q.pos != pos }) s))) s) := by
  simp only [exec, execSectorArrival]
  rw [run_alive _ _ ha]
  simp only [hx, hr, hsnoop, unitGone_modRun, rdSector_modRun, hgone, hd, hd', Bool.false_eq_true, if_false]

end

/-! ### Writes sent and accepted (05 R156, R158, R165, R172, R179) -/

section
variable {s : State} {c e n : Nat} {x : Stream} (ha : alive s = true) (hx : (streamEng c e s).run = some x)
  (hw : x.write = true)
include ha hx hw

/-- The oldest produced sector not yet sent goes to the offset named next, unless software froze the writes there. -/
theorem exec_streamWriteSend_sends {off : Int} {rest : List (Option Int)} (hp : (coreOf c s).preempting = false)
    (hh : x.held = false) (hs : x.suspended = false) (hstop : x.stopped = false ∨ writeSettled x = false)
    (hprod : x.sent < x.produced) (htodo : x.todo = some off :: rest) (hroom : x.fill = false ∨ x.sent < x.size)
    (hfar : farSector x off s = some n) (hfrozen : frozenAt 4 n s = false) :
    exec (.streamWriteSend c e) s = .next (framed (skipNulls c e (x.inFlight.length + 1) (modRun c e (fun y => { y with
      todo := rest, sent := y.sent + 1, requested := y.requested + 1, inFlight := y.inFlight ++ [{ FarReq.init with
        pos := x.sent, far := some n, off := off, sector := rdSector (nearDevice c x.nearFloor (nearPos x x.sent)) s }] })
      s)) s) := by
  have hends : (x.stopped && writeSettled x) = false := Bool.and_eq_false_iff.mpr hstop
  have hnext : ¬ (x.produced ≤ x.sent ∧ (x.fill = false ∨ x.stopped = true ∨ x.total ≤ x.sent)) := by omega
  have hregion : ¬ (x.fill = true ∧ x.size ≤ x.sent) := by
    rintro ⟨hfill, hpast⟩
    rcases hroom with hring | hleft
    · simp [hfill] at hring
    · omega
  simp only [exec, execStreamWriteSend]
  rw [run_alive _ _ ha, engineStep_runs _ hp hx hh hs]
  simp only [hw, hends, htodo, hx, hfar, hfrozen, List.isEmpty_cons, Bool.true_eq_false, Bool.false_eq_true, if_false]
  rw [if_neg hnext, if_neg hregion]

/-- The oldest sector sent is stored at the far end, and its ring sector is freed. -/
theorem exec_writeAccepted_stores {r : FarReq} {rest : List FarReq} (hr : x.inFlight = r :: rest) (hfar : r.far = some n)
    (hheld : accessHeld n s = false) (hsnoop : needsSnoop true n s = false)
    (hgone : ((unitOf n).isSome && unitGone ((unitOf n).getD 0) (streamGoes c e s)) = false) :
    exec (.writeAccepted c e) s = .next (framed (skipNulls c e x.inFlight.length (acceptedOne c e
      (noteFar c n x (fullWrite n r.sector (streamGoes c e s))))) s) := by
  simp only [exec, execWriteAccepted]
  rw [run_alive _ _ ha]
  simp only [hx, hr, hfar, hw, hheld, hsnoop, hgone, Bool.true_eq_false, Bool.false_eq_true, if_false]

end

end Sys2Proof.Machine

open Sys2Proof Sys2Proof.Machine

/-- Settles O36: each command of a stream by its row, on the state that issuing it leaves. -/
theorem streamsStartAndStop : Obligations.StreamsStartAndStop := by
  refine ⟨fun s t u c w x ha hi hl hop hb hq hr hhdr hprog hov => ?_,
    fun s t u c w x ha hi hl hop hb hq hr hbroken => exec_streamStart_aborts ha hi hl hop hb hq hr hbroken,
    fun s t c w x ha hi hl hop hb hx hw => exec_streamStop_read ha hi hl hop hb hx hw,
    fun s t c w x ha hi hl hop hb hx hw hh hset => exec_streamStop_write ha hi hl hop hb hx hw hh hset,
    fun s op c e x k hk ha hp hx hh hs hkind hend htodo _ hop => exec_apRow_steps ha hx hk hp hh hs hkind hend htodo hop,
    fun s c e x ha hx hh hhere hq => exec_streamHeldRelease_starts ha hx hh hhere hq⟩
  have hlegal : ¬ startBroken c x u := by simp [startBroken, hhdr, hprog, hov]
  exact exec_streamStart_queues ha hi hl hop hb hq hr hlegal

/-- Settles O38: the rows that move a stream's sectors, in the order a sector meets them. -/
theorem streamsMoveSectors : Obligations.StreamsMoveSectors :=
  ⟨fun s _ _ _ ha => run_alive _ s ha,
    fun _ _ _ _ _ _ _ hp hx hh hs hw hstop _ htodo hroom hfloor hfar hheld hfrozen hsnoop =>
      farRequest_sends hp hx hh hs hw hstop htodo hroom hfloor hfar hheld hfrozen hsnoop,
    fun _ _ _ _ _ _ _ _ first again ha hx hr hsnoop hgone hd =>
      exec_sectorArrival_lands first again ha hx hr hsnoop hgone hd,
    fun _ _ _ _ _ _ first again ha hx hr hsnoop hgone hd hd' =>
      exec_sectorArrival_bad first again ha hx hr hsnoop hgone hd hd',
    fun _ _ _ _ _ _ _ ha hp hx hh hs hw hstop hprod _ htodo hroom hfar hfrozen =>
      exec_streamWriteSend_sends ha hx hw hp hh hs hstop hprod htodo hroom hfar hfrozen,
    fun _ _ _ _ _ _ _ _ ha hx hr hfar hw hheld hsnoop hu hgone => by
      subst hu
      exact exec_writeAccepted_stores ha hx hw hr hfar hheld hsnoop hgone⟩
end

section
/-! PROOF. Stored sectors: a sector written reads back, and every other sector and byte reads as before (06 R195, R203). -/

namespace Sys2Proof.Machine

open Sys2Proof

/-! ### Bytes of a word -/

theorem leBytes_succ (n x : Nat) : leBytes (n + 1) x = BitVec.ofNat 8 x :: leBytes n (x / 256) := by
  simp only [leBytes, List.range_succ_eq_map, List.map_cons, List.map_map, Nat.mul_zero, Nat.pow_zero, Nat.div_one]
  congr 1
  refine List.map_congr_left fun i _ => ?_
  simp only [Function.comp_apply]
  rw [Nat.div_div_eq_div_mul, Nat.mul_succ, Nat.pow_add, Nat.mul_comm (2 ^ (8 * i))]

@[simp] theorem leBytes_length (n x : Nat) : (leBytes n x).length = n := by simp [leBytes]

/-- The bytes of a word, lowest first, are the word as far as they go. -/
theorem ofLeBytes_leBytes (n x : Nat) : ofLeBytes (leBytes n x) = x % 256 ^ n := by
  induction n generalizing x with
  | zero => simp [leBytes, ofLeBytes, Nat.mod_one]
  | succ n ih => 
    rw [leBytes_succ, ofLeBytes, ih, BitVec.toNat_ofNat, Nat.pow_succ' (n := n), Nat.mod_mul (b := 256 ^ n)]

/-! ### Bytes put into a cell list -/

/-- A byte outside those put into a list reads as before. -/
theorem spGet_putBytes_outside (bs : List Byte) (k j : Nat) (m : List Host.Cell) (hm : spSorted m = true)
    (hj : j < k ∨ k + bs.length ≤ j) : spGet 0 (putBytes k bs m) j = spGet 0 m j := by
  induction bs generalizing k m with
  | nil => rfl
  | cons b bs ih =>
    rw [List.length_cons] at hj
    rw [putBytes, ih _ _ (spSet_sorted _ _ _ _ hm) (by omega), spGet_set_ne _ _ _ _ _ _ hm (by omega)]

/-- The bytes put into a list read back from its first key on. -/
theorem map_spGet_putBytes (bs : List Byte) (k : Nat) (m : List Host.Cell) (hm : spSorted m = true) :
    (List.range bs.length).map (fun i => spGet 0 (putBytes k bs m) (k + i)) = bs := by
  induction bs generalizing k m with
  | nil => rfl
  | cons b bs ih =>
    have hs := spSet_sorted 0 k b m hm
    simp only [List.length_cons, List.range_succ_eq_map, List.map_cons, List.map_map, Nat.add_zero]
    congr 1
    · rw [putBytes, spGet_putBytes_outside _ _ _ _ hs (by omega), spGet_set_self _ _ _ _ hm]
    · calc _ = (List.range bs.length).map (fun i => spGet 0 (putBytes (k + 1) bs (spSet 0 k b m)) (k + 1 + i)) :=
            List.map_congr_left fun i _ => by rw [Function.comp_apply, Nat.succ_eq_add_one, Nat.add_comm i, Nat.add_assoc, putBytes]
        _ = bs := ih _ _ hs

/-! ### Undefined ranges -/

/-- An undefined range covers a byte. -/
def Undef.covers (a : Nat) (u : Undef) : Bool := decide (u.start ≤ a ∧ a < u.start + u.len)

/-- An undefined range reaches into the sector at `n`. -/
def Undef.meets (n : Nat) (u : Undef) : Bool := decide (u.start < 32 * n + 32 ∧ 32 * n < u.start + u.len)

/-- The part of an undefined range below the byte `lo`. -/
def Undef.below (lo : Nat) (u : Undef) : List Undef :=
  if u.start < lo then [{ u with len := min (u.start + u.len) lo - u.start }] else []

/-- The part of an undefined range from the byte `hi` on. -/
def Undef.above (hi : Nat) (u : Undef) : List Undef :=
  if hi < u.start + u.len then [{ u with start := max u.start hi, len := u.start + u.len - max u.start hi }] else []

/-- Carving leaves of each range the part below and the part above. -/
theorem carve_cons (a len : Nat) (u : Undef) (us : List Undef) :
    carve a len (u :: us) = u.below a ++ u.above (a + len) ++ carve a len us := rfl

theorem undefSeed_cons (u : Undef) (us : List Undef) (a : Nat) :
    undefSeed (u :: us) a = if u.covers a then some u.seed else undefSeed us a := by
  have hcovers : decide (u.start ≤ a ∧ a < u.start + u.len) = u.covers a := rfl
  simp only [undefSeed, List.find?_cons, hcovers]
  cases u.covers a <;> rfl

theorem undefSeed_append (us vs : List Undef) (a : Nat) : undefSeed (us ++ vs) a = (undefSeed us a).or (undefSeed vs a) := by
  simp only [undefSeed, List.find?_append, Option.map_or]

theorem undefSeed_below (u : Undef) (lo a : Nat) :
    undefSeed (u.below lo) a = if a < lo ∧ u.covers a then some u.seed else none := by
  simp only [Undef.below, Undef.covers, decide_eq_true_eq]
  split
  · rw [undefSeed_cons]
    simp only [Undef.covers, decide_eq_true_eq]
    exact if_congr (by omega) rfl rfl
  · exact (if_neg (by omega)).symm

theorem undefSeed_above (u : Undef) (hi a : Nat) :
    undefSeed (u.above hi) a = if hi ≤ a ∧ u.covers a then some u.seed else none := by
  simp only [Undef.above, Undef.covers, decide_eq_true_eq]
  split
  · rw [undefSeed_cons]
    simp only [Undef.covers, decide_eq_true_eq]
    exact if_congr (by omega) rfl rfl
  · exact (if_neg (by omega)).symm

/-- No byte carved out is undefined any more. -/
theorem undefSeed_carve_inside (us : List Undef) (lo len a : Nat) (hlo : lo ≤ a) (hhi : a < lo + len) :
    undefSeed (carve lo len us) a = none := by
  induction us with
  | nil => rfl
  | cons u us ih =>
    rw [carve_cons, undefSeed_append, undefSeed_append, undefSeed_below, undefSeed_above, ih, if_neg (by omega),
      if_neg (by omega)]
    rfl

/-- A byte not carved out is as undefined as before. -/
theorem undefSeed_carve_outside (us : List Undef) (lo len a : Nat) (h : a < lo ∨ lo + len ≤ a) :
    undefSeed (carve lo len us) a = undefSeed us a := by
  induction us with
  | nil => rfl
  | cons u us ih =>
    rw [carve_cons, undefSeed_append, undefSeed_append, undefSeed_below, undefSeed_above, ih, undefSeed_cons]
    rcases h with h | h
    · rw [if_neg (c := lo + len ≤ a ∧ _) (by omega)]
      cases u.covers a <;> simp [h]
    · rw [if_neg (c := a < lo ∧ _) (by omega)]
      cases u.covers a <;> simp [h]

/-- Below sector `n`, the sectors a range meets are those it met. -/
theorem any_meets_below (u : Undef) (n m : Nat) : (u.below (32 * n)).any (Undef.meets m) = (decide (m < n) && u.meets m) := by
  rw [Bool.eq_iff_iff]
  simp only [Undef.below, Undef.meets, Bool.and_eq_true, decide_eq_true_eq]
  split
  · simp only [List.any_cons, List.any_nil, Bool.or_false, Undef.meets, decide_eq_true_eq]
    omega
  · simp only [List.any_nil, Bool.false_eq_true, false_iff]
    omega

/-- Above sector `n`, the sectors a range meets are those it met. -/
theorem any_meets_above (u : Undef) (n m : Nat) :
    (u.above (32 * n + 32)).any (Undef.meets m) = (decide (n < m) && u.meets m) := by
  rw [Bool.eq_iff_iff]
  simp only [Undef.above, Undef.meets, Bool.and_eq_true, decide_eq_true_eq]
  split
  · simp only [List.any_cons, List.any_nil, Bool.or_false, Undef.meets, decide_eq_true_eq]
    omega
  · simp only [List.any_nil, Bool.false_eq_true, false_iff]
    omega

/-- Carved out of sector `n`, the undefined ranges meet the sectors they met, but for `n`. -/
theorem any_meets_carve (us : List Undef) (n m : Nat) :
    (carve (32 * n) 32 us).any (Undef.meets m) = (decide (m ≠ n) && us.any (Undef.meets m)) := by
  induction us with
  | nil => simp [carve]
  | cons u us ih =>
    have hside : decide (m ≠ n) = (decide (m < n) || decide (n < m)) := by
      rw [Bool.eq_iff_iff]
      simp only [Bool.or_eq_true, decide_eq_true_eq]
      omega
    rw [carve_cons, List.any_append, List.any_append, any_meets_below, any_meets_above, ih, List.any_cons,
      ← Bool.and_or_distrib_right, ← hside, ← Bool.and_or_distrib_left]

/-! ### Sectors and bytes -/

theorem rdSector_eq (n : Nat) (s : State) : rdSector n s =
    if s.mem.undef.any (Undef.meets n) then encodeSector (BitVec.ofNat 256 (ofLeBytes (rdBytes (32 * n) 32 s)))
    else ⟨BitVec.ofNat 256 (ofLeBytes (rdBytes (32 * n) 32 s)),
      BitVec.ofNat 32 (ofLeBytes ((List.range 4).map fun i => spGet 0 s.mem.check (4 * n + i)))⟩ := rfl

section

variable {n : Nat} {x : Sector} {s : State} (hs : Memory.wf s.mem = true)

include hs

theorem cells_sorted : spSorted s.mem.cells = true := by
  simp only [Memory.wf, Bool.and_eq_true] at hs
  exact spWf_sorted _ _ hs.1

theorem check_sorted : spSorted s.mem.check = true := by
  simp only [Memory.wf, Bool.and_eq_true] at hs
  exact spWf_sorted _ _ hs.2

/-- A byte outside the sector written reads as before. -/
theorem rdByte_wrSector_ne {a : Nat} (ha : a / 32 ≠ n) : rdByte a (wrSector n x s) = rdByte a s := by
  have hout : a < 32 * n ∨ 32 * n + 32 ≤ a := by omega
  have hcell := spGet_putBytes_outside (leBytes 32 x.data.toNat) (32 * n) a s.mem.cells (cells_sorted hs) (by simpa using hout)
  simp only [rdByte, wrSector, undefSeed_carve_outside _ _ _ _ hout, hcell]

/-- The bytes of the sector written are those of its data. -/
theorem rdBytes_wrSector_self : rdBytes (32 * n) 32 (wrSector n x s) = leBytes 32 x.data.toNat := by
  have hback := map_spGet_putBytes (leBytes 32 x.data.toNat) (32 * n) s.mem.cells (cells_sorted hs)
  rw [leBytes_length] at hback
  refine (List.map_congr_left fun i hi => ?_).trans hback
  have hi := List.mem_range.mp hi
  simp only [rdByte, wrSector, undefSeed_carve_inside s.mem.undef (32 * n) 32 (32 * n + i) (by omega) (by omega)]

/-- A sector written reads back, check bytes included. -/
theorem rdSector_wrSector_self : rdSector n (wrSector n x s) = x := by
  have hundef : (wrSector n x s).mem.undef.any (Undef.meets n) = false := by
    simp only [wrSector, any_meets_carve, ne_eq, not_true, decide_false, Bool.false_and]
  have hcheck := map_spGet_putBytes (leBytes 4 x.chk.toNat) (4 * n) s.mem.check (check_sorted hs)
  rw [leBytes_length] at hcheck
  have hchk : (List.range 4).map (fun i => spGet 0 (wrSector n x s).mem.check (4 * n + i)) = leBytes 4 x.chk.toNat := hcheck
  rw [rdSector_eq, hundef, hchk, rdBytes_wrSector_self hs, ofLeBytes_leBytes, ofLeBytes_leBytes, if_neg Bool.false_ne_true,
    Nat.mod_eq_of_lt (show _ < 256 ^ 32 from x.data.isLt), Nat.mod_eq_of_lt (show _ < 256 ^ 4 from x.chk.isLt),
    BitVec.ofNat_toNat, BitVec.ofNat_toNat, BitVec.setWidth_eq, BitVec.setWidth_eq]

/-- Every other sector reads as before, check bytes and undefined bytes included. -/
theorem rdSector_wrSector_ne {m : Nat} (hm : m ≠ n) : rdSector m (wrSector n x s) = rdSector m s := by
  have hundef : (wrSector n x s).mem.undef.any (Undef.meets m) = s.mem.undef.any (Undef.meets m) := by
    simp only [wrSector, any_meets_carve, ne_eq, hm, not_false_eq_true, decide_true, Bool.true_and]
  have hdata : rdBytes (32 * m) 32 (wrSector n x s) = rdBytes (32 * m) 32 s :=
    List.map_congr_left fun i hi => rdByte_wrSector_ne hs (by have := List.mem_range.mp hi; omega)
  have hchk : (List.range 4).map (fun i => spGet 0 (wrSector n x s).mem.check (4 * m + i)) =
      (List.range 4).map (fun i => spGet 0 s.mem.check (4 * m + i)) :=
    List.map_congr_left fun i hi => spGet_putBytes_outside _ _ _ _ (check_sorted hs) (by
      have := List.mem_range.mp hi
      rw [leBytes_length]
      omega)
  rw [rdSector_eq, rdSector_eq, hundef, hdata, hchk]

end

end Sys2Proof.Machine

open Sys2Proof Sys2Proof.Machine

/-- Settles O23: the cells, the check bytes and the undefined ranges each read back what the write put there. -/
theorem sectorsKeepWhatIsWritten : Obligations.SectorsKeepWhatIsWritten :=
  fun s n x hs => ⟨rdSector_wrSector_self hs, fun _ hm => rdSector_wrSector_ne hs hm, fun _ ha => rdByte_wrSector_ne hs ha,
    wrSector_wf n x s hs⟩
end

section
/-! PROOF. Which commands store nothing: what time, doorbells, links, power, the recorder and error handling do to the state leaves
the memory as it is, operation by operation (06 R193, R195). -/

namespace Sys2Proof.Machine

open Sys2Proof

/-! ### Combinators -/

@[simp] theorem onlyIf_mem (b : Bool) (f : State → State) (s : State) :
    (onlyIf b f s).mem = if b then (f s).mem else s.mem := apply_ite State.mem _ _ _

theorem forEach_mem {α : Type} (l : List α) (f : α → State → State) (s : State) (h : ∀ a t, (f a t).mem = t.mem) :
    (forEach l f s).mem = s.mem := forEach_keeps State.mem l f h s

@[simp] theorem bumpBy_mem (n : Nat) (r : RegId) (s : State) : (bumpBy n r s).mem = s.mem := by
  simp only [bumpBy]
  split
  · rfl
  · split <;> rfl

@[simp] theorem bump_mem (r : RegId) (s : State) : (bump r s).mem = s.mem := bumpBy_mem 1 r s

/-! ### Figures, the clock and its sources (02 R26 to R43) -/

@[simp] theorem flagAdvance_mem (flag outcome : Nat) (s : State) : (flagAdvance flag outcome s).mem = s.mem := by
  simp only [flagAdvance]
  split
  · rfl
  · exact wr_mem _ _ _

@[simp] theorem flagEnd_mem (flag entry outcome : Nat) (s : State) : (flagEnd flag entry outcome s).mem = s.mem :=
  flagAdvance_mem _ _ _

@[simp] theorem endFigure_mem (e outcome : Nat) (s : State) : (endFigure e outcome s).mem = s.mem := by
  unfold endFigure
  split
  · rfl
  · exact flagEnd_mem _ _ _ _

@[simp] theorem tick_mem (slew : Slew) (s : State) : (tick slew s).mem = s.mem := by
  simp only [tick]
  split
  · rfl
  · split <;> rfl

@[simp] theorem stepCount_mem (s : State) : (stepCount s).mem = s.mem := by
  simp only [stepCount]
  split
  · rfl
  · split <;> rfl

@[simp] theorem setServo_mem (v : Servo) (s : State) : (setServo v s).mem = s.mem := by
  have hfails : (forEach ((List.range 64).filter fun k => (linkOf k s).asymCal) asymFails s).mem = s.mem :=
    forEach_mem _ _ s fun _ _ => rfl
  simp only [setServo, wr_mem, onlyIf_mem, hfails, ite_self]

@[simp] theorem sourceLost_mem (s : State) : (sourceLost s).mem = s.mem := by
  simp only [sourceLost]
  split
  · rfl
  · split
    · exact setServo_mem .holdover _
    · rfl

@[simp] theorem sendPtp_mem (sync : Bool) (s : State) : (sendPtp sync s).mem = s.mem := forEach_mem _ _ s fun _ _ => rfl

@[simp] theorem saveDue_mem (ks : List Nat) (s : State) : (saveDue ks s).mem = s.mem := rfl

/-! ### The host's queues and link (12 R427, R436) -/

@[simp] theorem fireVector_mem (q : Nat) (s : State) : (fireVector q s).mem = s.mem := forEach_mem _ _ s fun _ _ => rfl

@[simp] theorem releaseStaging_mem (s : State) : (releaseStaging s).mem = s.mem := by
  simp only [releaseStaging]
  split <;> rfl

@[simp] theorem hostLinkDown_mem (s : State) : (hostLinkDown s).mem = s.mem := by
  simp only [hostLinkDown]
  split
  · rfl
  · split
    · split
      · exact releaseStaging_mem _
      · rfl
    · rfl

/-! ### Links and flits (10 R353 to R376) -/

@[simp] theorem returnCredit_mem (k : Nat) (f : Flit) (s : State) : (returnCredit k f s).mem = s.mem := by
  simp only [returnCredit]
  split <;> rfl

@[simp] theorem discardFlit_mem (code : Nat) (f : Flit) (s : State) : (discardFlit code f s).mem = s.mem := by
  simp only [discardFlit, emit_mem]
  split <;> simp only [bump_mem]

@[simp] theorem route_mem (k : Nat) (f : Flit) (s : State) : (route k f s).mem = s.mem := by
  simp only [route]
  split
  · rfl
  · split
    · exact discardFlit_mem _ _ _
    · split
      · exact discardFlit_mem _ _ _
      · split
        · exact discardFlit_mem _ _ _
        · split
          · exact discardFlit_mem _ _ _
          · simp only [queueFlit_mem, onlyIf_mem, bump_mem, ite_self]

@[simp] theorem routeOrWait_mem (k : Nat) (f : Flit) (s : State) : (routeOrWait k f s).mem = s.mem := by
  simp only [routeOrWait]
  split
  · rfl
  · split
    · rw [returnCredit_mem, route_mem]
    · exact route_mem _ _ _

@[simp] theorem startTraining_mem (k : Nat) (s : State) : (startTraining k s).mem = s.mem := rfl

@[simp] theorem collLoss_mem (k : Nat) (lost : List Flit) (c : Coll) (i : Nat) (s : State) :
    (collLoss k lost c i s).mem = s.mem := by
  unfold collLoss
  split
  · rfl
  · dsimp only
    split
    · split
      · split
        · simp only [emit_mem, bump_mem]
          exact forEach_mem _ _ s fun _ _ => rfl
        · simp only [emit_mem, bump_mem]
      · rfl
    · rfl

@[simp] theorem linkDown_mem (k reason : Nat) (s : State) : (linkDown k reason s).mem = s.mem := by
  simp only [linkDown]
  rw [forEach_mem _ _ _ fun f t => routeOrWait_mem 64 f t, forEach_mem _ _ _ fun c t => forEach_mem _ _ t fun i u =>
    collLoss_mem k _ c i u, onlyIf_mem, emit_mem, emit_mem, ite_self, bump_mem, modLink_mem]

@[simp] theorem darken_mem (k reason : Nat) (s : State) : (darken k reason s).mem = s.mem := by
  simp only [darken, modLink_mem, dropLink]
  split
  · exact linkDown_mem _ _ _
  · rfl

@[simp] theorem lightLinks_mem (s : State) : (lightLinks s).mem = s.mem :=
  forEach_mem _ _ s fun k t => by rw [onlyIf_mem, startTraining_mem, ite_self]

@[simp] theorem ringNext_mem (k : Nat) (s : State) : (ringNext k s).mem = s.mem := by
  unfold ringNext
  split
  · rfl
  · dsimp only
    split
    · rfl
    · split
      · split
        · rfl
        · exact endFigure_mem _ _ _
      · rfl

@[simp] theorem announceHold_mem (k : Nat) (s : State) : (announceHold k s).mem = s.mem := rfl

@[simp] theorem trainedLink_mem (k farNode farLink rtt farBuffer : Nat) (s : State) :
    (trainedLink k farNode farLink rtt farBuffer s).mem = s.mem := by
  simp only [trainedLink, onlyIf_mem, emit_mem, ite_self]
  split
  · simp only [onlyIf_mem, sourceLost_mem, ite_self, emit_mem, saveDue_mem, wr_mem, modLink_mem]
  · rfl

/-! ### Memory control (07 R234 to R261) -/

@[simp] theorem answerMem_mem (unit word status : Nat) (x : Option Sector) (r : Option (BitVec 64)) (s : State) :
    (answerMem unit word status x r s).mem = s.mem := rfl

@[simp] theorem setThermal_mem (u v : Nat) (s : State) : (setThermal u v s).mem = s.mem := rfl

/-! ### Power (16 R536 to R556) -/

@[simp] theorem startChange_mem (target cause : Nat) (s : State) : (startChange target cause s).mem = s.mem := by
  simp only [startChange]
  split
  · rfl
  · split <;> rfl

@[simp] theorem endSurge_mem (cause target : Nat) (s : State) : (endSurge cause target s).mem = s.mem := by
  simp only [endSurge]
  split
  · rfl
  · exact startChange_mem _ _ _

@[simp] theorem setPoint_mem (point : Nat) (s : State) : (setPoint point s).mem = s.mem := rfl

@[simp] theorem clampEnds_mem (ns : Nat) (s : State) : (clampEnds ns s).mem = s.mem := by simp [clampEnds]

@[simp] theorem asymFails_mem (k : Nat) (s : State) : (asymFails k s).mem = s.mem := rfl

@[simp] theorem surgeOver_mem (s : State) : (surgeOver s).mem = s.mem := by
  rw [surgeOver, onlyIf_mem, endSurge_mem, ite_self]

@[simp] theorem surgeSpent_mem (s : State) : (surgeSpent s).mem = s.mem := by
  rw [surgeSpent, onlyIf_mem, endSurge_mem, ite_self]

@[simp] theorem setGap_mem (gap : Nat) (s : State) : (setGap gap s).mem = s.mem := by simp [setGap]

@[simp] theorem countThrottle_mem (gap : Nat) (low : Bool) (s : State) : (countThrottle gap low s).mem = s.mem := rfl

@[simp] theorem throttleChange_mem (s : State) : (throttleChange s).mem = s.mem := by
  simp only [throttleChange]
  split
  · exact startChange_mem _ _ _
  · split
    · exact startChange_mem _ _ _
    · rfl

@[simp] theorem coolantRead_mem (inlet outlet : BitVec 16) (flow : Option Nat) (s : State) :
    (coolantRead inlet outlet flow s).mem = s.mem := rfl

@[simp] theorem flowRule_mem (flow : Nat) (s : State) : (flowRule flow s).mem = s.mem := by
  unfold flowRule
  extract_lets t
  split
  · rfl
  · split <;> rfl

@[simp] theorem inletRule_mem (inlet : BitVec 16) (s : State) : (inletRule inlet s).mem = s.mem := by simp [inletRule]

@[simp] theorem showBudget_mem (s : State) : (showBudget s).mem = s.mem := rfl

@[simp] theorem keepLedger_mem (l : Ledger) (s : State) : (keepLedger l s).mem = s.mem := by simp [keepLedger]

/-! ### The recorder, telemetry and the saved image (15 R495 to R526; 13 R471) -/

@[simp] theorem flushSnapshot_mem (s : State) : (flushSnapshot s).mem = s.mem := by
  unfold flushSnapshot
  split
  · rfl
  · split
    · rfl
    · split <;> rfl

@[simp] theorem nextFlush_mem (s : State) : (nextFlush s).mem = s.mem := rfl

@[simp] theorem flushComplete_mem (ok : Bool) (s : State) : (flushComplete ok s).mem = s.mem := by
  unfold flushComplete
  split
  · rfl
  · split
    · rfl
    · dsimp only
      split
      · simp
      · split
        · rfl
        · rfl

@[simp] theorem slotErase_mem (s : State) : (slotErase s).mem = s.mem := by
  unfold slotErase
  extract_lets slots erased running cand seqOf
  split
  · rfl
  · split <;> rfl

@[simp] theorem telemetrySample_mem (volts amps watts : BitVec 16) (engines : List (BitVec 16)) (s : State) :
    (telemetrySample volts amps watts engines s).mem = s.mem := by
  simp only [telemetrySample]
  split
  · exact bump_mem _ _
  · rfl

@[simp] theorem writeImage_mem (ok : Bool) (s : State) : (writeImage ok s).mem = s.mem := by
  cases ok
  · rfl
  · exact bump_mem _ _

@[simp] theorem drawFree_mem (s : State) : (drawFree s).2.mem = s.mem := rfl

@[simp] theorem dropResponse_mem (f : Flit) (s : State) : (dropResponse f s).mem = s.mem := rfl

/-! ### Error handling (14 R488) -/

@[simp] theorem showHandling_mem (s : State) : (showHandling s).mem = s.mem := rfl

@[simp] theorem takeError_mem (e : ErrEntry) (s : State) : (takeError e s).mem = s.mem := rfl

/-! ### Commands -/

/-- The command answers a next state with the memory of `s`. -/
def KeepsMem (o : Host.Outcome State Fault Refusal) (s : State) : Prop := ∃ t, o = .next t ∧ t.mem = s.mem

theorem keepsMem_run (f : State → State) (s : State) (h : (f s).mem = s.mem) : KeepsMem (run f s) s := by
  refine ⟨_, rfl, ?_⟩
  split
  · exact h
  · rfl

theorem keepsMem_runClk (f : State → State) (s : State) (h : (f s).mem = s.mem) : KeepsMem (runClk f s) s := by
  refine ⟨_, rfl, ?_⟩
  split
  · exact h
  · rfl

theorem keepsMem_runAny (f : State → State) (s : State) (h : (f s).mem = s.mem) : KeepsMem (runAny f s) s := ⟨_, rfl, h⟩

theorem execBufferLinkReplay_keepsMem (buffer : Nat) (s : State) : KeepsMem (execBufferLinkReplay buffer s) s :=
  keepsMem_run _ s (forEach_mem _ _ s fun _ t => bump_mem _ t)

/-- Whatever ledger `f` charges: the kernel then never evaluates a second's wear. -/
theorem run_keepLedger_keepsMem (f : State → Ledger) (s : State) :
    KeepsMem (run (fun t => surgeSpent (keepLedger (f t) t)) s) s :=
  keepsMem_run (fun t => surgeSpent (keepLedger (f t) t)) s (by rw [surgeSpent_mem, keepLedger_mem])

theorem execWearCharge_keepsMem (temp : BitVec 16) (s : State) : KeepsMem (execWearCharge temp s) s :=
  run_keepLedger_keepsMem (fun t => wearSecond (rd Obj.OP_POINT t) (toSigned 16 temp.toNat) t.pow.ledger) s

theorem execFlowEstimate_keepsMem (watts inlet outlet : BitVec 16) (valid : Bool) (s : State) :
    KeepsMem (execFlowEstimate watts inlet outlet valid s) s := by
  unfold execFlowEstimate
  refine keepsMem_run _ s ?_
  split
  · rw [showBudget_mem, inletRule_mem, flowRule_mem, coolantRead_mem]
  · rw [showBudget_mem, coolantRead_mem]

theorem execLaserBiasCheck_keepsMem (engine wavelength bias : Nat) (holds : Bool) (s : State) :
    KeepsMem (execLaserBiasCheck engine wavelength bias holds s) s := by
  unfold execLaserBiasCheck
  refine keepsMem_run _ s ?_
  dsimp only
  split
  · simp only [lightLinks_mem, modEngine_mem, onlyIf_mem, emit_mem, ite_self]
  · rw [forEach_mem _ _ _ fun k t => by rw [onlyIf_mem, darken_mem, ite_self]]
    simp only [modEngine_mem, onlyIf_mem, emit_mem, ite_self]

theorem execRingCalLink_keepsMem (link : Nat) (s : State) : KeepsMem (execRingCalLink link s) s := by
  unfold execRingCalLink
  refine keepsMem_run _ s ?_
  split
  · rfl
  · split
    · split
      · exact endFigure_mem _ _ _
      · rfl
    · simp only [apply_ite State.mem, announceHold_mem, ringNext_mem, ite_self]

/-- Every command that `storesNothing` names runs in a frame, and its effect touches the memory nowhere. -/
theorem exec_keepsMem (c : Instr) (s : State) (h : storesNothing c = true) : KeepsMem (exec c s) s := by
  cases c with
  | tick | countStep | countHoldRelease =>
    simp only [exec, execTick, execCountStep, execCountHoldRelease]
    exact keepsMem_runClk _ _ (by simp [apply_ite State.mem])
  | flushSnapshot | flushComplete | dynamicAddressAssignment =>
    simp only [exec, execFlushSnapshot, execFlushComplete, execDynamicAddressAssignment]
    exact keepsMem_runAny _ _ (by simp [apply_ite State.mem])
  | syncIntervalTimeout | ppsMissingTimeout | holdoverLimit | ppsOutRise | ppsOutFall | ptpSyncSend | announceSend =>
    simp only [exec, execSyncIntervalTimeout, execPpsMissingTimeout, execHoldoverLimit, execPpsOutRise, execPpsOutFall,
      execPtpSyncSend, execAnnounceSend]
    exact keepsMem_run _ _ (by simp [apply_ite State.mem])
  | coalesceTimeout | hdmDecoderCommit | hostRequestLate | cxlLaneFailure | stageIdleExpire | savedImageWrite =>
    simp only [exec, execCoalesceTimeout, execHdmDecoderCommit, execHostRequestLate, execCxlLaneFailure, execStageIdleExpire,
      execSavedImageWrite]
    exact keepsMem_run _ _ (by simp [apply_ite State.mem])
  | alignmentLost | scrcTimeout | trainingTimeout | linkRetryTimer | linkUsableTimer | linkTrainingComplete | holdEnd
  | holdTimeout | asymCalEnd =>
    simp only [exec, execAlignmentLost, execScrcTimeout, execTrainingTimeout, execLinkRetryTimer, execLinkUsableTimer,
      execLinkTrainingComplete, execHoldEnd, execHoldTimeout, execAsymCalEnd]
    exact keepsMem_run _ _ (by simp [apply_ite State.mem])
  | regRead | regWrite | marginCheck | patrolPeriodEnd | binBoundary =>
    simp only [exec, execRegRead, execRegWrite, execMarginCheck, execPatrolPeriodEnd, execBinBoundary]
    exact keepsMem_run _ _ (by simp [apply_ite State.mem])
  | surgeMaxContinuous | powerSample | throttlePeriod | clampEngage | clampRelease | voltageOutOfRange
  | ledgerWrite | slotErase | telemetrySample | handlerEntryDone | firmwareRestartDone =>
    simp only [exec, execSurgeMaxContinuous, execPowerSample, execThrottlePeriod, execClampEngage, execClampRelease,
      execVoltageOutOfRange, execLedgerWrite, execSlotErase, execTelemetrySample, execHandlerEntryDone,
      execFirmwareRestartDone]
    exact keepsMem_run _ _ (by simp [apply_ite State.mem])
  | sqDoorbell | cqHeadDoorbell | thermalHotExit | coreRailRaised | pointClockSwitch | dictResponseDrop | handlerEntry
  | reportBuilt =>
    simp only [exec, execSqDoorbell, execCqHeadDoorbell, execThermalHotExit, execCoreRailRaised, execPointClockSwitch,
      execDictResponseDrop, execHandlerEntry, execReportBuilt]
    exact keepsMem_run _ _ (by split <;> simp [apply_ite State.mem])
  | bufferLinkReplay => exact execBufferLinkReplay_keepsMem _ s
  | wearCharge => exact execWearCharge_keepsMem _ s
  | ringCalLink => exact execRingCalLink_keepsMem _ s
  | laserBiasCheck => exact execLaserBiasCheck_keepsMem _ _ _ _ s
  | flowEstimate => exact execFlowEstimate_keepsMem _ _ _ _ s
  | _ => exact absurd h Bool.false_ne_true

end Sys2Proof.Machine

open Sys2Proof Sys2Proof.Machine

/-- Settles O30, from the memory each command leaves. -/
theorem memoryStaysOutsideStores : Obligations.MemoryStaysOutsideStores := by
  intro s t c hc ht
  obtain ⟨t', ht', hmem⟩ := exec_keepsMem c s hc
  rw [ht'] at ht
  cases ht
  exact ⟨fun a => by simp only [rdByte, hmem], fun n => by simp only [rdSector, rdBytes, rdByte, hmem]⟩
end

section
/-! PROOF. Which streams a tensor's WINDOW_MODE and WINDOW_LOG2 permit, and what becomes of one they do not (06 R230 to R232; 05
R161). -/

namespace Sys2Proof.Machine

open Sys2Proof

/-- The mode permits every stream, reads through a core store, reads through the Floor, or none. -/
theorem modeAllows_iff (d : DirEntry) (x : Stream) : modeAllows d x = true ↔
    d.windowMode = 0 ∨ (d.windowMode = 1 ∧ x.write = false ∧ x.nearFloor = false) ∨
      (d.windowMode = 2 ∧ x.write = false ∧ x.nearFloor = true) := by
  unfold modeAllows
  split
  case h_1 h => simp [h]
  case h_2 h => simp [h]
  case h_3 h => simp [h]
  case h_4 h0 h1 h2 =>
    refine iff_of_false Bool.false_ne_true ?_
    rintro (h | ⟨h, -⟩ | ⟨h, -⟩)
    exacts [h0 h, h1 h, h2 h]

theorem capAllows_iff (n : Nat) (d : DirEntry) (x : Stream) (s : State) : capAllows n d x s = true ↔ d.windowLog2 = 0 ∨
    sumNat (((allStreams s).filter fun y => y.hasRef && y.refs.contains n).map Stream.size) + x.size ≤ 2 ^ d.windowLog2 := by
  simp only [capAllows, Bool.or_eq_true, beq_iff_eq, decide_eq_true_eq]

/-- A stream is permitted where every tensor it names permits it by its mode and by its cap. -/
theorem windowBroken_eq_none_iff (x : Stream) (s : State) : windowBroken x s = none ↔
    ∀ n ∈ x.refs, modeAllows (tensorOf n s) x = true ∧ capAllows n (tensorOf n s) x s = true := by
  simp only [windowBroken, List.find?_eq_none, Bool.or_eq_true, Bool.not_eq_true', not_or, Bool.not_eq_false]

/-- The tensor a refused stream is reported with is one that it names and that does not permit it. -/
theorem windowBroken_some {x : Stream} {s : State} {n : Nat} (h : windowBroken x s = some n) :
    n ∈ x.refs ∧ (modeAllows (tensorOf n s) x = false ∨ capAllows n (tensorOf n s) x s = false) := by
  have hbroken := List.find?_some h
  simp only [Bool.or_eq_true, Bool.not_eq_true'] at hbroken
  exact ⟨List.mem_of_find?_eq_some h, hbroken⟩

/-- A stream whose tensors are in place and that one of them does not permit aborts its task. -/
theorem queueStream_aborts {x : Stream} {s : State} {n : Nat} (c e : Nat)
    (hplaced : lookup x s = .here ∨ ∃ m, lookup x s = .moving m) (hbroken : windowBroken x s = some n) :
    queueStream c e x s = faultNowhere c e 0x1620 n n s := by
  rcases hplaced with h | ⟨m, h⟩ <;> simp only [queueStream, h, hbroken]

end Sys2Proof.Machine

open Sys2Proof Sys2Proof.Machine

/-- Settles O37: the policy tensor by tensor, and the refusal of the first that does not permit the stream. -/
theorem windowPolicyStopsAStream : Obligations.WindowPolicyStopsAStream :=
  ⟨fun _ c e _ _ hplaced hbroken => queueStream_aborts c e hplaced hbroken,
    fun s x => ⟨windowBroken_eq_none_iff x s, fun _ h => windowBroken_some h⟩,
    fun x d => modeAllows_iff d x,
    fun s n d x => capAllows_iff n d x s⟩
end

section
/-! PROOF. Merge windows, refreshes, retrain holds and margin checks: what each command does by the state of its channel (06 R208,
R209; 07 R239 to R247, R261). -/

namespace Sys2Proof.Machine

open Sys2Proof

/-! ### Write combining (06 R208, R209) -/

theorem exec_wcWindowExpire_merges {s : State} {n : Nat} {e : WcEntry} (ha : alive s = true) (he : wcEntry n s = some e)
    (hdue : e.since + rd Obj.WC_WINDOW s ≤ s.clk.ticks) (hheld : accessHeld n s = false) (hgone : unitGone e.unit s = false) :
    exec (.wcWindowExpire e.unit n) s = .next (framed (wcMerge e s) s) := by
  simp only [exec, execWcWindowExpire]
  rw [run_alive _ _ ha]
  simp only [he, hdue, hheld, hgone, onlyIf, beq_self_eq_true, decide_true, Bool.not_false, Bool.and_self, if_true]

/-! ### Refreshes (07 R239, R240) -/

/-- The pseudo-channels whose refreshes take precedence once the debt of `pc` is `d`. -/
def precedenceAt (pc d : Nat) (s : State) : List Nat :=
  if d = 0 then s.mo.precedence.filter (· != pc)
  else if 4 ≤ d ∨ s.mo.precedence.contains pc then insertBy id pc (s.mo.precedence.filter (· != pc))
  else s.mo.precedence.filter (· != pc)

/-- A REFRESH that issues `k` refreshes, none of them forced, leaves the rest of the debt with its precedence. -/
theorem exec_refresh_issues {s : State} {pc n k : Nat} (ha : alive s = true) (hgone : unitGone (pcUnit pc) s = false)
    (hk : (if heldByTraining (unitSector (pcUnit pc) 0) s then 0 else min n (debtOf pc s + 1)) = k)
    (hforced : ¬ (4 ≤ debtOf pc s ∧ 0 < k)) :
    exec (.refresh pc n) s = .next (framed (releaseAccesses false (onlyIf (decide (4 < debtOf pc s + 1 - k))
      (loseUnit (lossUnit (pcUnit pc)) 7) { s with mo := { s.mo with
        debt := spSet 0 pc (debtOf pc s + 1 - k) s.mo.debt, precedence := precedenceAt pc (debtOf pc s + 1 - k) s } })) s) := by
  have hcalm : (decide (4 ≤ debtOf pc s) && decide (0 < k)) = false := by simpa using hforced
  have hid : onlyIf false (bump Obj.FORCED_REFRESH) s = s := rfl
  simp only [exec, execRefresh]
  rw [run_alive _ _ ha]
  simp only [hgone, hk, hcalm, hid, precedenceAt, Bool.false_eq_true, if_false]

/-- A REFRESH that issues none leaves one more refresh due. -/
theorem exec_refresh_none {s : State} {pc n : Nat} (ha : alive s = true) (hgone : unitGone (pcUnit pc) s = false)
    (hnone : heldByTraining (unitSector (pcUnit pc) 0) s = true ∨ n = 0) :
    exec (.refresh pc n) s = .next (framed (releaseAccesses false (onlyIf (decide (4 < debtOf pc s + 1))
      (loseUnit (lossUnit (pcUnit pc)) 7) { s with mo := { s.mo with
        debt := spSet 0 pc (debtOf pc s + 1) s.mo.debt, precedence := precedenceAt pc (debtOf pc s + 1) s } })) s) := by
  refine exec_refresh_issues (k := 0) ha hgone ?_ (by omega)
  rcases hnone with h | h
  · rw [if_pos h]
  · rw [h, Nat.zero_min, ite_self]

/-- The refreshes that are due, all issued, clear the debt. -/
theorem exec_refresh_clears {s : State} {pc n : Nat} (ha : alive s = true) (hgone : unitGone (pcUnit pc) s = false)
    (hheld : heldByTraining (unitSector (pcUnit pc) 0) s = false) (hdebt : debtOf pc s ≤ 3) (hn : debtOf pc s + 1 ≤ n) :
    exec (.refresh pc n) s = .next (framed (releaseAccesses false { s with mo := { s.mo with
      debt := spSet 0 pc 0 s.mo.debt, precedence := s.mo.precedence.filter (· != pc) } }) s) := by
  have hall : (if heldByTraining (unitSector (pcUnit pc) 0) s then 0 else min n (debtOf pc s + 1)) = debtOf pc s + 1 := by
    rw [hheld, if_neg Bool.false_ne_true, Nat.min_eq_right hn]
  rw [exec_refresh_issues ha hgone hall (by omega), Nat.sub_self]
  rfl

/-- An interval that issues none raises a debt of 2 at most. -/
theorem exec_refresh_owes {s : State} {pc n : Nat} (ha : alive s = true) (hgone : unitGone (pcUnit pc) s = false)
    (hnone : heldByTraining (unitSector (pcUnit pc) 0) s = true ∨ n = 0) (hdebt : debtOf pc s ≤ 2)
    (hprec : s.mo.precedence.contains pc = false) :
    exec (.refresh pc n) s = .next (framed (releaseAccesses false { s with mo := { s.mo with
      debt := spSet 0 pc (debtOf pc s + 1) s.mo.debt, precedence := s.mo.precedence.filter (· != pc) } }) s) := by
  have hlow : ¬ 4 ≤ debtOf pc s + 1 := by omega
  have hkept : ¬ 4 < debtOf pc s + 1 := by omega
  rw [exec_refresh_none ha hgone hnone]
  simp only [precedenceAt, hprec, hlow, hkept, onlyIf, decide_false, Bool.false_eq_true, or_self, if_false, ite_self]

/-- A debt beyond 4 loses the unit. -/
theorem exec_refresh_loses {s : State} {pc n : Nat} (ha : alive s = true) (hgone : unitGone (pcUnit pc) s = false)
    (hnone : heldByTraining (unitSector (pcUnit pc) 0) s = true ∨ n = 0) (hdebt : debtOf pc s = 4) :
    exec (.refresh pc n) s = .next (framed (releaseAccesses false (loseUnit (lossUnit (pcUnit pc)) 7 { s with mo := { s.mo with
      debt := spSet 0 pc 5 s.mo.debt, precedence := insertBy id pc (s.mo.precedence.filter (· != pc)) } })) s) := by
  rw [exec_refresh_none ha hgone hnone, hdebt]
  rfl

/-! ### Retraining (07 R242 to R245) -/

section

variable {s : State} {u : Nat} {f : RetrainFig} {g : Fig} (ha : alive s = true)
  (hf : s.mo.figTodo.find? (fun f => f.todo.head? == some u) = some f)
  (hg : s.cal.figs.find? (fun g => figTag g == f.entry) = some g)
  (hidle : (s.mo.training.any fun r => r.unit == u) = false) (hgone : unitGone u s = false)

include ha hf hg hidle hgone

theorem exec_retrainChannel_begins (htime : now s + 4500 ≤ g.deadline) (hready : retrainReady u s = true) :
    exec (.retrainChannel u) s = .next (framed (beginRetrain u false s) s) := by
  have hlate : ¬ g.deadline < now s + 4500 := by omega
  simp only [exec, execRetrainChannel]
  rw [run_alive _ _ ha]
  simp only [hf, hg, hidle, hgone, hlate, hready, onlyIf, Bool.false_eq_true, if_false, if_true]

theorem exec_retrainChannel_leaves (hlate : g.deadline < now s + 4500) :
    exec (.retrainChannel u) s = .next (framed (retrainDone u (emit 0x1703 u u s)) s) := by
  simp only [exec, execRetrainChannel]
  rw [run_alive _ _ ha]
  simp only [hf, hg, hidle, hgone, hlate, Bool.false_eq_true, if_false, if_true]

end

section

variable {s : State} {u : Nat} {r : Retrain} (ha : alive s = true)
  (hr : s.mo.training.find? (fun r => r.unit == u) = some r)

include ha hr

/-- A hold that ends well restores its channel. -/
theorem exec_retrainHoldEnd_restores (hgone : unitGone u s = false) :
    exec (.retrainHoldEnd u true) s = .next (framed (releaseAccesses false (onlyIf (!r.urgent) (retrainDone u)
      (onlyIf (!r.urgent) (bump Obj.FIGURE_RETRAINS) (retrained u (holdEnds u r s))))) s) := by
  simp only [exec, execRetrainHoldEnd]
  rw [run_alive _ _ ha]
  simp only [hr, holdEnds_gone, hgone, Bool.true_eq_false, Bool.false_eq_true, false_and, if_false, if_true]

/-- The first failure is tried again. -/
theorem exec_retrainHoldEnd_retries (hfirst : r.second = false) (hgone : unitGone u s = false) :
    exec (.retrainHoldEnd u false) s = .next (framed (emit 0x1704 u u (holdAgain u r s)) s) := by
  simp only [exec, execRetrainHoldEnd]
  rw [run_alive _ _ ha]
  simp only [hr, hfirst, hgone, and_self, if_true]

/-- The second failure loses the stack or package. -/
theorem exec_retrainHoldEnd_loses (hsecond : r.second = true) (hgone : unitGone u s = false) :
    exec (.retrainHoldEnd u false) s = .next (framed (releaseAccesses false (onlyIf (!r.urgent) (retrainDone u)
      (loseUnit (lossUnit u) 1 (holdEnds u r s)))) s) := by
  simp only [exec, execRetrainHoldEnd]
  rw [run_alive _ _ ha]
  simp only [hr, holdEnds_gone, hgone, hsecond, Bool.true_eq_false, Bool.false_eq_true, false_and, and_false, if_false]

/-- The hold of a lost unit ends and restores nothing. -/
theorem exec_retrainHoldEnd_lost (ok : Bool) (hgone : unitGone u s = true) :
    exec (.retrainHoldEnd u ok) s =
      .next (framed (releaseAccesses false (onlyIf (!r.urgent) (retrainDone u) (holdEnds u r s))) s) := by
  simp only [exec, execRetrainHoldEnd]
  rw [run_alive _ _ ha]
  simp only [hr, holdEnds_gone, hgone, Bool.true_eq_false, and_false, if_false, if_true]

end

/-! ### Margins (07 R246, R247) -/

/-- The channel is to be alarmed: its margin is below ALARM_MARGIN, or RETRAIN_MAX_AGE has passed since its last retrain. -/
def marginPoor (u m : Nat) (s : State) : Prop :=
  m < rd Obj.ALARM_MARGIN s ∨ spGet 0 s.mo.trainedAt u + rd Obj.RETRAIN_MAX_AGE s * 10 ^ 9 ≤ s.clk.ticks

section

variable {s : State} {u m : Nat} (ha : alive s = true) (hgone : unitGone u s = false)
  (hheld : heldByTraining (unitSector u 0) s = false)

include ha hgone hheld

theorem exec_marginCheck_records (h : ¬ marginPoor u m (wr (Obj.CHAN_MARGIN u) (min m 255) s)) :
    exec (.marginCheck u m) s = .next (framed (wr (Obj.CHAN_MARGIN u) (min m 255) s) s) := by
  simp only [marginPoor] at h
  simp only [exec, execMarginCheck]
  rw [run_alive _ _ ha]
  simp only [hgone, hheld, decide_eq_true_eq, Bool.false_eq_true, or_self, if_false]
  rw [if_neg fun hp => h hp.1]

theorem exec_marginCheck_alarms (h : marginPoor u m (wr (Obj.CHAN_MARGIN u) (min m 255) s))
    (hcalm : s.mo.alarms.contains u = false) : exec (.marginCheck u m) s =
      .next (framed { wr (Obj.CHAN_MARGIN u) (min m 255) s with mo := { s.mo with alarms := s.mo.alarms ++ [u] } } s) := by
  simp only [marginPoor] at h
  simp only [exec, execMarginCheck]
  rw [run_alive _ _ ha]
  simp only [hgone, hheld, decide_eq_true_eq, Bool.false_eq_true, or_self, if_false]
  rw [if_pos ⟨h, hcalm⟩, wr_mo]

end

/-- An alarmed channel that no figure reaches in time is retrained. -/
theorem exec_urgentRetrain_begins {s : State} {u : Nat} (ha : alive s = true) (halarm : s.mo.alarms.contains u = true)
    (hcoming : retrainComing u s = false) (hready : retrainReady u s = true) (hgone : unitGone u s = false) :
    exec (.urgentRetrain u) s =
      .next (framed (emit 0x1702 u u (bump Obj.URGENT_RETRAINS (beginRetrain u true s))) s) := by
  simp only [exec, execUrgentRetrain]
  rw [run_alive _ _ ha]
  simp only [halarm, hcoming, hready, hgone, and_self, if_true]

end Sys2Proof.Machine

open Sys2Proof Sys2Proof.Machine

/-- Settles O42: each command of memory operation by its row. -/
theorem mergesRefreshesAndRetrains : Obligations.MergesRefreshesAndRetrains :=
  ⟨fun _ _ _ ha he hdue hheld hgone => exec_wcWindowExpire_merges ha he hdue hheld hgone,
    fun _ _ _ ha hgone hheld hdebt hn => exec_refresh_clears ha hgone hheld hdebt hn,
    fun _ _ _ ha hgone hnone hdebt hprec => exec_refresh_owes ha hgone hnone hdebt hprec,
    fun _ _ _ ha hgone hnone hdebt => exec_refresh_loses ha hgone hnone hdebt,
    fun _ _ _ _ ha hf hg hidle hgone htime hready => exec_retrainChannel_begins ha hf hg hidle hgone htime hready,
    fun _ _ _ _ ha hf hg hidle hgone hlate => exec_retrainChannel_leaves ha hf hg hidle hgone hlate,
    fun _ _ _ ha hr hgone => exec_retrainHoldEnd_restores ha hr hgone,
    fun _ _ _ ha hr hfirst hgone => exec_retrainHoldEnd_retries ha hr hfirst hgone,
    fun _ _ _ ha hr hsecond hgone => exec_retrainHoldEnd_loses ha hr hsecond hgone,
    fun _ _ _ ok ha hr hgone => exec_retrainHoldEnd_lost ha hr ok hgone,
    fun _ _ _ ha hgone hheld hmargin hage =>
      exec_marginCheck_records ha hgone hheld (not_or.mpr ⟨Nat.not_lt.mpr hmargin, Nat.not_le.mpr hage⟩),
    fun _ _ _ ha hgone hheld hpoor hcalm => exec_marginCheck_alarms ha hgone hheld hpoor hcalm,
    fun _ _ ha halarm hcoming hready hgone => exec_urgentRetrain_begins ha halarm hcoming hready hgone⟩
end

section
/-! PROOF. Directory commands: how an entry is taken and refused, what CREATE, DESTROY and MOVE do when they begin, and how a mover
starts and ends (06 R217 to R224; 12 R436, R438). -/

namespace Sys2Proof.Machine

open Sys2Proof

/-! ### Taking an entry (06 R219, R220; 12 R436, R438) -/

/-- Each of the eight commands takes its entry. -/
theorem exec_dirRow {op q : Nat} {k : Nat → BitVec 1024 → Instr} (e : BitVec 1024) {s : State} (hk : (op, k) ∈ dirRows)
    (ha : alive s = true) : exec (k q e) s = .next (framed (takeDirectory op q e s) s) := by
  simp only [dirRows, List.mem_cons, Prod.mk.injEq, List.not_mem_nil, or_false] at hk
  rcases hk with ⟨rfl, rfl⟩ | ⟨rfl, rfl⟩ | ⟨rfl, rfl⟩ | ⟨rfl, rfl⟩ | ⟨rfl, rfl⟩ | ⟨rfl, rfl⟩ | ⟨rfl, rfl⟩ | ⟨rfl, rfl⟩ <;>
    exact run_alive _ s ha

/-- An entry of a queue that may be read, whose turn has come, is taken. -/
theorem takeEntry_taken {q : Nat} {s : State} (e : BitVec 1024) (f : State → State) (hopen : queueOpen q s = true)
    (hroom : bufferFull q s = false) (hturn : queueTurn q s = true) : takeEntry q e f s = f (takeHead q (entryCid e) s) := by
  simp only [takeEntry, hopen, hroom, hturn, Bool.true_eq_false, Bool.false_eq_true, if_false]

@[simp] theorem inSitout_takeHead (q cid : Nat) (s : State) : inSitout (takeHead q cid s) = inSitout s := rfl

/-- A reserved field of the entry, or of the image of a command that has none, is not 0. -/
def entryBroken (op : Nat) (e : BitVec 1024) : Prop := fld e.toNat 998 512 ≠ 0 ∨ (op ≠ 1 ∧ op ≠ 8 ∧ fld e.toNat 255 0 ≠ 0)

section

variable {s : State} {op q : Nat} {e : BitVec 1024} {k : Nat → BitVec 1024 → Instr} (hk : (op, k) ∈ dirRows)
  (ha : alive s = true) (hkind : entryKind e = 2) (hop : (jobOfEntry q e).op = op) (hopen : queueOpen q s = true)
  (hroom : bufferFull q s = false) (hturn : queueTurn q s = true)

include hk ha hkind hop hopen hroom hturn

theorem exec_dirRow_accepts (hform : ¬ entryBroken op e) (hso : inSitout s = false) :
    exec (k q e) s = .next (framed (acceptJob (jobOfEntry q e) (takeHead q (entryCid e) s)) s) := by
  rw [entryBroken] at hform
  rw [exec_dirRow e hk ha]
  simp only [takeDirectory, hkind, hop, ne_eq, not_true, false_and, or_self, if_false]
  rw [takeEntry_taken e _ hopen hroom hturn, if_neg hform, inSitout_takeHead, hso, if_neg Bool.false_ne_true]

theorem exec_dirRow_refuses (hform : entryBroken op e) :
    exec (k q e) s = .next (framed (complete q (entryCid e) (entryIrq e) 3 0x6005
      (emit 0x6005 q (q * 65536 + entryCid e) (takeHead q (entryCid e) s))) s) := by
  rw [entryBroken] at hform
  rw [exec_dirRow e hk ha]
  simp only [takeDirectory, hkind, hop, ne_eq, not_true, false_and, or_self, if_false]
  rw [takeEntry_taken e _ hopen hroom hturn, if_pos hform, refuseEntry]

end

/-! ### CREATE, DESTROY and MOVE (06 R218, R221, R222) -/

section

variable {s : State} {j : DirJob}

theorem beginJob_create (hop : j.op = 1) (hform : jobForm j = true) (hfree : (tensorOf j.tensor s).state = 0)
    (himage : imageAllowed j (entryOf j.image.toNat) = true)
    (hspace : inTensorSpace j.tier j.dest (entryOf j.image.toNat).size = true) :
    beginJob j s = endJob j 0 0 (setTensor j.tensor { entryOf j.image.toNat with
      state := 1, tier := j.tier, home := j.dest, written := false, resValid := false, resTier := 0, reserve := 0, refs := 0 }
        (undefOverlaps j.tensor j.dest (entryOf j.image.toNat).size s)) := by
  simp only [beginJob, hop, hform, hfree, himage, hspace, beq_self_eq_true, Bool.and_self, if_true]

theorem beginJob_destroy (hop : j.op = 2) (hform : jobForm j = true) (hstate : (tensorOf j.tensor s).state = 1)
    (hrefs : (tensorOf j.tensor s).refs = 0) : beginJob j s = endJob j 0 0 (setTensor j.tensor (entryOf 0) s) := by
  simp only [beginJob, hop, hform, hstate, hrefs, beq_self_eq_true, Bool.true_or, Bool.and_self, if_true]

/-- A referenced tensor is not destroyed. -/
theorem beginJob_destroy_refused (hop : j.op = 2) (hrefs : (tensorOf j.tensor s).refs ≠ 0) :
    beginJob j s = endJob j 3 0x1608 (emit 0x1608 0 2 s) := by
  have hkept : ((tensorOf j.tensor s).refs == 0) = false := beq_false_of_ne hrefs
  simp only [beginJob, hop, hkept, Bool.and_false, Bool.false_eq_true, if_false, refuseJob]

theorem beginJob_move (hop : j.op = 3) (hform : jobForm j = true) (hstate : (tensorOf j.tensor s).state = 1)
    (hmove : moveAllowed j (tensorOf j.tensor s) = true) : beginJob j s = beginMove j s := by
  simp only [beginJob, hop, hform, hstate, hmove, beq_self_eq_true, Bool.and_self, if_true]

theorem beginJob_move_refused (hop : j.op = 3)
    (h : (tensorOf j.tensor s).state ≠ 1 ∨ moveAllowed j (tensorOf j.tensor s) = false) :
    beginJob j s = endJob j 3 0x1608 (emit 0x1608 0 3 s) := by
  have hrefused : (jobForm j && (tensorOf j.tensor s).state == 1 && moveAllowed j (tensorOf j.tensor s)) = false := by
    rcases h with h | h
    · rw [beq_false_of_ne h, Bool.and_false, Bool.false_and]
    · rw [h, Bool.and_false]
  simp only [beginJob, hop, hrefused, Bool.false_eq_true, if_false, refuseJob]

/-! ### The movers (06 R217, R220, R222, R224) -/

/-- Nothing begins on a tensor whose command is under way. -/
theorem nextJob_underWay {t : Nat} (n : Nat) (hj : jobOn t s = some j) (hphase : j.phase ≠ .queued) : nextJob t n s = s := by
  cases n with
  | zero => rfl
  | succ n => simp only [nextJob, hj, hphase, if_false]

/-- A copy whose references are gone begins while a mover is free. -/
theorem exec_moverStart_copies {t : Nat} (ha : alive s = true) (hj : jobOn t s = some j) (hphase : j.phase = .waitRefs)
    (hfree : (activeJobs s).length < 8) (hrefs : (tensorOf t s).refs = 0) (hop : j.op = 3) :
    exec (.moverStart t) s = .next (framed (takeRef t (setJob j { j with phase := .copying } s)) s) := by
  have hwait : nextJob t s.jobs.length s = s := nextJob_underWay _ hj (by simp [hphase])
  have hdest : j.toReserve = false := by simp [DirJob.toReserve, hop]
  simp only [exec, execMoverStart]
  rw [run_alive _ _ ha]
  simp only [hwait, hj, hphase, hfree, hrefs, hop, hdest, or_true, and_self, if_true, beq_self_eq_true, Bool.true_or,
    Bool.and_false, onlyIf, Bool.false_eq_true, if_false]

/-- A copy that nothing holds, and that no line of the host's cache stands before, ends; the tensor's next command goes on. -/
theorem exec_moverDone_ends {t : Nat} (ha : alive s = true) (hj : jobOn t s = some j)
    (hfrozen : frozenAt 5 (tensorOf t s).home s = false) (hphase : j.phase = .copying) (hheld : jobHeld j s = false)
    (hrefs : (tensorOf t s).refs ≤ 1) (hread : snoopLines false [((tensorOf t s).home, (tensorOf t s).size)] s = [])
    (hwrite : snoopLines true (jobWrites j s) s = []) :
    exec (.moverDone t) s = .next (framed (jobEnds j t s) s) := by
  have hactive : j.active = true := by simp [DirJob.active, hphase]
  have hfew : ¬ 1 < (tensorOf t s).refs := by omega
  simp only [exec, execMoverDone]
  rw [run_alive _ _ ha]
  simp only [hj, hfrozen, hactive, hheld, hfew, Bool.true_eq_false, Bool.false_eq_true, or_self, if_false]
  rw [afterSnoops_clear _ _ _ _ hread, afterSnoops_clear _ _ _ _ hwrite]

/-- The end of a copy: to the reservation where the RETURN had one, and else to the command's destination. -/
theorem jobEnds_copy (t : Nat) (hphase : j.phase = .copying) {u : State}
    (hu : u = if j.toReserve then finishCopy j (tensorOf t s).reserve (tensorOf t s).resTier false s
      else finishCopy j j.dest j.tier j.keep s) : jobEnds j t s = nextJob t u.jobs.length u := by
  subst hu
  simp only [jobEnds, hphase, if_true]

/-- A copy that keeps no reservation ends with one directory write. -/
theorem finishCopy_moves {u : State} {dst : Nat} (tier : Nat)
    (hcopy : copySectors (tensorOf j.tensor s).home dst (tensorOf j.tensor s).size s = (true, u)) :
    finishCopy j dst tier false s = endJob j 0 0 (bumpBy (tensorOf j.tensor s).size Obj.MOVED_SECTORS (bump Obj.MOVES
      (modTensor j.tensor (fun e => { e with
        state := 1, home := dst, tier := tier, reserve := e.home, resTier := e.tier, resValid := false, written := false })
        (undefOverlaps j.tensor dst (tensorOf j.tensor s).size u)))) := by
  simp only [finishCopy, hcopy, Bool.false_eq_true, if_false]

/-- A copy that meets an uncorrectable sector fails. -/
theorem finishCopy_fails {u : State} {dst : Nat} (tier : Nat) (keep : Bool)
    (hcopy : copySectors (tensorOf j.tensor s).home dst (tensorOf j.tensor s).size s = (false, u)) :
    finishCopy j dst tier keep s = moverFailed j u := by
  simp only [finishCopy, hcopy]

end

end Sys2Proof.Machine

open Sys2Proof Sys2Proof.Machine

/-- Settles O45: the entry's way into its tensor's queue, the beginning of each command, and the copy of a mover. -/
theorem directoryCommandsRun : Obligations.DirectoryCommandsRun :=
  ⟨fun _ _ _ _ _ hk ha hkind hop hopen hroom hturn hform hso =>
      exec_dirRow_accepts hk ha hkind hop hopen hroom hturn hform hso,
    fun _ _ _ _ _ hk ha hkind hop hopen hroom hturn hform => exec_dirRow_refuses hk ha hkind hop hopen hroom hturn hform,
    fun _ _ hop hform hfree himage hspace => beginJob_create hop hform hfree himage hspace,
    fun _ _ hop hform hstate hrefs => beginJob_destroy hop hform hstate hrefs,
    fun _ _ hop hrefs => beginJob_destroy_refused hop hrefs,
    fun _ _ hop hform hstate hmove => beginJob_move hop hform hstate hmove,
    fun _ _ hop h => beginJob_move_refused hop h,
    fun _ _ _ ha hj hphase hfree hrefs hop => exec_moverStart_copies ha hj hphase hfree hrefs hop,
    fun _ _ t _ ha hj hfrozen hphase hheld hrefs hread hwrite hu => by
      rw [exec_moverDone_ends ha hj hfrozen hphase hheld hrefs hread hwrite, jobEnds_copy t hphase hu],
    fun _ _ _ _ tier hcopy => finishCopy_moves tier hcopy,
    fun _ _ _ _ tier keep hcopy => finishCopy_fails tier keep hcopy⟩
end

section
/-! PROOF. Bring-up: each step in its turn and out of it (07 R247, R260, R262; 17 R558 to R562; 18 R582 to R588). -/

namespace Sys2Proof.Machine

open Sys2Proof

/-! ### Turns (18 R582) -/

section

variable {s : State} {n : Nat} (ha : alive s = true)

include ha

/-- The command of a step whose turn it is carries out its step. -/
theorem run_inTurn (g : State → State) (h : atStep n s = true) :
    run (fun s => if atStep n s = false then s else g s) s = .next (framed (g s) s) := by
  rw [run_alive _ _ ha, if_neg (by simp [h])]

/-- The command of a step out of turn changes nothing. -/
theorem run_outOfTurn (g : State → State) (h : atStep n s = false) :
    run (fun s => if atStep n s = false then s else g s) s = .next (framed s s) := by
  rw [run_alive _ _ ha, if_pos h]

end

/-! ### Step 1: the firmware (17 R558, R559, R562) -/

/-- CONTROLLER_BOOT is in turn while no firmware has started and no fault stands. -/
def bootDue (s : State) : Prop := s.boot.stepDone = 0 ∧ s.boot.fwRunning = false ∧ rd Obj.FAULT_STATE s = 0

section

variable {s : State} (ha : alive s = true)

include ha

theorem exec_controllerBoot_current (hdue : bootDue s) (hslot : s.flash.pendingSlot = none) :
    exec .controllerBoot s = .next (framed (bootTry s.flash.currentSlot false s) s) := by
  obtain ⟨hstep, hfw, hfault⟩ := hdue
  simp only [exec, execControllerBoot]
  rw [run_alive _ _ ha]
  simp only [hstep, hfw, hfault, hslot, ne_eq, not_true, Bool.false_eq_true, or_self, if_false]

/-- A pending slot that has had its try is given up for the current one. -/
theorem exec_controllerBoot_givesUp {k : Nat} (hdue : bootDue s) (hslot : s.flash.pendingSlot = some k)
    (htried : s.flash.pendTried = true) : exec .controllerBoot s =
      .next (framed (bootTry (1 - k) false (emit 0x7002 0 (k * 16) (clearPending s))) s) := by
  obtain ⟨hstep, hfw, hfault⟩ := hdue
  simp only [exec, execControllerBoot]
  rw [run_alive _ _ ha]
  simp only [hstep, hfw, hfault, hslot, htried, ne_eq, not_true, Bool.false_eq_true, or_self, if_false, if_true]

theorem exec_controllerBoot_pending {k : Nat} (hdue : bootDue s) (hslot : s.flash.pendingSlot = some k)
    (htried : s.flash.pendTried = false) : exec .controllerBoot s =
      .next (framed (bootTry k true { s with flash := { s.flash with pendTried := true } }) s) := by
  obtain ⟨hstep, hfw, hfault⟩ := hdue
  simp only [exec, execControllerBoot]
  rw [run_alive _ _ ha]
  simp only [hstep, hfw, hfault, hslot, htried, ne_eq, not_true, Bool.false_eq_true, or_self, if_false]

theorem exec_controllerBoot_idle (h : s.boot.stepDone ≠ 0 ∨ s.boot.fwRunning = true ∨ rd Obj.FAULT_STATE s ≠ 0) :
    exec .controllerBoot s = .next (framed s s) := by
  simp only [exec, execControllerBoot]
  rw [run_alive _ _ ha, if_pos h]

end

/-! ### Step 2: memory (07 R247, R260, R262) -/

/-- Memory filled with zeros, and the first failure of each training reported. -/
def memoryFilled (rt : List (Nat × Bool)) (s : State) : State :=
  forEach ((rt.map (·.1)).filter (· < 304)) (fun u => emit 0x1704 u u) { s with mem := Memory.init }

section

variable {s : State} {rt : List (Nat × Bool)} {errs : List (Nat × Nat × BitVec 288)} (ha : alive s = true)
  (h : atStep 2 s = true)

include ha h

theorem exec_memoryBringup_ends (hwell : bringupLosses ((rt.filter (·.2)).map (·.1)) errs = []) :
    exec (.memoryBringup rt errs) s =
      .next (framed (stepEnds 2 (writeHeader (startPatrols (memoryFilled rt s)))) s) := by
  simp only [exec, execMemoryBringup]
  rw [run_inTurn ha _ h]
  simp only [hwell, memoryFilled]

theorem exec_memoryBringup_loses (hlost : bringupLosses ((rt.filter (·.2)).map (·.1)) errs ≠ []) :
    exec (.memoryBringup rt errs) s = .next (framed (forEach (bringupLosses ((rt.filter (·.2)).map (·.1)) errs)
      (fun p => loseUnit p.1 p.2) (memoryFilled rt s)) s) := by
  obtain ⟨p, ps, hps⟩ := List.exists_cons_of_ne_nil hlost
  simp only [exec, execMemoryBringup]
  rw [run_inTurn ha _ h]
  simp only [hps, memoryFilled]

end

/-- A unit that fails its self-check has an error of its own in the list. -/
theorem mem_units_of_selfCheckFails {errs : List (Nat × Nat × BitVec 288)} {u : Nat} (h : selfCheckFails errs u = true) :
    u ∈ errs.map (·.1) := by
  by_contra hout
  have hnone : errs.filter (fun p => p.1 == u && decide (p.2.1 < unitSectors u) && decide (0 < mismatchBytes p.2.2)) = [] := by
    refine List.filter_eq_nil_iff.mpr fun p hp hpu => hout ?_
    simp only [Bool.and_eq_true, beq_iff_eq] at hpu
    exact List.mem_map.mpr ⟨p, hp, hpu.1.1⟩
  simp [selfCheckFails, hnone] at h

theorem mem_bringupLosses_of_selfCheckFails (un : List Nat) {errs : List (Nat × Nat × BitVec 288)} {u : Nat} (hu : u < 304)
    (h : selfCheckFails errs u = true) : (lossUnit u, 10) ∈ bringupLosses un errs := by
  refine List.mem_append_right _ (List.mem_map.mpr ⟨u, List.mem_filter.mpr ⟨?_, by simp [hu, h]⟩, rfl⟩)
  exact List.mem_dedup.mpr (mem_units_of_selfCheckFails h)

/-! ### Steps 3 to 7 (18 R583 to R588) -/

/-- The state once the lasers are on and the links are lit, where LASER_EN allows it and they are still off. -/
def opticsLit (s : State) : State :=
  if s.pins.laserEn = true ∧ s.net.laserOn = false then lightLinks { s with net := { s.net with laserOn := true } } else s

/-- The end of step 6 from `t`: what the image applied is not to be saved again. -/
def settingsEnd (s t : State) : State :=
  stepEnds 6 { t with boot := { t.boot with saveDirty := s.boot.saveDirty, early := [] } }

section

variable {s : State} (ha : alive s = true)

include ha

theorem exec_opticsBringup_inTurn (h : atStep 3 s = true) : exec .opticsBringup s = .next (framed
    (if (opticsLit s).pins.laserEn = true ∧ ((opticsLit s).links.any fun l => l.state == .training) = true then opticsLit s
      else stepEnds 3 (opticsLit s)) s) := by
  simp only [exec, execOpticsBringup, opticsLit]
  rw [run_inTurn ha _ h]

theorem exec_opticsBringup_ends (h : atStep 3 s = true)
    (hquiet : (opticsLit s).pins.laserEn = false ∨ ((opticsLit s).links.any fun l => l.state == .training) = false) :
    exec .opticsBringup s = .next (framed (stepEnds 3 (opticsLit s)) s) := by
  rw [exec_opticsBringup_inTurn ha h, if_neg]
  rcases hquiet with hoff | hnone
  · simp [hoff]
  · simp [hnone]

theorem exec_opticsBringup_trains (h : atStep 3 s = true) (hon : (opticsLit s).pins.laserEn = true)
    (htraining : ((opticsLit s).links.any fun l => l.state == .training) = true) :
    exec .opticsBringup s = .next (framed (opticsLit s) s) := by
  rw [exec_opticsBringup_inTurn ha h, if_pos ⟨hon, htraining⟩]

theorem exec_cxlBringup_up (w r : Nat) (h : atStep 4 s = true) : exec (.cxlBringup 0 w r) s = .next (framed (stepEnds 4
    { hostLinkUp w r s with boot := { (hostLinkUp w r s).boot with memoryActive := true } }) s) := by
  simp only [exec, execCxlBringup]
  rw [run_inTurn ha _ h]

/-- No host at the port: the step ends all the same. -/
theorem exec_cxlBringup_absent (w r : Nat) (h : atStep 4 s = true) :
    exec (.cxlBringup 1 w r) s = .next (framed (stepEnds 4 s) s) := by
  simp only [exec, execCxlBringup]
  rw [run_inTurn ha _ h]

theorem exec_cxlBringup_fails (n w r : Nat) (h : atStep 4 s = true) (hn : 2 ≤ n) :
    exec (.cxlBringup n w r) s = .next (framed (stepEnds 4 (emit 0x6002 0 0 s)) s) := by
  obtain ⟨m, rfl⟩ := Nat.exists_eq_add_of_le' hn
  simp only [exec, execCxlBringup]
  rw [run_inTurn ha _ h]

theorem exec_countLock_ends (h : atStep 5 s = true) (hlock : s.tim.servo = .locked) :
    exec .countLock s = .next (framed (stepEnds 5 s) s) := by
  simp only [exec, execCountLock]
  rw [run_alive _ _ ha, if_pos (by simp [h, hlock])]

theorem exec_countWaitExpire_ends (h : atStep 5 s = true) (hlock : s.tim.servo ≠ .locked)
    (hpast : s.boot.stepAt + 1000000000 * rd Obj.COUNT_WAIT s ≤ s.clk.ticks) :
    exec .countWaitExpire s = .next (framed (stepEnds 5 (emit 0x9602 0 (rd Obj.SERVO_STATE s) s)) s) := by
  simp only [exec, execCountWaitExpire]
  rw [run_alive _ _ ha, if_pos (by simp [h, hlock, hpast])]

/-- Neither the lock nor the end of the wait acts outside step 5. -/
theorem exec_count_outOfTurn (h : atStep 5 s = false) :
    exec .countLock s = .next (framed s s) ∧ exec .countWaitExpire s = .next (framed s s) := by
  simp only [exec, execCountLock, execCountWaitExpire]
  constructor <;> rw [run_alive _ _ ha, if_neg (by simp [h])]

section

variable (h : atStep 6 s = true)

include h

theorem exec_settingsApply_none (hnone : imageNow s = []) : exec .settingsApply s = .next (framed (settingsEnd s s) s) := by
  simp only [exec, execSettingsApply]
  rw [run_inTurn ha _ h]
  simp only [hnone, List.isEmpty_nil, if_true, settingsEnd]

theorem exec_settingsApply_applies {t : State} (himage : (imageNow s).isEmpty = false)
    (hvalid : validated ((imageNow s).map fun p => ⟨p.1, p.2⟩) s = (none, t)) :
    exec .settingsApply s = .next (framed (settingsEnd s (emit 0x9301 0 0x807F (bump Obj.COMMITS
      (wr Obj.LAST_APPLIED (now t) (restoreAsym (imageNow s) t))))) s) := by
  simp only [exec, execSettingsApply]
  rw [run_inTurn ha _ h]
  simp only [himage, hvalid, Bool.false_eq_true, if_false, settingsEnd]

/-- An image that does not validate leaves the defaults. -/
theorem exec_settingsApply_defaults {x : Failure} {t : State} (himage : (imageNow s).isEmpty = false)
    (hbad : validated ((imageNow s).map fun p => ⟨p.1, p.2⟩) s = (some x, t)) :
    exec .settingsApply s = .next (framed (settingsEnd s (emit 0x9303 0 0 (savedDefaults s))) s) := by
  simp only [exec, execSettingsApply]
  rw [run_inTurn ha _ h]
  simp only [himage, hbad, Bool.false_eq_true, if_false, settingsEnd]

end

theorem exec_ready_raises (up : Bool) (h : atStep 7 s = true) (hready : s.boot.ready = false) :
    exec (.ready up) s = .next (framed (forEach [0, 1, 3, 4, 6] startFn (emit 0x9601 0 (bringupMs up s)
      (wr Obj.BRINGUP_MS (bringupMs up s)
        { s with boot := { s.boot with ready := true, fromPending := false }, flash := readyFlash s }))) s) := by
  simp only [exec, execReady]
  rw [run_alive _ _ ha, if_neg (by simp [h, hready])]

theorem exec_ready_outOfTurn (up : Bool) (h : atStep 7 s = false) : exec (.ready up) s = .next (framed s s) := by
  simp only [exec, execReady]
  rw [run_alive _ _ ha, if_pos (.inl h)]

end

end Sys2Proof.Machine

open Sys2Proof Sys2Proof.Machine

/-- Settles O16: the steps in order, each in its turn, and then each out of turn. -/
theorem bringupGoesStepByStep : Obligations.BringupGoesStepByStep := by
  refine ⟨fun s ha hstep hfw hfault hslot => exec_controllerBoot_current ha ⟨hstep, hfw, hfault⟩ hslot,
    fun s k ha hstep hfw hfault hslot htried => exec_controllerBoot_givesUp ha ⟨hstep, hfw, hfault⟩ hslot htried,
    fun s k ha hstep hfw hfault hslot htried => exec_controllerBoot_pending ha ⟨hstep, hfw, hfault⟩ hslot htried,
    fun s ha h => exec_controllerBoot_idle ha h,
    fun s rt un errs ha h hun hwell => ?_, fun s rt un errs ha h hun hlost => ?_,
    fun un errs u hu h => mem_bringupLosses_of_selfCheckFails un hu h,
    fun s t ha h ht hquiet => ?_, fun s t ha h ht hon htraining => ?_,
    fun s w r ha h => exec_cxlBringup_up ha w r h, fun s w r ha h => exec_cxlBringup_absent ha w r h,
    fun s n w r ha h hn => exec_cxlBringup_fails ha n w r h hn,
    fun s ha h hlock => exec_countLock_ends ha h hlock,
    fun s ha h hlock hpast => exec_countWaitExpire_ends ha h hlock hpast,
    fun s ha h hnone => exec_settingsApply_none ha h hnone,
    fun s t ha h himage hvalid => exec_settingsApply_applies ha h himage hvalid,
    fun s x t ha h himage hbad => exec_settingsApply_defaults ha h himage hbad,
    fun s up ha h hready => exec_ready_raises ha up h hready,
    fun s rt errs ha h => ?_, fun s ha h => ?_, fun s n w r ha h => ?_,
    fun s ha h => (exec_count_outOfTurn ha h).1, fun s ha h => (exec_count_outOfTurn ha h).2,
    fun s ha h => ?_, fun s up ha h => exec_ready_outOfTurn ha up h⟩
  · subst hun
    exact exec_memoryBringup_ends ha h hwell
  · subst hun
    exact exec_memoryBringup_loses ha h hlost
  · subst ht
    exact exec_opticsBringup_ends ha h hquiet
  · subst ht
    exact exec_opticsBringup_trains ha h hon htraining
  · simp only [exec, execMemoryBringup]
    exact run_outOfTurn ha _ h
  · simp only [exec, execOpticsBringup]
    exact run_outOfTurn ha _ h
  · simp only [exec, execCxlBringup]
    exact run_outOfTurn ha _ h
  · simp only [exec, execSettingsApply]
    exact run_outOfTurn ha _ h
end

section
/-! PROOF. Sector requests: who answers what, and what a request that nothing holds does to its sector (06 R207 to R211; 07 R234
to R236, R263). -/

namespace Sys2Proof.Machine

open Sys2Proof

/-! ### The three answers (07 R234, R235) -/

/-- What a request of KIND `k` comes to: a lost unit answers 2, a refused request is answered 1, and another is taken by `f`. -/
def answerRequest (k u : Nat) (w : BitVec 64) (f : State → State) (s : State) : State :=
  if unitGone u s then answerMem u w.toNat 2 none none s
  else if reqKind w.toNat ≠ k ∨ reqRefused u w.toNat = true then answerMem u w.toNat 1 none none s
  else f s

/-- A request for a sector is answered or taken; its base die or buffer refuses by the rules of its word. -/
theorem requestOf_eq (k u : Nat) (w : BitVec 64) (m : BitVec 32) (p : Sector) (s : State) :
    requestOf k u w m p s = answerRequest k u w (memRequest u w m p) s := by
  unfold requestOf answerRequest
  split
  · rfl
  · next hgone =>
    by_cases hk : reqKind w.toNat = k
    · by_cases hr : reqRefused u w.toNat = true
      · rw [if_pos hk, if_pos (.inr hr), memRequest, if_neg hgone, if_pos hr]
      · rw [if_pos hk, if_neg (by simp [hk, hr])]
    · rw [if_neg hk, if_pos (.inl hk)]

section

variable {s : State} {u k : Nat} {w : BitVec 64} (f : State → State) (ha : alive s = true)

include ha

theorem run_answerRequest_lost (hgone : unitGone u s = true) :
    run (answerRequest k u w f) s = .next (framed (answerMem u w.toNat 2 none none s) s) := by
  rw [run_alive _ _ ha, answerRequest, if_pos hgone]

theorem run_answerRequest_refused (hgone : unitGone u s = false) (hr : reqKind w.toNat ≠ k ∨ reqRefused u w.toNat = true) :
    run (answerRequest k u w f) s = .next (framed (answerMem u w.toNat 1 none none s) s) := by
  rw [run_alive _ _ ha, answerRequest, if_neg (by simp [hgone]), if_pos hr]

theorem run_answerRequest_taken (hgone : unitGone u s = false) (hk : reqKind w.toNat = k) (hr : reqRefused u w.toNat = false) :
    run (answerRequest k u w f) s = .next (framed (f s) s) := by
  rw [run_alive _ _ ha, answerRequest, if_neg (by simp [hgone]), if_neg (by simp [hk, hr])]

end

/-! ### The five requests -/

section

variable (u : Nat) (w : BitVec 64) (m : BitVec 32) (p : Sector) (s : State)

theorem exec_readRequest : exec (.readRequest u w) s = run (answerRequest 1 u w (memRequest u w 0 ⟨0, 0⟩)) s := by
  simp only [exec, execReadRequest, run, requestOf_eq]

theorem exec_writeRequest : exec (.writeRequest u w p) s = run (answerRequest 2 u w (memRequest u w 0 p)) s := by
  simp only [exec, execWriteRequest, run, requestOf_eq]

theorem exec_writePartial : exec (.writePartial u w m p) s = run (answerRequest 3 u w (memRequest u w m p)) s := by
  simp only [exec, execWritePartial, run, requestOf_eq]

theorem exec_regRead : exec (.regRead u w) s = run (answerRequest 5 u w fun s =>
    answerMem u w.toNat 0 none (some (Config.freeWord (drawFree s).1)) (drawFree s).2) s := rfl

theorem exec_regWrite : exec (.regWrite u w) s = run (answerRequest 6 u w (answerMem u w.toNat 0 none none)) s := rfl

end

/-! ### Requests that nothing holds (07 R236) -/

theorem servedAtOnce_free {u word : Nat} {s : State} (h : servedAtOnce u word s = true) :
    unitGone u s = false ∧ reqRefused u word = false := by
  simp only [servedAtOnce, Bool.and_eq_true, Bool.not_eq_true'] at h
  obtain ⟨⟨⟨⟨⟨hgone, hr⟩, -⟩, -⟩, -⟩, -⟩ := h
  exact ⟨hgone, hr⟩

theorem memRequest_served {u : Nat} {w : BitVec 64} {s : State} (m : BitVec 32) (p : Sector)
    (h : servedAtOnce u w.toNat s = true) : memRequest u w m p s = serveMem u w m p s := by
  simp only [servedAtOnce, Bool.and_eq_true, Bool.not_eq_true', decide_eq_true_eq] at h
  obtain ⟨⟨⟨⟨⟨hgone, hr⟩, hroom⟩, hheld⟩, hsame⟩, hsnoop⟩ := h
  simp only [memRequest, hgone, hr, hheld, hsame, hsnoop, Nat.not_le.mpr hroom, Bool.false_eq_true, or_self, if_false]

theorem run_answerRequest_served {s : State} {u k : Nat} {w : BitVec 64} (m : BitVec 32) (p : Sector) (ha : alive s = true)
    (hk : reqKind w.toNat = k) (h : servedAtOnce u w.toNat s = true) :
    run (answerRequest k u w (memRequest u w m p)) s = .next (framed (serveMem u w m p s) s) := by
  obtain ⟨hgone, hr⟩ := servedAtOnce_free h
  rw [run_answerRequest_taken _ ha hgone hk hr, memRequest_served m p h]

section

variable {u : Nat} {w : BitVec 64} (m : BitVec 32) (p : Sector) (s : State)

theorem serveMem_read (hk : reqKind w.toNat = 1) : serveMem u w m p s =
    if bitOf w.toNat 48 then answerMem u w.toNat 0 (some (rdSector (unitSector u (reqSector w.toNat)) s)) none s
    else answerMem u w.toNat 0 (some (readOverlay (unitSector u (reqSector w.toNat)) s)) none
      (overlayNote (unitSector u (reqSector w.toNat)) s) := by
  simp only [serveMem, hk]

theorem serveMem_write (hk : reqKind w.toNat = 2) : serveMem u w m p s =
    answerMem u w.toNat 0 none none (fullWrite (unitSector u (reqSector w.toNat)) p s) := by
  simp only [serveMem, hk]

variable {m p} (hk : reqKind w.toNat = 3)

include hk

theorem serveMem_partial {d : BitVec 256} {k : Nat}
    (hd : decodeSector ⟨BitVec.ofNat 256 (overlay 0 p.data.toNat m.toNat), p.chk⟩ = .ok d k) : serveMem u w m p s =
    answerMem u w.toNat 0 none none (wcPartial u (unitSector u (reqSector w.toNat)) d.toNat m.toNat none s) := by
  simp only [serveMem, hk, hd]

/-- A partial whose payload is bad on arrival stores nothing (log entry 26). -/
theorem serveMem_partial_bad (hd : decodeSector ⟨BitVec.ofNat 256 (overlay 0 p.data.toNat m.toNat), p.chk⟩ = .bad) :
    serveMem u w m p s =
      answerMem u w.toNat 0 none none (countTransit (unitSector u (reqSector w.toNat)) (emit 0x1601 u 0xFF s)) := by
  simp only [serveMem, hk, hd]

end

end Sys2Proof.Machine

open Sys2Proof Sys2Proof.Machine

/-- Settles O41: a request that nothing holds is served by its KIND, and one of a lost unit or of a broken word answered. -/
theorem sectorRequestsAreAnswered : Obligations.SectorRequestsAreAnswered := by
  refine ⟨fun s u w ha hk h => ?_, fun s u w p ha hk h => ?_, fun s u w m p d k ha hk h hd => ?_,
    fun s u w m p ha hk h hd => ?_, fun s u w ha hk hgone hr => ?_, fun s u w ha hk hgone hr => ?_,
    fun s u w m p ha hgone => ?_, fun s u w m p ha hgone => ?_⟩
  · rw [exec_readRequest, run_answerRequest_served _ _ ha hk h, serveMem_read _ _ _ hk]
  · rw [exec_writeRequest, run_answerRequest_served _ _ ha hk h, serveMem_write _ _ _ hk]
  · rw [exec_writePartial, run_answerRequest_served _ _ ha hk h, serveMem_partial _ hk hd]
  · rw [exec_writePartial, run_answerRequest_served _ _ ha hk h, serveMem_partial_bad _ hk hd]
  · rw [exec_regRead, run_answerRequest_taken _ ha hgone hk hr]
  · rw [exec_regWrite, run_answerRequest_taken _ ha hgone hk hr]
  · rw [exec_readRequest, exec_writeRequest, exec_writePartial, exec_regRead, exec_regWrite]
    exact ⟨run_answerRequest_refused _ ha hgone, run_answerRequest_refused _ ha hgone, run_answerRequest_refused _ ha hgone,
      run_answerRequest_refused _ ha hgone, run_answerRequest_refused _ ha hgone⟩
  · rw [exec_readRequest, exec_writeRequest, exec_writePartial, exec_regRead, exec_regWrite]
    exact ⟨run_answerRequest_lost _ ha hgone, run_answerRequest_lost _ ha hgone, run_answerRequest_lost _ ha hgone,
      run_answerRequest_lost _ ha hgone, run_answerRequest_lost _ ha hgone⟩
end

section
/-! PROOF. The patrol, temperatures and losses: what a patrol read does by what it decodes, how a reading moves a stack or
package, and what a lost unit takes with it (07 R248 to R263; 15 R633). -/

namespace Sys2Proof.Machine

open Sys2Proof

/-! ### The patrol's turn (07 R248, R249) -/

theorem patrolMay_iff (slow : Bool) (s : State) : patrolMay slow s = true ↔ inSitout s = true ∨
    ((scrubOpen slow s = false ∨ behindPace slow s = true) ∧ (patrolOf slow s).nextAt ≤ 1000 * s.clk.ticks) := by
  simp only [patrolMay, Bool.or_eq_true, Bool.and_eq_true, Bool.not_eq_true', decide_eq_true_eq]

/-- The patrol keeps still before its next read, alive or not. -/
theorem exec_patrolRead_early {slow : Bool} {s : State} (first again : BitVec 288) (hmay : patrolMay slow s = false) :
    exec (.patrolRead slow first again) s = .next s := by
  simp only [exec, execPatrolRead]
  exact run_idle _ _ (if_pos (.inr (.inr (.inr hmay))))

/-- The sector the patrol reads next. -/
abbrev patrolSector (slow : Bool) (s : State) : Nat := (patrolOf slow s).pointer / 32

/-- The patrol is active, and no freeze, no hold and no rate keeps it from its next sector. -/
def patrolOpen (slow : Bool) (s : State) : Prop :=
  (patrolOf slow s).active = true ∧
  (frozenAt 7 (patrolSector slow s) s = false ∨ scrubOpen slow s = true ∨ inSitout s = true) ∧
  accessHeld (patrolSector slow s) s = false ∧ patrolMay slow s = true

/-- The patrol's read of its next sector waits for the host's cache. -/
def patrolSnoops (slow : Bool) (s : State) : Bool :=
  needsSnoop (decodeSector (rdSector (patrolSector slow s) s) != .ok (rdSector (patrolSector slow s) s).data 0)
    (patrolSector slow s) s

/-- The state once the patrol has read sector `n`, and read it again where the first read is bad. -/
def patrolFinds (n : Nat) (first again : BitVec 288) (s : State) : State :=
  match decodeSector (disturb (rdSector n s) first) with
  | .ok _ 0 => s
  | .ok d k => noteCorrected n k (wrSector n (encodeSector d) s)
  | .bad => match decodeSector (disturb (rdSector n s) again) with
    | .bad => patrolBad n s
    | .ok _ _ => countTransit n (emit 0x1601 (memSource n) 0xFF s)

theorem patrolOpen_not_stopped {slow : Bool} {s : State} (hopen : patrolOpen slow s) :
    ¬ ((patrolOf slow s).active = false ∨ (frozenAt 7 (patrolSector slow s) s && !scrubOpen slow s && !inSitout s) = true ∨
      accessHeld (patrolSector slow s) s = true ∨ patrolMay slow s = false) := by
  obtain ⟨hactive, hthawed, hheld, hmay⟩ := hopen
  have hfrozen : (frozenAt 7 (patrolSector slow s) s && !scrubOpen slow s && !inSitout s) = false := by
    rcases hthawed with h | h | h <;> simp [h]
  simp [hactive, hfrozen, hheld, hmay]

section

variable {s : State} {slow : Bool} (first again : BitVec 288) (ha : alive s = true) (hopen : patrolOpen slow s)

include ha hopen

/-- A sector of a lost unit is passed over. -/
theorem exec_patrolRead_gone (hgone : unitGone ((unitOf (patrolSector slow s)).getD 0) s = true) :
    exec (.patrolRead slow first again) s = .next (framed (patrolAdvance slow s) s) := by
  simp only [exec, execPatrolRead]
  rw [run_alive _ _ ha, if_neg (patrolOpen_not_stopped hopen), if_pos hgone]

theorem exec_patrolRead_reads (hgone : unitGone ((unitOf (patrolSector slow s)).getD 0) s = false)
    (hsnoop : patrolSnoops slow s = false) : exec (.patrolRead slow first again) s =
      .next (framed (patrolAdvance slow (patrolFinds (patrolSector slow s) first again (patrolSpend slow s))) s) := by
  rw [patrolSnoops] at hsnoop
  simp only [exec, execPatrolRead]
  rw [run_alive _ _ ha, if_neg (patrolOpen_not_stopped hopen), if_neg (ne_true_of_eq_false hgone),
    if_neg (ne_true_of_eq_false hsnoop)]
  rfl

end

/-! ### What a patrol read finds (07 R250, R251) -/

section

variable {n : Nat} {first again : BitVec 288} {s : State} {d : BitVec 256} {k : Nat}

theorem patrolFinds_clean (h : decodeSector (disturb (rdSector n s) first) = .ok d 0) : patrolFinds n first again s = s := by
  simp only [patrolFinds, h]

theorem patrolFinds_corrected (h : decodeSector (disturb (rdSector n s) first) = .ok d (k + 1)) :
    patrolFinds n first again s = noteCorrected n (k + 1) (wrSector n (encodeSector d) s) := by
  simp only [patrolFinds, h]

theorem patrolFinds_bad (h : decodeSector (disturb (rdSector n s) first) = .bad)
    (h' : decodeSector (disturb (rdSector n s) again) = .bad) : patrolFinds n first again s = patrolBad n s := by
  simp only [patrolFinds, h, h']

/-- A sector that the reread decodes was bad on the way only. -/
theorem patrolFinds_transit (h : decodeSector (disturb (rdSector n s) first) = .bad)
    (h' : decodeSector (disturb (rdSector n s) again) = .ok d k) :
    patrolFinds n first again s = countTransit n (emit 0x1601 (memSource n) 0xFF s) := by
  simp only [patrolFinds, h, h']

end

theorem exec_patrolPeriodEnd_behind {s : State} {slow : Bool} (ha : alive s = true) (hactive : (patrolOf slow s).active = true)
    (hbehind : (patrolOf slow s).behind = false)
    (hpast : (patrolOf slow s).startAt + (patrolOf slow s).period * 10 ^ 9 ≤ s.clk.ticks) :
    exec (.patrolPeriodEnd slow) s =
      .next (framed (emit 0x1711 0 (b2n slow) (modPatrol slow (fun p => { p with behind := true }) s)) s) := by
  simp only [exec, execPatrolPeriodEnd]
  rw [run_alive _ _ ha, if_pos ⟨hactive, hbehind, hpast⟩]

/-! ### Temperatures (07 R252, R255) -/

/-- A reading `t` of stack or package `u`, recorded in its register `r` and in the times since which it has been below 92 and 83
degrees. -/
def tempRecorded (r : RegId) (u : Nat) (t : BitVec 16) (s : State) : State :=
  { wr r t.toNat s with mo := { s.mo with
    below92 := belowSince u 92 t.toInt s.clk.ticks s.mo.below92, below83 := belowSince u 83 t.toInt s.clk.ticks s.mo.below83 } }

/-- What a reading of `t` eighths of a degree makes of stack or package `u`. -/
def thermalNext (u : Nat) (t : Int) (s : State) : State :=
  if nth 0 s.mo.thermal u = 3 then s
  else if 105 * 8 < t then loseUnit (thermalLoss u) 6 (setThermal u 3 s)
  else if 95 * 8 < t then (if nth 0 s.mo.thermal u = 2 then s else emit 0x1731 u u (setThermal u 2 s))
  else if 85 * 8 < t ∧ nth 0 s.mo.thermal u = 0 then emit 0x1730 u u (setThermal u 1 s)
  else s

theorem exec_memoryTempReading_stack {s : State} {u : Nat} (t : BitVec 16) (ha : alive s = true) (hu : u < 8) :
    exec (.memoryTempReading u t) s =
      .next (framed (thermalNext u t.toInt (tempRecorded (Obj.STACK_TEMP (u + 1)) u t s)) s) := by
  simp only [exec, execMemoryTempReading]
  rw [run_alive _ _ ha]
  simp only [hu, if_true]
  rfl

theorem exec_memoryTempReading_package {s : State} {u : Nat} (t : BitVec 16) (ha : alive s = true) (hstack : 8 ≤ u)
    (hu : u < 20) : exec (.memoryTempReading u t) s =
      .next (framed (thermalNext u t.toInt (tempRecorded (Obj.PACKAGE_TEMP (u + 1)) u t s)) s) := by
  simp only [exec, execMemoryTempReading]
  rw [run_alive _ _ ha]
  simp only [Nat.not_lt.mpr hstack, hu, if_false, if_true]
  rfl

section

variable {u : Nat} {t : Int} {s : State}

theorem thermalNext_lost (ht : 105 * 8 < t) (hst : nth 0 s.mo.thermal u ≠ 3) :
    thermalNext u t s = loseUnit (thermalLoss u) 6 (setThermal u 3 s) := by
  rw [thermalNext, if_neg hst, if_pos ht]

theorem thermalNext_capped (hlo : 95 * 8 < t) (hhi : t ≤ 105 * 8) (hst : nth 0 s.mo.thermal u < 2) :
    thermalNext u t s = emit 0x1731 u u (setThermal u 2 s) := by
  rw [thermalNext, if_neg (by omega), if_neg (by omega), if_pos hlo, if_neg (by omega)]

theorem thermalNext_hot (hlo : 85 * 8 < t) (hhi : t ≤ 95 * 8) (hst : nth 0 s.mo.thermal u = 0) :
    thermalNext u t s = emit 0x1730 u u (setThermal u 1 s) := by
  rw [thermalNext, if_neg (by omega), if_neg (by omega), if_neg (by omega), if_pos ⟨hlo, hst⟩]

/-- A reading of 85 degrees or less moves nothing on. -/
theorem thermalNext_cool (ht : t ≤ 85 * 8) : thermalNext u t s = s := by
  rw [thermalNext, if_neg (c := 105 * 8 < t) (by omega), if_neg (c := 95 * 8 < t) (by omega),
    if_neg (c := 85 * 8 < t ∧ _) (by omega), ite_self]

end

section

variable {s : State} {u : Nat} (ha : alive s = true)

include ha

theorem exec_thermalHotExit_capped (hst : nth 0 s.mo.thermal u = 2) (hcool : belowFor u s.mo.below92 s = true) :
    exec (.thermalHotExit u) s = .next (framed (setThermal u 1 s) s) := by
  simp only [exec, execThermalHotExit]
  rw [run_alive _ _ ha]
  simp only [hst, hcool, onlyIf, if_true]

theorem exec_thermalHotExit_hot (hst : nth 0 s.mo.thermal u = 1) (hcool : belowFor u s.mo.below83 s = true) :
    exec (.thermalHotExit u) s = .next (framed (setThermal u 0 s) s) := by
  simp only [exec, execThermalHotExit]
  rw [run_alive _ _ ha]
  simp only [hst, hcool, onlyIf, if_true]

end

theorem belowFor_early {u : Nat} {m : List (Nat × Nat)} {s : State} (h : s.clk.ticks + 1 < spGet 0 m u + 10 ^ 9) :
    belowFor u m s = false :=
  decide_eq_false fun hfor => Nat.not_lt.mpr hfor.2 h

/-! ### Losses (07 R261 to R263) -/

section

variable {s : State} {u b : Nat} (ha : alive s = true)

include ha

theorem exec_requestSilentTimeout_loses (hu : u < 14) :
    exec (.requestSilentTimeout u) s = .next (framed (loseUnit u 5 s) s) := by
  simp only [exec, execRequestSilentTimeout, Nat.mod_eq_of_lt hu]
  exact run_alive _ _ ha

theorem exec_unitInternalFault_loses (hu : u < 14) : exec (.unitInternalFault u) s = .next (framed (loseUnit u 8 s) s) := by
  simp only [exec, execUnitInternalFault, Nat.mod_eq_of_lt hu]
  exact run_alive _ _ ha

theorem exec_replayFailTimeout_loses (hb : b < 6) :
    exec (.replayFailTimeout b) s = .next (framed (loseUnit (8 + b) 9 s) s) := by
  simp only [exec, execReplayFailTimeout, Nat.mod_eq_of_lt hb]
  exact run_alive _ _ ha

theorem exec_bufferLinkReplay_counts (hb : b < 6) : exec (.bufferLinkReplay b) s =
    .next (framed (forEach (List.range 8) (fun i => bump (Obj.CHAN_REPLAYS (256 + 8 * b + i))) s) s) := by
  simp only [exec, execBufferLinkReplay, Nat.mod_eq_of_lt hb]
  exact run_alive _ _ ha

end

/-- The state once unit `u`, with the packages it takes with it, is marked lost and its work abandoned. -/
def unitsLost (u reason : Nat) (s : State) : State :=
  abandonUnits (forEach (u :: (packagesOf u).filter fun p => lostReason p s == 0)
    (fun p s => { s with mo := { s.mo with lost := spSet 0 p reason s.mo.lost } }) s)

section

variable {u : Nat} (reason : Nat) {s : State} (hwas : lostReason u s = 0)

include hwas

theorem loseUnit_stack (hu : u < 8) : loseUnit u reason s = faultS3 0x1740 u (u * 256 + reason) (unitsLost u reason s) := by
  rw [loseUnit, if_neg (not_not_intro hwas), if_pos hu, unitsLost]

theorem loseUnit_buffer (hlo : 8 ≤ u) (hu : u < 14) :
    loseUnit u reason s = faultS3 0x1741 (u - 8) ((u - 8) * 256 + reason) (unitsLost u reason s) := by
  rw [loseUnit, if_neg (not_not_intro hwas), if_neg (Nat.not_lt.mpr hlo), if_pos hu, unitsLost]

theorem loseUnit_package (hlo : 14 ≤ u) :
    loseUnit u reason s = faultS3 0x1742 (u - 14) ((u - 14) * 256 + reason) (unitsLost u reason s) := by
  rw [loseUnit, if_neg (not_not_intro hwas), if_neg (by omega), if_neg (Nat.not_lt.mpr hlo), unitsLost]

end

theorem mem_packagesOf {u p : Nat} :
    p ∈ packagesOf u ↔ 8 ≤ u ∧ u < 14 ∧ (p = 14 + 2 * (u - 8) ∨ p = 15 + 2 * (u - 8)) := by
  unfold packagesOf
  split
  · next h => simp [h]
  · next h => simp only [List.not_mem_nil, false_iff]; tauto

/-! ### The bins (15 R633) -/

/-- The state once the next second has begun, with a record of the seconds held if there are any. -/
def secondBegun (s : State) : State :=
  onlyIf (decide (0 < s.rcd.heldSec)) (emit 0x9504 0 s.rcd.heldSec)
    { s with pow := { s.pow with opTime := (opSec s + 1) * 16 } }

/-- A second that ends no minute forgets the held seconds and the transit counts. -/
theorem exec_binBoundary_second {s : State} (ha : alive s = true) (hsec : (opSec s + 1) % 60 ≠ 0) :
    exec .binBoundary s = .next (framed { secondBegun s with
      rcd := { (secondBegun s).rcd with heldSec := 0 }, mo := { (secondBegun s).mo with transit := [] } } s) := by
  have hhour : (opSec s + 1) % 3600 ≠ 0 := by omega
  simp only [exec, execBinBoundary]
  rw [run_alive _ _ ha]
  simp only [hsec, hhour, if_false, secondBegun]

section

variable {s : State} (ha : alive s = true) (hsec : (opSec s + 1) % 60 ≠ 0)

include ha hsec

theorem exec_binBoundary_quiet (hheld : s.rcd.heldSec = 0) : exec .binBoundary s = .next (framed { s with
    pow := { s.pow with opTime := (opSec s + 1) * 16 }, mo := { s.mo with transit := [] } } s) := by
  have hrcd : { s.rcd with heldSec := 0 } = s.rcd := by rw [← hheld]
  rw [exec_binBoundary_second ha hsec]
  simp only [secondBegun, onlyIf, hheld, Nat.lt_irrefl, decide_false, Bool.false_eq_true, if_false, hrcd]

theorem exec_binBoundary_reports (hheld : s.rcd.heldSec ≠ 0) : ∃ t, exec .binBoundary s = .next t ∧
    t.pow.opTime = (opSec s + 1) * 16 ∧ t.rcd.heldSec = 0 ∧ t.mo.transit = [] ∧
    t.rcd.batch = s.rcd.batch ++ [⟨0x9504, 0, s.rcd.heldSec % 2 ^ 32, s.clk.count, (opSec s + 1) * 16, false⟩] := by
  have hplain : addressCodes.contains 0x9504 = false := by decide
  refine ⟨_, exec_binBoundary_second ha hsec, ?_⟩
  simp only [secondBegun, onlyIf, Nat.pos_of_ne_zero hheld, decide_true, if_true, framed, emit, hplain, Bool.false_eq_true,
    if_false, Nat.zero_mod, and_self]

end

end Sys2Proof.Machine

open Sys2Proof Sys2Proof.Machine

/-- Settles O43: a patrol read by what it finds, a reading by its degrees, and a loss by the unit that is lost. -/
theorem patrolTemperaturesAndLosses : Obligations.PatrolTemperaturesAndLosses := by
  refine ⟨fun s u slow d first again ha hactive hthawed hheld hmay hgone hsnoop hu hd => ?_,
    fun s u slow d k first again ha hactive hthawed hheld hmay hgone hsnoop hu hd => ?_,
    fun s u slow first again ha hactive hthawed hheld hmay hgone hsnoop hu hd hd' => ?_,
    fun s u slow d k first again ha hactive hthawed hheld hmay hgone hsnoop hu hd hd' => ?_,
    fun s slow first again ha hactive hthawed hheld hmay hgone =>
      exec_patrolRead_gone first again ha ⟨hactive, hthawed, hheld, hmay⟩ hgone,
    fun s slow first again hmay => exec_patrolRead_early first again hmay,
    fun s slow => patrolMay_iff slow s,
    fun s slow ha hactive hbehind hpast => exec_patrolPeriodEnd_behind ha hactive hbehind hpast,
    fun s v u t ha hu ht hst hv => ?_, fun s v u t ha hu hlo hhi hst hv => ?_, fun s v u t ha hu hlo hhi hst hv => ?_,
    fun s v u t ha hu ht hv => ?_, fun s v u t ha hlo hu ht hst hv => ?_,
    fun s u ha hst hcool => exec_thermalHotExit_capped ha hst hcool,
    fun s u ha hst hcool => exec_thermalHotExit_hot ha hst hcool,
    fun s u m h => belowFor_early h,
    fun s u ha hu => ⟨exec_requestSilentTimeout_loses ha hu, exec_unitInternalFault_loses ha hu⟩,
    fun s b ha hb => ⟨exec_replayFailTimeout_loses ha hb, exec_bufferLinkReplay_counts ha hb⟩,
    fun s v u reason hwas hv => ?_, fun u p => mem_packagesOf,
    fun s ha hsec hheld => exec_binBoundary_quiet ha hsec hheld,
    fun s ha hsec hheld => exec_binBoundary_reports ha hsec hheld⟩
  · subst hu
    rw [exec_patrolRead_reads first again ha ⟨hactive, hthawed, hheld, hmay⟩ hgone hsnoop, patrolFinds_clean hd]
  · subst hu
    rw [exec_patrolRead_reads first again ha ⟨hactive, hthawed, hheld, hmay⟩ hgone hsnoop, patrolFinds_corrected hd]
  · subst hu
    rw [exec_patrolRead_reads first again ha ⟨hactive, hthawed, hheld, hmay⟩ hgone hsnoop, patrolFinds_bad hd hd']
  · subst hu
    rw [exec_patrolRead_reads first again ha ⟨hactive, hthawed, hheld, hmay⟩ hgone hsnoop, patrolFinds_transit hd hd']
  · subst hv
    rw [exec_memoryTempReading_stack t ha hu, thermalNext_lost (s := tempRecorded _ u t s) ht hst, thermalLoss, if_pos hu]
    rfl
  · subst hv
    rw [exec_memoryTempReading_stack t ha hu, thermalNext_capped (s := tempRecorded _ u t s) hlo hhi hst]
    rfl
  · subst hv
    rw [exec_memoryTempReading_stack t ha hu, thermalNext_hot (s := tempRecorded _ u t s) hlo hhi hst]
    rfl
  · subst hv
    rw [exec_memoryTempReading_stack t ha hu, thermalNext_cool ht]
    rfl
  · subst hv
    rw [exec_memoryTempReading_package t ha hlo hu, thermalNext_lost (s := tempRecorded _ u t s) ht hst, thermalLoss,
      if_neg (Nat.not_lt.mpr hlo)]
    rfl
  · subst hv
    exact ⟨loseUnit_stack reason hwas, loseUnit_buffer reason hwas, loseUnit_package reason hwas⟩
end

section
/-! PROOF. Traffic generators, arbiters and FREEZE: what each command's rule answers, and the state it leaves (07 R258, R259; 19
R590 to R600). -/

namespace Sys2Proof.Machine

open Sys2Proof

/-! ### Traffic generators (07 R258, R259) -/

/-- A selected generator runs already. -/
def tgRuns (sel : Nat) (s : State) : Bool := (tgSelected sel).any fun u => (tgOf u s).status == 1

/-- A selected generator of modes 1 to 3 has a used tensor of its tier, Sit-out or a firing figure against its start. -/
def tgBarred (sel : Nat) (s : State) : Bool :=
  (tgSelected sel).any fun u => (tgOf u s).mode != 0 && (!tierFree u s || inSitout s || !s.cal.figs.isEmpty)

theorem tgStart_starts {sel : Nat} {s : State} (hidle : tgRuns sel s = false) (hfree : tgBarred sel s = false) :
    tgStart sel s =
      (0, forEach (tgSelected sel) (fun u => modTg u fun t => { t with status := 1, errors := 0, first := 0 }) s) := by
  rw [tgRuns] at hidle
  rw [tgBarred] at hfree
  simp only [tgStart, hidle, hfree, Bool.false_eq_true, if_false]

theorem tgStart_refused {sel : Nat} {s : State} (h : tgRuns sel s = true ∨ tgBarred sel s = true) :
    tgStart sel s = (0x03000004, s) := by
  rw [tgRuns, tgBarred] at h
  rcases h with h | h
  · simp only [tgStart, h, if_true]
  · simp only [tgStart, h, if_true, ite_self]

/-- A run that nothing stands before carries out the sectors of its range. -/
theorem exec_tgRunEnd_runs {s : State} {u : Nat} (errs : List (Nat × BitVec 288)) (ha : alive s = true)
    (hruns : (tgOf u s).status = 1) (hthawed : (tgOf u s).mode ≠ 0 ∨ frozenAt 7 (unitSector u (tgOf u s).start) s = false)
    (hheld : tgHeld u s = false) (hgone : unitGone u s = false) :
    exec (.tgRunEnd u errs) s = .next (framed (modTg u (fun t => { t with status := if t.errors = 0 then 2 else 3 })
      ((List.range (if (tgOf u s).count = 0 then unitSectors u - (tgOf u s).start
        else min (tgOf u s).count (unitSectors u - (tgOf u s).start))).foldl
        (fun t i => tgRunSector u errs (tgOf u s) ((tgOf u s).start + i) t) s)) s) := by
  have hopen : (decide ((tgOf u s).mode = 0) && frozenAt 7 (unitSector u (tgOf u s).start) s) = false := by
    rcases hthawed with h | h <;> simp [h]
  simp only [exec, execTgRunEnd]
  rw [run_alive _ _ ha]
  simp only [hruns, hopen, hheld, hgone, ne_eq, not_true, Bool.false_eq_true, or_self, if_false]

/-! ### Arbiters (19 R590 to R594) -/

/-- What arbiter `a` has before it grants: the requests raised are waiting, and those done are no longer granted. -/
def arbTaken (a : Nat) (raised : List (Nat × Nat × Nat × Bool)) (done : List Nat) (s : State) : State :=
  { s with arb := { s.arb with
    waiting := s.arb.waiting ++ (raised.filter fun x => decide (1 ≤ x.1 ∧ x.1 ≤ 7)).map fun x =>
      ({ arb := a, cls := x.1, requester := x.2.1 % 256, id := x.2.2.1, stepStarted := x.2.2.2 } : ArbReq)
    granted := s.arb.granted.filter fun r => !(r.arb == a && done.contains r.id) } }

section

variable {s : State} {a room : Nat} {raised : List (Nat × Nat × Nat × Bool)} {done : List Nat} (ha : alive s = true)
  (harb : a < 400)

include ha harb

theorem exec_arbiterGrant_grants {r : ArbReq} (h : grantOf a room (arbTaken a raised done s) = some r) :
    exec (.arbiterGrant a room raised done) s = .next (framed (grant r (arbTaken a raised done s)) s) := by
  rw [arbTaken] at h
  simp only [exec, execArbiterGrant]
  rw [run_alive _ _ ha, if_neg (Nat.not_le.mpr harb)]
  simp only [h, arbTaken]

theorem exec_arbiterGrant_waits (h : grantOf a room (arbTaken a raised done s) = none) :
    exec (.arbiterGrant a room raised done) s = .next (framed (arbTaken a raised done s) s) := by
  rw [arbTaken] at h
  simp only [exec, execArbiterGrant]
  rw [run_alive _ _ ha, if_neg (Nat.not_le.mpr harb)]
  simp only [h, arbTaken]

end

/-! ### FREEZE (19 R598, R600) -/

theorem writeFreeze_writes {v : Nat} {s : State} (h : bitOf v 0 = false ∨ s.col.slots = []) :
    writeFreeze v s = (0, contributeReady (releaseAccesses false (wr Obj.FREEZE v s))) := by
  rw [writeFreeze, if_neg (by rcases h with h | h <;> simp [h]), afterThaw]

/-- COLLECTIVE is not frozen while a slot is held. -/
theorem writeFreeze_refused {v : Nat} {s : State} (hbit : bitOf v 0 = true) (hslots : s.col.slots ≠ []) :
    writeFreeze v s = (0x03000004, s) :=
  if_pos ⟨hbit, List.isEmpty_eq_false_iff.mpr hslots⟩

end Sys2Proof.Machine

open Sys2Proof Sys2Proof.Machine

/-- Settles O44: each write by its rule, a run by its range, and an arbiter by the request its grant names. -/
theorem trafficGeneratorsAndArbiters : Obligations.TrafficGeneratorsAndArbiters := by
  refine ⟨fun s w ha hacc => run_command_accepted w _ _ _ (writeTgControl w 1) s ha hacc,
    fun s sel hidle hfree => tgStart_starts hidle hfree, fun s sel h => tgStart_refused h,
    fun s w ha hacc => run_command_accepted w _ _ _ (writeTgControl w 2) s ha hacc,
    fun s u errs ha hruns hthawed hheld hgone => exec_tgRunEnd_runs errs ha hruns hthawed hheld hgone,
    fun s u a room raised done r ha harb hu hgrant => ?_, fun s u a room raised done ha harb hu hgrant => ?_,
    fun s w v ha hacc h => ?_, fun s w v ha hacc hbit hslots => ?_⟩
  · subst hu
    exact exec_arbiterGrant_grants ha harb hgrant
  · subst hu
    exact exec_arbiterGrant_waits ha harb hgrant
  · simp only [exec, execFreeze]
    rw [run_command_accepted _ _ _ _ _ _ ha hacc, writeFreeze_writes h]
  · simp only [exec, execFreeze]
    rw [run_command_accepted _ _ _ _ _ _ ha hacc, writeFreeze_refused hbit hslots]
end

section
/-! PROOF. Update sets and update steps: how a set begins or is kept, how its blocks reach the units, how a unit's step starts and
ends, and what REAPPLY and START_STEP do (08 R279 to R295; 09 R307). -/

namespace Sys2Proof.Machine

open Sys2Proof

/-! ### Sets that begin (08 R279, R282, R283; 06 R222) -/

theorem exec_setBegin_begins {n : Nat} {s : State} (ha : alive s = true) (hrun : running 2 s = true)
    (hfirst : (s.upd.kept.find? fun n => mayBegin n s) = some n) :
    exec (.setBegin n) s = .next (framed (beginSet n (nsqFor (setEntry n s) s) s) s) := by
  simp only [exec, execSetBegin]
  rw [run_alive _ _ ha, if_pos ⟨hrun, hfirst⟩]

theorem startSet_reachable {n : Nat} {s : State} (h : setReachable (setEntry n s) s = true) :
    startSet n s = beginSet n (nsqFor (setEntry n s) s) s :=
  if_pos h

theorem startSet_unreachable {n : Nat} {s : State} (h : setReachable (setEntry n s) s = false) :
    startSet n s = { s with upd := { s.upd with kept := insertBy id n (s.upd.kept.filter (· != n)) } } :=
  if_neg (ne_true_of_eq_false h)

/-! ### Blocks on their way (07 R235; 08 R284, R285) -/

/-- Rewritten with, never unfolded: the kernel would compute the fields of the set's entry. -/
theorem workTensor_moment (e : SetEntry) (b : Nat) : workTensor e (.moment b) = e.landing := rfl

theorem workTensor_master (e : SetEntry) (b : Nat) : workTensor e (.master b) = e.masterT := rfl

/-- A block of a set under way is sent on by the rule of its part. -/
theorem exec_updateWork_sends {s : State} {n : Nat} {r : SetRun} (tag : Nat) (work : WorkBlock) (errs : List (BitVec 288))
    (ha : alive s = true) (hr : setRunOf n s = some r) :
    exec (.updateWork tag n work errs) s = .next (framed (sendBlock tag r work errs s) s) := by
  simp only [exec, execUpdateWork]
  rw [run_alive _ _ ha]
  simp only [hr]

section

variable {s : State} {r : SetRun} (tag : Nat) {b : Nat} (errs : List (BitVec 288)) (hwhole : r.torn = false)

include hwhole

theorem sendBlock_moment (hthawed : frozenAt 2 (tensorOf (setEntry r.set_ s).landing s).home s = false)
    (hnext : b = r.next) (hblock : b < setBlocks (setEntry r.set_ s) s) (hmay : setMayRun r.set_ s = true)
    (hheld : dispatchHeld (setEntry r.set_ s) b s = false) :
    sendBlock tag r (.moment b) errs s = dispatchMoment tag r errs s := by
  rw [sendBlock, workTensor_moment, hwhole, hthawed, Bool.or_self, if_neg Bool.false_ne_true]
  exact if_pos ⟨hnext, hblock, hmay, hheld⟩

theorem sendBlock_master {d : Delta} (hthawed : frozenAt 2 (tensorOf (setEntry r.set_ s).masterT s).home s = false)
    (hd : s.upd.deltas.find? (fun d => d.set_ == r.set_ && d.block == b) = some d) :
    sendBlock tag r (.master b) errs s = sendWork tag r.set_ 1 b 0 ((List.range 4).map fun i =>
      dataSector ((List.range 8).foldl (fun a j => a + (nth 0 d.values (8 * i + j)).toNat * 2 ^ (32 * j)) 0)) errs
      { s with upd := { s.upd with deltas := dropFirst (fun x => x == d) s.upd.deltas } } := by
  rw [sendBlock, workTensor_master, hwhole, hthawed, Bool.or_self, if_neg Bool.false_ne_true]
  simp only [sendMaster, hd]

end

/-- The request word of an UPDATE_WORK, or the word that follows it, breaks a rule. -/
def workRefused (u w b : Nat) : Prop := reqRefused u w = true ∨ reqKind w ≠ 4 ∨ fld b 6 0 ≠ 0

section

variable {s : State} {u w b : Nat} {xs : List Sector} {errs : List (BitVec 288)}

theorem takeWork_lost (hgone : unitGone u s = true) : takeWork u w b xs errs s = answerMem u w 2 none none s :=
  if_pos hgone

theorem takeWork_refused (hgone : unitGone u s = false) (h : workRefused u w b) :
    takeWork u w b xs errs s = answerMem u w 1 none none s := by
  have hrefused : (reqRefused u w || reqKind w != 4 || fld b 6 0 != 0) = true := by
    simpa only [workRefused, Bool.or_eq_true, bne_iff_ne, or_assoc] using h
  simp only [takeWork, hgone, hrefused, Bool.false_eq_true, if_false, if_true]

theorem takeWork_queued {ds : List (BitVec 256)} (hgone : unitGone u s = false) (hform : reqRefused u w = false)
    (hkind : reqKind w = 4) (hzero : fld b 6 0 = 0) (hds : arriveSectors xs errs = some ds) :
    takeWork u w b xs errs s = modUnit (updUnitOf (unitSector u (reqSector w))) (fun x => { x with queue := x.queue ++
      [{ BlockRun.init with set_ := fld b 63 53, block := fld b 52 16, exp := fld b 15 8, part := fld b 7 7,
                            payload := ds.map encodeSector }] }) (answerMem u w 0 none none s) := by
  simp only [takeWork, hgone, hform, hkind, hzero, hds, bne_self_eq_false, Bool.or_self, Bool.false_eq_true, if_false]

/-- The answer of a request that is not taken: STATUS 2 by a lost unit, else 1. -/
theorem takeWork_unqueued (h : unitGone u s = true ∨ workRefused u w b) :
    takeWork u w b xs errs s = answerMem u w (if unitGone u s then 2 else 1) none none s := by
  cases hgone : unitGone u s with
  | true => exact takeWork_lost hgone
  | false => exact takeWork_refused hgone (h.resolve_left (ne_true_of_eq_false hgone))

end

/-! ### Update steps (08 R285, R287, R288, R293) -/

section

variable {s t : State} {u : Nat} {b : BlockRun} {bs : List BlockRun} (ha : alive s = true)

include ha

theorem exec_updateStepStart_gives (hidle : (unitState u s).step = []) (hnext : nextStep u s = b :: bs)
    (htaken : boundaryTaken u b.set_ s = true) :
    exec (.updateStepStart u) s = .next (framed (giveBoundary u s) s) := by
  simp only [exec, execUpdateStepStart]
  rw [run_alive _ _ ha]
  simp only [hnext, hidle, htaken, List.isEmpty_nil, Bool.true_eq_false, if_false, if_true]

/-- A step that nothing stands before loads its blocks, which leave the queue. -/
theorem exec_updateStepStart_loads {l : List BlockRun} (hidle : (unitState u s).step = []) (hnext : nextStep u s = b :: bs)
    (hfree : boundaryTaken u b.set_ s = false) (hplaces : placesFree (b :: bs) s = true)
    (hmay : setMayRun b.set_ s = true) (hvacant : setVacant (setEntry b.set_ s) s = false)
    (hsnoop : snoopLines false (stepRanges (b :: bs) s) s = []) (hsound : setDamaged (setEntry b.set_ s) s = false)
    (hload : loadBlocks (b :: bs) s = (some l, t)) :
    exec (.updateStepStart u) s = .next (framed (modUnit u (fun x => { x with
      queue := x.queue.drop (b :: bs).length, step := l, ip := 0, gave := false }) t) s) := by
  simp only [exec, execUpdateStepStart]
  rw [run_alive _ _ ha]
  simp only [hnext, hidle, hfree, hplaces, hmay, hvacant, List.isEmpty_nil, Bool.true_eq_false, Bool.false_eq_true, or_self,
    if_false]
  rw [afterSnoops_clear _ _ _ _ hsnoop]
  simp only [hsound, hload, Bool.false_eq_true, if_false]

/-- The end of a step whose instructions have run stores its blocks, and then the set may be finished. -/
theorem exec_updateStepEnd_stores (hstep : (unitState u s).step = b :: bs)
    (hran : (partSpan (progOf (setEntry b.set_ s).prog s) b.part).2 ≤
      (partSpan (progOf (setEntry b.set_ s).prog s) b.part).1 + (unitState u s).ip)
    (hsnoop : snoopLines true (stepRanges (b :: bs) s) s = []) :
    exec (.updateStepEnd u) s = .next (framed (releaseAccesses true (dropTorn (finishSet b.set_
      (modUnit u (fun x => { x with step := [], ip := 0 }) (forEach (b :: bs) storeBlock s))))) s) := by
  simp only [exec, execUpdateStepEnd]
  rw [run_alive _ _ ha]
  simp only [hstep, Nat.not_lt.mpr hran, if_false]
  rw [afterSnoops_clear _ _ _ _ hsnoop]

end

/-! ### REAPPLY and START_STEP (08 R295; 09 R307) -/

theorem writeReapply_refused (w : Writer) {v : Nat} {s : State}
    (h : begunNow (v % 2048) s = true ∨ s.upd.landed.contains (v % 2048) = false ∨ running 2 s = false ∨
      (setEntry (v % 2048) s).valid = false) : writeReapply w v s = (0x03000004, s) :=
  if_pos (h.imp_right (Or.imp_right (Or.imp_right Or.inr)))

/-- A set whose landing is kept runs again, as though triggered. -/
theorem writeReapply_starts (w : Writer) {v n : Nat} {s : State} (hn : n = v % 2048) (hfresh : begunNow n s = false)
    (hlanded : s.upd.landed.contains n = true) (hrun : running 2 s = true) (hvalid : (setEntry n s).valid = true)
    (hnsq : (setEntry n s).clip = false ∨ nth false s.upd.nsqValid (setEntry n s).clipGroup = true) :
    writeReapply w v s = (0, startSet n (emit 0x2406 n n
      { s with upd := { s.upd with triggered := insertBy id n (s.upd.triggered.filter (· != n)) } })) := by
  subst hn
  have hclip : (!(setEntry (v % 2048) s).clip || nth false s.upd.nsqValid (setEntry (v % 2048) s).clipGroup) = true := by
    rcases hnsq with h | h <;> simp [h]
  simp only [writeReapply, hfresh, hlanded, hrun, hvalid, hclip, Bool.true_eq_false, Bool.false_eq_true, or_self, if_false]

theorem writeStartStep_refused (w : Writer) (v : Nat) {s : State} (h : runOf 2 s ≠ .stopped) :
    writeStartStep w v s = (0x03000001, s) :=
  if_pos h

theorem writeStartStep_opens (w : Writer) (v : Nat) {s : State} (h : runOf 2 s = .stopped) :
    writeStartStep w v s = (0, openNewStep (setStep v 0 s)) :=
  if_neg (not_not_intro h)

section

variable {s : State} (w : Writer) (ha : alive s = true)

include ha

/-- REAPPLY that is accepted is answered with what its rule says. -/
theorem exec_reapply_of_write {v : BitVec 32} {c : Nat} {t : State} (hacc : accepts w 0x7030 1 v.toNat s = true)
    (h : writeReapply w v.toNat s = (c, t)) : exec (.reapply w v) s = .next (framed (answerWith w 0 c [] t) s) := by
  simp only [exec, execReapply]
  rw [run_command_accepted _ _ _ _ _ _ ha hacc, h]

/-- START_STEP that is accepted is answered with what its rule says. -/
theorem exec_startStep_of_write {v : BitVec 64} {c : Nat} {t : State} (hacc : accepts w 0x7100 4 v.toNat s = true)
    (h : writeStartStep w v.toNat s = (c, t)) : exec (.startStep w v) s = .next (framed (answerWith w 0 c [] t) s) := by
  simp only [exec, execStartStep]
  rw [run_command_accepted _ _ _ _ _ _ ha hacc, h]

end

end Sys2Proof.Machine

open Sys2Proof Sys2Proof.Machine

/-- Settles O46: the set that begins, the two kinds of block and their requests, the two ends of a step, and the two writes by
their rules. -/
theorem updateSetsAndSteps : Obligations.UpdateSetsAndSteps :=
  ⟨fun _ _ ha hrun hfirst => exec_setBegin_begins ha hrun hfirst,
    fun _ tag _ _ _ errs ha hr hwhole hthawed hnext hblock hmay hheld => by
      rw [exec_updateWork_sends tag _ errs ha hr, sendBlock_moment tag errs hwhole hthawed hnext hblock hmay hheld],
    fun _ tag _ _ _ _ errs ha hr hwhole hthawed hd => by
      rw [exec_updateWork_sends tag _ errs ha hr, sendBlock_master tag errs hwhole hthawed hd],
    fun _ _ _ _ _ _ _ hgone hform hkind hzero hds => takeWork_queued hgone hform hkind hzero hds,
    fun _ _ _ _ _ _ h => takeWork_unqueued h,
    fun _ _ _ _ ha hidle hnext htaken => exec_updateStepStart_gives ha hidle hnext htaken,
    fun _ _ => rfl,
    fun _ _ _ _ _ _ ha hidle hnext hfree hplaces hmay hvacant hsnoop hsound hload =>
      exec_updateStepStart_loads ha hidle hnext hfree hplaces hmay hvacant hsnoop hsound hload,
    fun _ _ _ _ _ ha hstep hran hsnoop ht => ht ▸ exec_updateStepEnd_stores ha hstep hran hsnoop,
    fun _ w _ ha hacc h => exec_reapply_of_write w ha hacc (writeReapply_refused w h),
    fun _ w _ _ ha hacc hn hfresh hlanded hrun hvalid hnsq =>
      exec_reapply_of_write w ha hacc (writeReapply_starts w hn hfresh hlanded hrun hvalid hnsq),
    fun _ _ => ⟨startSet_reachable, startSet_unreachable⟩,
    fun _ w v ha hacc h => exec_startStep_of_write w ha hacc (writeStartStep_refused w v.toNat h),
    fun _ w v ha hacc h => exec_startStep_of_write w ha hacc (writeStartStep_opens w v.toNat h)⟩
end

section
/-! PROOF. Update instructions: the one that is next in a unit's running step acts on every block of it, and any other leaves the
state (08 R271 to R275, R296, R297). -/

namespace Sys2Proof.Machine

open Sys2Proof

/-! ### The next instruction (08 R270, R272) -/

section

variable {s : State} {u op n : Nat} {i : UpdInstr}

theorem onBlocks_next (f : UpdInstr → Nat → State → BlockRun → BlockRun) (h : currentInstr u op s = some (i, n)) :
    onBlocks u op f s = modUnit u (fun x => { x with step := x.step.map (f i n s), ip := x.ip + 1 }) s := by
  simp only [onBlocks, h]

theorem onBlocks_other (f : UpdInstr → Nat → State → BlockRun → BlockRun) (h : currentInstr u op s = none) :
    onBlocks u op f s = s := by
  simp only [onBlocks, h]

theorem run_onBlocks_next (f : UpdInstr → Nat → State → BlockRun → BlockRun) (ha : alive s = true)
    (h : currentInstr u op s = some (i, n)) : run (onBlocks u op f) s =
      .next (framed (modUnit u (fun x => { x with step := x.step.map (f i n s), ip := x.ip + 1 }) s) s) := by
  rw [run_alive _ _ ha, onBlocks_next f h]

/-- Each of the nine arithmetic commands runs its operation on the lanes of the step's blocks. -/
theorem exec_updRow {k : Nat → Instr} {g : UpdInstr → Nat → Nat → Nat → Nat} (hk : (op, k, g) ∈ updRows) :
    exec (k u) s = run (onBlocks u op (execArith g)) s := by
  simp only [updRows, List.mem_cons, Prod.mk.injEq, List.not_mem_nil, or_false] at hk
  rcases hk with ⟨rfl, rfl, rfl⟩ | ⟨rfl, rfl, rfl⟩ | ⟨rfl, rfl, rfl⟩ | ⟨rfl, rfl, rfl⟩ | ⟨rfl, rfl, rfl⟩ | ⟨rfl, rfl, rfl⟩ |
    ⟨rfl, rfl, rfl⟩ | ⟨rfl, rfl, rfl⟩ | ⟨rfl, rfl, rfl⟩ <;> rfl

end

/-! ### ST (08 R272, R296, R297) -/

/-- What an ST leaves in the units and in NONFINITE_STORES: state slot B of each block, and the count of `m` more values. -/
def stStored (u m : Nat) (i : UpdInstr) (s : State) : State :=
  bumpBy m Obj.NONFINITE_STORES
    (modUnit u (fun x => { x with step := x.step.map (fun b => stBlock i s b), ip := x.ip + 1 }) s)

section

variable {s : State} {u n m : Nat} {i : UpdInstr} {b : BlockRun} {bs : List BlockRun} (ha : alive s = true)
  (hcur : currentInstr u 0x11 s = some (i, n)) (hstep : (unitState u s).step = b :: bs)
  (hm : sumNat ((b :: bs).map (stNonfinite i s)) = m)

include ha hcur hstep hm

/-- An ST with no non-finite value, or of a set whose code 0x2405 has been written, only stores and counts. -/
theorem exec_st_counts (h : m = 0 ∨ (setRunOf b.set_ s).map (·.noted) = some true) :
    exec (.st u) s = .next (framed (stStored u m i s) s) := by
  simp only [exec, execSt]
  rw [run_alive _ _ ha]
  simp only [hcur, hstep, hm, onBlocks_next _ hcur, stStored]
  rcases h with hzero | hnoted
  · rw [if_neg fun hnew => Nat.ne_of_gt hnew.1 hzero]
  · obtain ⟨r, hr, hrn⟩ := Option.map_eq_some_iff.mp hnoted
    simp only [hr, hrn, Bool.true_eq_false, and_false, if_false]

/-- The first non-finite value of a set in its step is reported besides. -/
theorem exec_st_notes {r : SetRun} (hpos : 0 < m) (hr : setRunOf b.set_ s = some r) (hnew : r.noted = false) :
    exec (.st u) s = .next (framed (emit 0x2405 b.set_ b.set_
      (modSetRun b.set_ (fun r => { r with noted := true }) (stStored u m i s))) s) := by
  simp only [exec, execSt]
  rw [run_alive _ _ ha]
  simp only [hcur, hstep, hm, onBlocks_next _ hcur, stStored, hr, hnew, hpos, and_self, if_true]

end

end Sys2Proof.Machine

open Sys2Proof Sys2Proof.Machine

/-- Settles O47: every instruction but ST by the one rule of the step's next instruction, and ST with its count. -/
theorem updateInstructionsRun : Obligations.UpdateInstructionsRun :=
  ⟨fun _ _ _ _ _ _ _ hk ha hcur => (exec_updRow hk).trans (run_onBlocks_next _ ha hcur),
    fun _ _ _ _ _ hk hcur => (exec_updRow hk).trans (run_idle _ _ (onBlocks_other _ hcur)),
    fun _ _ _ _ ha hcur => run_onBlocks_next _ ha hcur,
    fun _ _ _ _ ha hcur => run_onBlocks_next _ ha hcur,
    fun _ _ _ _ ha hcur => run_onBlocks_next _ ha hcur,
    fun _ _ _ _ ha hcur => run_onBlocks_next _ ha hcur,
    fun _ _ _ _ ha hcur => run_onBlocks_next _ ha hcur,
    fun _ _ _ _ _ _ _ ha hcur hstep hm h => exec_st_counts ha hcur hstep hm h,
    fun _ _ _ _ _ _ _ _ ha hcur hstep hm hpos hr hnew => exec_st_notes ha hcur hstep hm hpos hr hnew⟩
end

section
/-! PROOF. Routed transfers: how a DESC is opened, refused or ends a restore, where DATA lands, and what each REPORT of the far
end does here (09 R313 to R316, R326, R327; 10 R366 to R368; 14 R492, R496). -/

namespace Sys2Proof.Machine

open Sys2Proof

/-! ### DESC flits (10 R366 step 2, R367, R368) -/

/-- The transfer that a DESC opens into tensor `t`, for part `part` of set `n`. -/
def descXfer (f : Flit) (t n part : Nat) : Xfer :=
  { Xfer.init with
    peer := f.src, no := f.xfer, desc := BitVec.ofNat 256 (flitData f 0),
    extra := (List.range 7).map fun i => dataSector (flitData f (i + 1)), tensor := t, opened := true, set_ := n, part := part }

/-- A transfer of this module waits for its DATA, in place of one that its sender began under the same number. -/
def awaitData (x : Xfer) (s : State) : State :=
  { s with net := { s.net with rxX := s.net.rxX.filter (fun y => !(y.peer == x.peer && y.no == x.no)) ++ [x] } }

/-- What a DESC of an OP the spec defines comes to: in Sit-out it is refused whatever it names; else the target it names opens
its transfer, or is refused with its reason. PART 3 of a restore carries the donor's COMMITTED and no sectors. -/
def decideDesc (f : Flit) (s : State) : State :=
  if inSitout s then answerDesc f 3 3 0 s
  else match descTarget f s with
    | .error r => answerDesc f 3 r 0 (onlyIf (descOp (flitData f 0) == 1 && r == 1) (emit 0x8007 0 1) s)
    | .ok (t, n, part) =>
      if part = 3 then restoreEnds (fld (flitData f 3) 191 128) (answerDesc f 2 0 0 s)
      else
        let x := descXfer f t n part
        let s := answerDesc f 1 0 t (awaitData x s)
        if descLen (flitData f 0) = 0 then completeRx x s else s

theorem exec_descRow {op : Nat} {row : Nat → Flit → Instr} (hrow : (op, row) ∈ descRows) (k : Nat) (f : Flit) (s : State) :
    (1 ≤ op ∧ op ≤ 6) ∧ exec (row k f) s = run (takeDesc op k f) s := by
  simp only [descRows, List.mem_cons, List.not_mem_nil, or_false, Prod.mk.injEq] at hrow
  obtain ⟨rfl, rfl⟩ | ⟨rfl, rfl⟩ | ⟨rfl, rfl⟩ | ⟨rfl, rfl⟩ | ⟨rfl, rfl⟩ | ⟨rfl, rfl⟩ := hrow <;> exact ⟨by decide, rfl⟩

/-- The row of a delivered DESC's OP takes it and decides it. -/
theorem exec_descRow_decides {s : State} {k op : Nat} {f : Flit} {row : Nat → Flit → Instr} (hrow : (op, row) ∈ descRows)
    (ha : alive s = true) (hlocal : s.net.local_.contains (k, f) = true) (hkind : f.kind = 1)
    (hop : descOp (flitData f 0) = op) : exec (row k f) s = .next (framed (decideDesc f (taken k f s)) s) := by
  obtain ⟨hknown, hexec⟩ := exec_descRow hrow k f s
  subst hop
  rw [hexec, run_alive _ _ ha, takeDesc, takeLocal_taken _ _ _ _ _ hlocal (by simp [hkind])]
  simp only [hknown, and_self, decide_true, true_and]
  rfl

section

variable {f : Flit} {s : State}

theorem decideDesc_sitout (hso : inSitout s = true) : decideDesc f s = answerDesc f 3 3 0 s := if_pos hso

variable (hso : inSitout s = false)

include hso

theorem decideDesc_refuses {op r : Nat} (hop : descOp (flitData f 0) = op) (htarget : descTarget f s = .error r) :
    decideDesc f s = answerDesc f 3 r 0 (onlyIf (op == 1 && r == 1) (emit 0x8007 0 1) s) := by
  subst hop
  simp only [decideDesc, hso, htarget, Bool.false_eq_true, if_false]

variable {t n part : Nat}

theorem decideDesc_opens (htarget : descTarget f s = .ok (t, n, part)) (hpart : part ≠ 3)
    (hlen : descLen (flitData f 0) ≠ 0) :
    decideDesc f s = answerDesc f 1 0 t (awaitData (descXfer f t n part) s) := by
  simp only [decideDesc, hso, htarget, hpart, hlen, Bool.false_eq_true, if_false]

theorem decideDesc_endsRestore (htarget : descTarget f s = .ok (t, n, 3)) :
    decideDesc f s = restoreEnds (fld (flitData f 3) 191 128) (answerDesc f 2 0 0 s) := by
  simp only [decideDesc, hso, htarget, Bool.false_eq_true, if_false, if_true]

end

/-! ### DATA flits (10 R366 steps 4 and 5) -/

/-- The first sector that a DATA flit of transfer `x` is written to. -/
def dataFirst (f : Flit) (x : Xfer) (s : State) : Nat := (tensorOf x.tensor s).home + descStart x.desc.toNat + 8 * f.foff

section

variable {s : State} {k : Nat} {f : Flit} (ha : alive s = true) (hlocal : s.net.local_.contains (k, f) = true)
  (hkind : f.kind = 2)

include ha hlocal hkind

theorem exec_dataFlit_accepts {x : Xfer} (hx : s.net.rxX.find? (fun x => x.peer == f.src && x.no == f.xfer) = some x)
    (hstill : (tensorOf x.tensor s).state ≠ 2)
    (hthawed : (List.range (carried f).length).any (fun i => frozenAt 2 (dataFirst f x s + i) s) = false)
    (hfree : xferWhole x (f.foff :: x.got) = true →
      rangeHeld ((tensorOf x.tensor s).home + descStart x.desc.toNat) (descLen x.desc.toNat) s = false)
    (hsnoop : snoopLines true [(dataFirst f x s, (carried f).length)] s = []) :
    exec (.dataFlit k f) s = .next (framed (acceptData f x (taken k f s)) s) := by
  have hlast : ¬ (xferWhole x (f.foff :: x.got) = true ∧
      rangeHeld ((tensorOf x.tensor s).home + descStart x.desc.toNat) (descLen x.desc.toNat) s = true) :=
    fun ⟨hwhole, hheld⟩ => ne_true_of_eq_false (hfree hwhole) hheld
  unfold dataFirst at hthawed hsnoop
  simp only [exec, execDataFlit]
  rw [run_alive _ _ ha]
  simp only [hx, hstill, hthawed, hlast, hlocal, hkind, Bool.false_eq_true, Bool.true_eq_false, ne_eq, not_true_eq_false,
    or_self, if_false]
  rw [afterSnoops_clear _ _ _ _ hsnoop, takeLocal_taken _ _ _ _ _ hlocal rfl]

/-- DATA of no open transfer is discarded. -/
theorem exec_dataFlit_discards (hx : s.net.rxX.find? (fun x => x.peer == f.src && x.no == f.xfer) = none) :
    exec (.dataFlit k f) s = .next (framed (emit 0x3015 0 f.src (taken k f s)) s) := by
  simp only [exec, execDataFlit]
  rw [run_alive _ _ ha]
  simp only [hx]
  rw [takeLocal_taken _ _ _ _ _ hlocal (beq_iff_eq.mpr hkind)]

end

/-! ### REPORT flits (09 R314, R316; 10 R366, R368) -/

section

variable {s : State} {k : Nat} {f : Flit} (hlocal : s.net.local_.contains (k, f) = true) (hkind : f.kind = 3)

include hlocal hkind

theorem takeReport_taken {status : Nat} (hstatus : fld (flitData f 0) 255 248 = status) (g : State → State) :
    takeReport status k f g s = g (taken k f s) :=
  takeLocal_taken _ _ _ _ _ hlocal (by rw [hkind, hstatus, beq_self_eq_true, beq_self_eq_true, Bool.and_self])

variable (ha : alive s = true)

include ha

theorem exec_opened_opens {x : Xfer} (hstatus : fld (flitData f 0) 255 248 = 1) (hx : answeredTx f (taken k f s) = some x)
    (hclosed : x.opened = false) (hfree : reportHeld f s = false) (hsnoop : snoopLines false (reportRanges f s) s = []) :
    exec (.opened k f) s = .next (framed (transferOpened x (taken k f s)) s) := by
  simp only [exec, execOpened]
  rw [run_alive _ _ ha, if_neg (ne_true_of_eq_false hfree), afterSnoops_clear _ _ _ _ hsnoop,
    takeReport_taken hlocal hkind hstatus]
  simp only [hx, hclosed, Bool.false_eq_true, if_false]

theorem exec_complete_completes {x : Xfer} (hstatus : fld (flitData f 0) 255 248 = 2)
    (hx : answeredTx f (taken k f s) = some x) :
    exec (.complete k f) s = .next (framed (transferComplete x (taken k f s)) s) := by
  simp only [exec, execComplete]
  rw [run_alive _ _ ha, takeReport_taken hlocal hkind hstatus]
  simp only [hx]

theorem exec_refused_refuses {x : Xfer} (hstatus : fld (flitData f 0) 255 248 = 3)
    (hx : answeredTx f (taken k f s) = some x) (hfree : reportHeld f s = false) :
    exec (.refused k f) s = .next (framed (transferRefused x (fld (flitData f 0) 247 240) (taken k f s)) s) := by
  simp only [exec, execRefused]
  rw [run_alive _ _ ha, if_neg (ne_true_of_eq_false hfree), takeReport_taken hlocal hkind hstatus]
  simp only [hx]

/-- The report of an applied set, of the step its record holds, sets PARTNER_APPLIED there. -/
theorem exec_appliedReport_confirms {n : Nat} (hstatus : fld (flitData f 0) 255 248 = 0x10)
    (hset : matchSet false (fld (flitData f 0) 215 192) (fld (flitData f 0) 191 152) (taken k f s) = some n)
    (hstep : (recOf n (taken k f s)).step = fld (flitData f 0) 151 88) :
    exec (.appliedReport k f) s = .next (framed (confirmStep
      (setRec n { recOf n (taken k f s) with partner := true } (taken k f s))) s) := by
  simp only [exec, execAppliedReport]
  rw [run_alive _ _ ha, takeReport_taken hlocal hkind hstatus]
  simp only [hset, hstep, if_true]

/-- An offer is answered and compared once the figure here has fired; in Sit-out none has to. -/
theorem exec_syncOffer_compares (hstatus : fld (flitData f 0) 255 248 = 0x11)
    (hdue : s.trn.syncEntry.isSome = true ∨ inSitout s = true) :
    exec (.syncOffer k f) s = .next (framed (compareSync f (sendSync 0x12 (taken k f s))) s) := by
  have hnotEarly : ¬ (s.trn.syncEntry.isNone = true ∧ inSitout s = false) := by
    rcases hdue with hfired | hso
    · simp [Option.isSome_iff_ne_none.mp hfired]
    · simp [hso]
  simp only [exec, execSyncOffer]
  rw [run_alive _ _ ha, if_neg hnotEarly, takeReport_taken hlocal hkind hstatus]

theorem exec_syncAnswer_compares (hstatus : fld (flitData f 0) 255 248 = 0x12) :
    exec (.syncAnswer k f) s = .next (framed (compareSync f (taken k f s)) s) := by
  simp only [exec, execSyncAnswer]
  rw [run_alive _ _ ha, takeReport_taken hlocal hkind hstatus]

end

end Sys2Proof.Machine

open Sys2Proof Sys2Proof.Machine

/-- Settles O48: a DESC by the row of its OP and the target it names, DATA by the transfer it belongs to, and each REPORT by the
rule of its status. -/
theorem routedTransfersRun : Obligations.RoutedTransfersRun :=
  ⟨fun _ _ _ _ _ _ _ _ hrow ha hlocal hkind hop hso htarget hpart hlen => by
      rw [exec_descRow_decides hrow ha hlocal hkind hop, decideDesc_opens hso htarget hpart hlen]
      rfl,
    fun _ _ _ _ _ _ hrow ha hlocal hkind hop hso htarget => by
      rw [exec_descRow_decides hrow ha hlocal hkind hop, decideDesc_refuses hso hop htarget],
    fun _ _ _ _ _ hrow ha hlocal hkind hop hso => by
      rw [exec_descRow_decides hrow ha hlocal hkind hop, decideDesc_sitout hso],
    fun _ _ _ _ _ ha hlocal hkind hop hso htarget => by
      have hrow : (2, Instr.restore) ∈ descRows := by simp [descRows]
      rw [exec_descRow_decides hrow ha hlocal hkind hop, decideDesc_endsRestore hso htarget],
    fun _ _ _ _ ha hlocal hkind hx hstill hthawed hfree hsnoop =>
      exec_dataFlit_accepts ha hlocal hkind hx hstill hthawed hfree hsnoop,
    fun _ _ _ ha hlocal hkind hx => exec_dataFlit_discards ha hlocal hkind hx,
    fun _ _ _ _ ha hlocal hkind hstatus hx hclosed hfree hsnoop =>
      exec_opened_opens hlocal hkind ha hstatus hx hclosed hfree hsnoop,
    fun _ _ _ _ ha hlocal hkind hstatus hx => exec_complete_completes hlocal hkind ha hstatus hx,
    fun _ _ _ _ ha hlocal hkind hstatus hx hfree => exec_refused_refuses hlocal hkind ha hstatus hx hfree,
    fun _ _ _ _ ha hlocal hkind hstatus hset hstep => exec_appliedReport_confirms hlocal hkind ha hstatus hset hstep,
    fun _ _ _ ha hlocal hkind hstatus hdue => exec_syncOffer_compares hlocal hkind ha hstatus hdue,
    fun _ _ _ ha hlocal hkind hstatus => exec_syncAnswer_compares hlocal hkind ha hstatus⟩
end

section
/-! PROOF. The ends of collectives, of the Bow and of digests: what the engine does on its turn when each is due (09 R318 to R321,
R329 to R332; 11 R402, R403). -/

namespace Sys2Proof.Machine

open Sys2Proof

/-! ### Rounds and ends of a collective (11 R402, R403) -/

/-- What a collective that has completed sets going: a landing is retained, and a clip sum is its group's NSQ. -/
def collEffect (c : Coll) (s : State) : State :=
  if collOp c = 1 then landingDone (collDest c) s
  else if collOp c = 5 then match clipGroupOf c.tensor s with
    | some g => clipDone g (collDest c) s
    | none => s
  else s

section

variable {s u : State} {tag : Nat} {c : Coll} (ha : alive s = true) (hu : u = engineTurn s) (hslot : slotOf tag u = some c)

include ha hu hslot

theorem exec_roundStart_begins (hkind : c.kind = 0) (hphase : c.phase = .running) (hdone : recordsDone c = true)
    (hredo : redoAny c = true) (hround : c.round < 31) (hfree : ((sourceRanges c u).any fun r => rangeHeld r.1 r.2 u) = false)
    (hsnoop : snoopLines false (sourceRanges c u) u = []) :
    exec (.roundStart tag) s = .next (framed (nextRound tag c u) s) := by
  simp only [exec, execRoundStart]
  rw [run_alive _ _ ha]
  simp only [← hu, hslot, hkind, hphase, hdone, hredo, hfree, Nat.not_le.mpr hround, ne_eq, not_true_eq_false,
    Bool.true_eq_false, Bool.false_eq_true, or_self, if_false]
  rw [afterSnoops_clear _ _ _ _ hsnoop]

/-- A collective with nothing left to do, and nothing that holds its destination, ends and has its effect. -/
theorem exec_collectiveComplete_ends (hdone : collDone c = true)
    (hfree : rangeHeld (tensorOf (collDest c) u).home (tensorOf (collDest c) u).size u = false) :
    exec (.collectiveComplete tag) s = .next (framed (collEffect c (endColl c u)) s) := by
  simp only [exec, execCollectiveComplete]
  rw [run_alive _ _ ha]
  simp only [← hu, hslot, hdone, hfree, Bool.true_eq_false, Bool.false_eq_true, or_self, if_false]
  rfl

end

section

variable {c : Coll} {s : State}

theorem collEffect_landing (hop : collOp c = 1) : collEffect c s = landingDone (collDest c) s := if_pos hop

theorem collEffect_clip {g : Nat} (hop : collOp c = 5) (hg : clipGroupOf c.tensor s = some g) :
    collEffect c s = clipDone g (collDest c) s := by
  simp only [collEffect, hop, hg, OfNat.ofNat_ne_one, if_false, if_true]

theorem collEffect_other (hrs : collOp c ≠ 1) (hclip : collOp c ≠ 5) : collEffect c s = s := by
  rw [collEffect, if_neg hrs, if_neg hclip]

end

/-! ### The Bow (09 R318, R319, R321) -/

/-- What the sums of a Bow come to: the step commits, rolls forward or stays open. -/
def bowVerdict (c : Coll) (u : State) : State :=
  if bowSum c 0 = collP c ∧ bowSum c 1 = collP c * openStep u then freeSlot c 0 (commitStep (bump Obj.COMPLETED u))
  else if (collP c : Int) * openStep u < bowSum c 1 ∧ c.c0 = some true then
    freeSlot c 0 (emit 0x8006 0 (openStep (bump Obj.COMPLETED u)) (commitStep (bump Obj.COMPLETED u)))
  else freeSlot c 1 (emit 0x8002 0 ((collP c : Int) - bowSum c 0).toNat (bump Obj.BOWS_OPEN (bump Obj.COMPLETED u)))

section

variable {s u : State} {tag : Nat} {c : Coll} (ha : alive s = true) (hu : u = engineTurn s) (hslot : slotOf tag u = some c)

include ha hu hslot

theorem exec_bowResult_decides (hkind : c.kind = 1) (hfinals : finalsDone c = true) :
    exec (.bowResult tag) s = .next (framed (bowVerdict c u) s) := by
  simp only [exec, execBowResult]
  rw [run_alive _ _ ha]
  simp only [← hu, hslot, hkind, hfinals, ne_eq, not_true_eq_false, Bool.true_eq_false, or_self, if_false]
  rfl

theorem exec_bowMarginExpire_contributes (hlate : c.deadline < now u + rd Obj.BOW_MARGIN u * 2 ^ beatB u) :
    exec (.bowMarginExpire tag) s = .next (framed (contributeBow tag false u) s) := by
  simp only [exec, execBowMarginExpire]
  rw [run_alive _ _ ha]
  simp only [← hu, hslot, hlate, if_true]

end

section

variable {c : Coll} {u : State}

theorem bowVerdict_commits (h0 : bowSum c 0 = collP c) (h1 : bowSum c 1 = collP c * openStep u) :
    bowVerdict c u = freeSlot c 0 (commitStep (bump Obj.COMPLETED u)) := if_pos ⟨h0, h1⟩

theorem bowVerdict_rollsForward (hahead : (collP c : Int) * openStep u < bowSum c 1) (hconfirmed : c.c0 = some true) :
    bowVerdict c u = freeSlot c 0 (emit 0x8006 0 (openStep (bump Obj.COMPLETED u)) (commitStep (bump Obj.COMPLETED u))) := by
  rw [bowVerdict, if_neg fun h => hahead.ne' h.2, if_pos ⟨hahead, hconfirmed⟩]

/-- Sums that do not agree leave the step open here, unless others are ahead and this module has confirmed it. -/
theorem bowVerdict_leavesOpen (hdiffer : ¬ (bowSum c 0 = collP c ∧ bowSum c 1 = collP c * openStep u))
    (hbehind : bowSum c 1 ≤ (collP c : Int) * openStep u ∨ c.c0 ≠ some true) :
    bowVerdict c u = freeSlot c 1 (emit 0x8002 0 ((collP c : Int) - bowSum c 0).toNat
      (bump Obj.BOWS_OPEN (bump Obj.COMPLETED u))) := by
  have hstays : ¬ ((collP c : Int) * openStep u < bowSum c 1 ∧ c.c0 = some true) :=
    fun ⟨hahead, hconfirmed⟩ => hbehind.elim (Int.not_le.mpr hahead) (· hconfirmed)
  rw [bowVerdict, if_neg hdiffer, if_neg hstays]

end

/-! ### Digests (09 R329 to R332) -/

/-- With the digest of every tensor of a figure kept, its replicas are gathered, or its comparison ends. -/
def digestsKept (entry compares tag : Nat) (v : State) : State :=
  if (digestRuns entry v).all (·.done) = false then v
  else if bitOf compares 0 then digestRound 3 tag (contributeDigests tag v)
  else endCompare tag v

theorem exec_digestComputed_keeps {s u : State} {entry t : Nat} {d : DigestRun} {c : Coll}
    (partner : Option (Nat × List (BitVec 128))) (ha : alive s = true) (hu : u = engineTurn s)
    (hrun : (digestRuns entry u).find? (fun d => d.tensor == t && !d.done) = some d)
    (hslot : u.col.slots.find? (fun c => c.tag == entry && c.kind == 6) = some c)
    (hfree : rangeHeld (tensorOf t u).home (tensorOf t u).size u = false) (hentry : digestEntryHeld t u = false)
    (hsnoop : snoopLines false [((tensorOf t u).home, (tensorOf t u).size)] u = []) :
    exec (.digestComputed entry t partner) s = .next (framed (digestsKept entry (digestCompares entry u) c.tag
      (takeDigest d (digestCompares entry u) partner u)) s) := by
  simp only [exec, execDigestComputed]
  rw [run_alive _ _ ha]
  simp only [← hu, hrun, hslot, hfree, hentry, Bool.false_eq_true, or_self, if_false]
  rw [afterSnoops_clear _ _ _ _ hsnoop]
  rfl

section

variable {entry compares tag : Nat} {v : State}

theorem digestsKept_more (hopen : (digestRuns entry v).all (·.done) = false) : digestsKept entry compares tag v = v :=
  if_pos hopen

variable (hall : (digestRuns entry v).all (·.done) = true)

include hall

theorem digestsKept_gathers (hreplicas : bitOf compares 0 = true) :
    digestsKept entry compares tag v = digestRound 3 tag (contributeDigests tag v) := by
  rw [digestsKept, if_neg (ne_false_of_eq_true hall), if_pos hreplicas]

theorem digestsKept_ends (hreplicas : bitOf compares 0 = false) : digestsKept entry compares tag v = endCompare tag v := by
  rw [digestsKept, if_neg (ne_false_of_eq_true hall), if_neg (ne_true_of_eq_false hreplicas)]

end

end Sys2Proof.Machine

open Sys2Proof Sys2Proof.Machine

/-- Settles O50: after the engine's turn, a collective ends with the effect of its OP, a Bow by the verdict on its sums, and a
digest by what its figure still waits for. -/
theorem collectivesEndAndStepsCommit : Obligations.CollectivesEndAndStepsCommit :=
  ⟨fun _ _ _ _ ha hu hslot hkind hphase hdone hredo hround hfree hsnoop =>
      exec_roundStart_begins ha hu hslot hkind hphase hdone hredo hround hfree hsnoop,
    fun _ _ _ _ ha hu hslot hdone hfree hop => by
      rw [exec_collectiveComplete_ends ha hu hslot hdone hfree, collEffect_landing hop],
    fun _ _ _ _ _ ha hu hslot hdone hfree hop hg => by
      rw [exec_collectiveComplete_ends ha hu hslot hdone hfree, collEffect_clip hop hg],
    fun _ _ _ _ ha hu hslot hdone hfree hrs hclip => by
      rw [exec_collectiveComplete_ends ha hu hslot hdone hfree, collEffect_other hrs hclip],
    fun _ _ _ _ ha hu hslot hkind hfinals h0 h1 => by
      rw [exec_bowResult_decides ha hu hslot hkind hfinals, bowVerdict_commits h0 h1],
    fun _ _ _ _ ha hu hslot hkind hfinals hahead hconfirmed => by
      rw [exec_bowResult_decides ha hu hslot hkind hfinals, bowVerdict_rollsForward hahead hconfirmed],
    fun _ _ _ _ ha hu hslot hkind hfinals hmissing hbehind => by
      rw [exec_bowResult_decides ha hu hslot hkind hfinals, bowVerdict_leavesOpen (fun h => hmissing h.1) hbehind],
    fun _ _ _ _ ha hu hslot hlate => exec_bowMarginExpire_contributes ha hu hslot hlate,
    fun _ _ _ _ _ _ _ partner ha hu hrun hslot hfree hentry hsnoop hv hopen => by
      rw [exec_digestComputed_keeps partner ha hu hrun hslot hfree hentry hsnoop, ← hv, digestsKept_more hopen],
    fun _ _ _ _ _ _ _ partner ha hu hrun hslot hfree hentry hsnoop hv hall hreplicas => by
      rw [exec_digestComputed_keeps partner ha hu hrun hslot hfree hentry hsnoop, ← hv, digestsKept_gathers hall hreplicas],
    fun _ _ _ _ _ _ _ partner ha hu hrun hslot hfree hentry hsnoop hv hall hreplicas => by
      rw [exec_digestComputed_keeps partner ha hu hrun hslot hfree hentry hsnoop, ← hv, digestsKept_ends hall hreplicas]⟩
end

section
/-! PROOF. Links that are lost and trained again: which state each loss and each timer acts on, and what a hold that runs out ends
(10 R357, R358, R360, R374 to R376). -/

namespace Sys2Proof.Machine

open Sys2Proof

/-! ### Links that carry frames (10 R357) -/

theorem linkLive_iff {k : Nat} {s : State} : linkLive k s = true ↔ (linkOf k s).state = .up ∨ (linkOf k s).state = .hold := by
  simp only [linkLive, Bool.or_eq_true, beq_iff_eq]

theorem not_linkLive_iff {k : Nat} {s : State} :
    linkLive k s = false ↔ (linkOf k s).state ≠ .up ∧ (linkOf k s).state ≠ .hold := by
  rw [← Bool.not_eq_true, linkLive_iff, not_or]

/-! ### HOLD_TIMEOUT (10 R357, R374) -/

section

variable {s : State} {k : Nat}

theorem exec_holdTimeout_expires (ha : alive s = true) (hhold : (linkOf k s).state = .hold)
    (hlate : stateFor k 8001 s = true) : exec (.holdTimeout k) s = .next (framed (ringNext k (linkDown k 8 s)) s) := by
  simp only [exec, execHoldTimeout]
  rw [run_alive _ _ ha, if_neg (by simp [hhold, hlate])]

theorem exec_holdTimeout_waits (h : (linkOf k s).state ≠ .hold ∨ stateFor k 8001 s = false) :
    exec (.holdTimeout k) s = .next s := by
  simp only [exec, execHoldTimeout]
  exact run_idle _ _ (if_pos h)

end

end Sys2Proof.Machine

open Sys2Proof Sys2Proof.Machine

/-- Settles O52: each loss and each timer acts on the link where it finds it in its own state, and a hold that runs out moves its
calibration on. -/
theorem linksGoDownAndRetrain : Obligations.LinksGoDownAndRetrain :=
  ⟨fun _ _ ha => by simp only [exec, execLossOfLight]; rw [run_alive _ _ ha],
    fun _ _ ha => by simp only [exec, execScrcTimeout]; rw [run_alive _ _ ha],
    fun _ _ ha => by simp only [exec, execAlignmentLost]; rw [run_alive _ _ ha],
    fun _ _ ha => by simp only [exec, execTrainingTimeout]; rw [run_alive _ _ ha],
    fun _ _ ha hhold hlate => exec_holdTimeout_expires ha hhold hlate,
    fun _ _ _ h => exec_holdTimeout_waits h,
    fun _ _ ha => by simp only [exec, execLinkRetryTimer]; rw [run_alive _ _ ha],
    fun _ _ ha => by simp only [exec, execLinkUsableTimer]; rw [run_alive _ _ ha]⟩
end

section
/-! PROOF. The end of training, and what gives a link light: its lasers, its optical engine and LINK_CONTROL (10 R357, R360, R372,
R374, R376; 14 R504; 16 R549; 18 R576). -/

namespace Sys2Proof.Machine

open Sys2Proof

/-! ### LINK_TRAINING_COMPLETE (10 R357, R372, R374) -/

section

variable {s : State} {k : Nat} (n m r b : Nat) (ha : alive s = true)

include ha

theorem exec_linkTrainingComplete_loop (ht : (linkOf k s).state = .training) (hid : nodeId s ≠ 0) :
    exec (.linkTrainingComplete k (nodeId s) m r b) s =
      .next (framed (linkDown k 5 (modLink k (fun l => { l with farNode := nodeId s, farLink := m }) s)) s) := by
  simp only [exec, execLinkTrainingComplete]
  rw [run_alive _ _ ha, if_neg (not_not_intro ht), if_pos ⟨rfl, hid⟩]

theorem exec_linkTrainingComplete_up (ht : (linkOf k s).state = .training) (hfar : n ≠ nodeId s ∨ nodeId s = 0) :
    exec (.linkTrainingComplete k n m r b) s = .next (framed (trainedLink k n m r b s) s) := by
  simp only [exec, execLinkTrainingComplete]
  rw [run_alive _ _ ha, if_neg (not_not_intro ht), if_neg fun hloop => hfar.elim (· hloop.1) hloop.2]

theorem exec_linkTrainingComplete_idle (ht : (linkOf k s).state ≠ .training) :
    exec (.linkTrainingComplete k n m r b) s = .next (framed s s) := by
  simp only [exec, execLinkTrainingComplete]
  rw [run_alive _ _ ha, if_pos ht]

end

/-! ### LASER_BIAS_CHECK (10 R360) -/

/-- The warning of a laser's bias is due: above 90% of its limit, and not given before. -/
def biasWarns (e v b : Nat) (s : State) : Bool := decide (90 < b) && !nth true (engineOf e s).warned v

/-- A laser's bias is warned of where that is due, and whether the laser holds launch power is noted. -/
def biasChecked (e v b : Nat) (holds : Bool) (s : State) : State :=
  modEngine e (fun x => { x with laserOk := x.laserOk.set v holds }) (onlyIf (biasWarns e v b s)
    (fun u => emit 0x3022 e (e * 2 + v) (modEngine e (fun x => { x with warned := x.warned.set v true }) u)) s)

section

variable {s : State} {e v b : Nat}

theorem biasChecked_silent (holds : Bool) (h : b ≤ 90 ∨ nth true (engineOf e s).warned v = true) :
    biasChecked e v b holds s = modEngine e (fun x => { x with laserOk := x.laserOk.set v holds }) s := by
  have hdue : biasWarns e v b s = false := by
    rcases h with hlow | hwarned
    · simp [biasWarns, hlow]
    · simp [biasWarns, hwarned]
  simp only [biasChecked, hdue, onlyIf, Bool.false_eq_true, if_false]

theorem biasChecked_warns (holds : Bool) (hhigh : 90 < b) (hnew : nth true (engineOf e s).warned v = false) :
    biasChecked e v b holds s = modEngine e (fun x => { x with laserOk := x.laserOk.set v holds })
      (emit 0x3022 e (e * 2 + v) (modEngine e (fun x => { x with warned := x.warned.set v true }) s)) := by
  have hdue : biasWarns e v b s = true := by simp [biasWarns, hhigh, hnew]
  simp only [biasChecked, hdue, onlyIf, if_true]

theorem exec_laserBiasCheck_holds (ha : alive s = true) :
    exec (.laserBiasCheck e v b true) s = .next (framed (lightLinks (biasChecked e v b true s)) s) := by
  simp only [exec, execLaserBiasCheck, if_true]
  rw [run_alive _ _ ha]
  rfl

theorem exec_laserBiasCheck_fails (ha : alive s = true) :
    exec (.laserBiasCheck e v b false) s = .next (framed (forEach (engineLinks e) (fun k u =>
      onlyIf ((linkOf k u).state != .lockedOut) (darken k 6) u) (biasChecked e v b false s)) s) := by
  simp only [exec, execLaserBiasCheck, Bool.false_eq_true, if_false]
  rw [run_alive _ _ ha]
  rfl

end

/-! ### Optical engines (14 R504; 16 R549) -/

section

variable {s : State} {e : Nat} (ha : alive s = true) (he : e < 8)

include ha he

theorem exec_opticalEngineFault_darkens (hnew : (engineOf e s).faulted = false) : exec (.opticalEngineFault e) s =
    .next (framed (forEach (engineLinks e) (fun k => darken k 6)
      (emit 0x3901 e e (modEngine e (fun x => { x with faulted := true }) s))) s) := by
  simp only [exec, execOpticalEngineFault]
  rw [run_alive _ _ ha, if_neg (by simp [he, hnew])]

theorem exec_opticalEngineOvertemp_darkens (hon : (engineOf e s).hotOff = false)
    (hlong : (engineOf e s).hot90At.any (fun a => decide (a + 100000000 ≤ s.clk.ticks)) = true) :
    exec (.opticalEngineOvertemp e) s = .next (framed (forEach (engineLinks e) (fun k => darken k 6)
      (emit 0x5112 e e (modEngine e (fun x => { x with hotOff := true }) s))) s) := by
  simp only [exec, execOpticalEngineOvertemp]
  rw [run_alive _ _ ha, if_neg (by simp [he, hon, hlong])]

end

end Sys2Proof.Machine

open Sys2Proof Sys2Proof.Machine

/-- Settles O53: the three ends of training, the laser check with and without its warning, the two losses of an engine, and the
three values of LINK_CONTROL by their rule. -/
theorem trainingEndsAndLasersRule : Obligations.TrainingEndsAndLasersRule :=
  ⟨fun _ _ _ m r b ha ht hn hid => by subst hn; exact exec_linkTrainingComplete_loop m r b ha ht hid,
    fun _ _ n m r b ha ht hfar => exec_linkTrainingComplete_up n m r b ha ht hfar,
    fun _ _ n m r b ha ht => exec_linkTrainingComplete_idle n m r b ha ht,
    fun _ _ _ _ ha h => by rw [exec_laserBiasCheck_holds ha, biasChecked_silent true h],
    fun _ _ _ _ ha hhigh hnew => by rw [exec_laserBiasCheck_holds ha, biasChecked_warns true hhigh hnew],
    fun s e v b ha => ⟨biasChecked e v b false s, exec_laserBiasCheck_fails ha, rfl⟩,
    fun _ _ ha he hnew => exec_opticalEngineFault_darkens ha he hnew,
    fun _ _ ha he hon hlong => exec_opticalEngineOvertemp_darkens ha he hon hlong,
    fun _ _ _ ha => run_alive _ _ ha,
    fun s w k ha hacc => run_command_accepted w 0x8002 (k + 1) 0 (writeLinkControl k 0) s ha hacc,
    fun s w k ha hacc => run_command_accepted w 0x8002 (k + 1) 1 (writeLinkControl k 1) s ha hacc,
    fun s w k ha hacc => run_command_accepted w 0x8002 (k + 1) 2 (writeLinkControl k 2) s ha hacc⟩
end

section
/-! PROOF. Frames received: the slot is read first, and what follows is decided by the NAKs it counts, by the frame's checks and by
its number (10 R346, R349 to R351, R353, R358, R363, R374, R376). -/

namespace Sys2Proof.Machine

open Sys2Proof

/-- What a frame comes to once its slot has been read into `t`, where `rxNo` is the last number accepted: the sixteenth NAK of one
frame ends the link, a bad frame is asked for again, one out of order is ignored, and the next in order is accepted. -/
def frameTaken (k x rxNo : Nat) (flits : List Flit) (bad : Bool) (t : State) : State :=
  if 16 ≤ (linkOf k t).nakRun then linkDown k 3 t
  else if bad = true ∨ scrcOk x = false ∨ flits.all hcrcOk = false then modLink k (fun l => { l with nak := true }) t
  else if fld x 575 560 ≠ (rxNo + 1) % 65536 then t
  else acceptFrame k x flits t

section

variable {k x rxNo : Nat} {fl : List Flit} {bad : Bool} {t : State}

theorem frameTaken_ends (hnaks : 16 ≤ (linkOf k t).nakRun) : frameTaken k x rxNo fl bad t = linkDown k 3 t := if_pos hnaks

variable (hnaks : (linkOf k t).nakRun < 16)

include hnaks

theorem frameTaken_naks (hbroken : bad = true ∨ scrcOk x = false ∨ fl.all hcrcOk = false) :
    frameTaken k x rxNo fl bad t = modLink k (fun l => { l with nak := true }) t := by
  rw [frameTaken, if_neg (Nat.not_le.mpr hnaks), if_pos hbroken]

variable (hfec : bad = false) (hslot : scrcOk x = true) (hflits : fl.all hcrcOk = true)

include hfec hslot hflits

theorem frameTaken_whole : frameTaken k x rxNo fl bad t =
    if fld x 575 560 ≠ (rxNo + 1) % 65536 then t else acceptFrame k x fl t := by
  rw [frameTaken, if_neg (Nat.not_le.mpr hnaks), if_neg (by simp only [hfec, hslot, hflits]; decide)]

theorem frameTaken_ignores (hno : fld x 575 560 ≠ (rxNo + 1) % 65536) : frameTaken k x rxNo fl bad t = t := by
  rw [frameTaken_whole hnaks hfec hslot hflits, if_pos hno]

theorem frameTaken_accepts (hno : fld x 575 560 = (rxNo + 1) % 65536) :
    frameTaken k x rxNo fl bad t = acceptFrame k x fl t := by
  rw [frameTaken_whole hnaks hfec hslot hflits, if_neg (not_not_intro hno)]

end

section

variable {s : State} {k : Nat} {x : BitVec 640} (fl : List Flit) {bad : Bool} (cor : Nat) (ha : alive s = true)

include ha

theorem exec_frameReceive_trains (hdown : (linkOf k s).state = .down) (hgood : bad = false ∧ scrcOk x.toNat = true)
    (hbringup : fld x.toNat 542 539 = 2) (hlight : lightOk k s = true) :
    exec (.frameReceive k x fl bad cor) s = .next (framed (startTraining k s) s) := by
  simp only [exec, execFrameReceive]
  rw [run_alive _ _ ha, if_pos ⟨hdown, hgood, hbringup, hlight⟩]

theorem exec_frameReceive_idle (hlive : linkLive k s = false)
    (hno : (linkOf k s).state = .down →
      ¬ ((bad = false ∧ scrcOk x.toNat = true) ∧ fld x.toNat 542 539 = 2 ∧ lightOk k s = true)) :
    exec (.frameReceive k x fl bad cor) s = .next (framed s s) := by
  simp only [exec, execFrameReceive]
  rw [run_alive _ _ ha, if_neg fun h => hno h.1 h.2, if_pos hlive]

variable (hlive : linkLive k s = true)

include hlive

/-- A frame on a link that carries frames is held against the far end it names before its slot counts. -/
theorem exec_frameReceive_live : exec (.frameReceive k x fl bad cor) s = .next (framed
    (if (bad = false ∧ scrcOk x.toNat = true) ∧
        (fld x.toNat 527 504 ≠ (linkOf k s).farNode ∨ fld x.toNat 533 528 ≠ (linkOf k s).farLink)
      then linkDown k 5 s
      else frameTaken k x.toNat (linkOf k s).rxNo fl bad (takeSlot k x.toNat bad cor s)) s) := by
  have hup : (linkOf k s).state ≠ .down := by
    rcases linkLive_iff.mp hlive with h | h <;> simp [h]
  simp only [exec, execFrameReceive]
  rw [run_alive _ _ ha, if_neg fun h => hup h.1, if_neg (by simp [hlive])]
  rfl

theorem exec_frameReceive_otherEnd (hgood : bad = false ∧ scrcOk x.toNat = true)
    (hother : fld x.toNat 527 504 ≠ (linkOf k s).farNode ∨ fld x.toNat 533 528 ≠ (linkOf k s).farLink) :
    exec (.frameReceive k x fl bad cor) s = .next (framed (linkDown k 5 s) s) := by
  rw [exec_frameReceive_live fl cor ha hlive, if_pos ⟨hgood, hother⟩]

theorem exec_frameReceive_takes (hsame : ¬ ((bad = false ∧ scrcOk x.toNat = true) ∧
      (fld x.toNat 527 504 ≠ (linkOf k s).farNode ∨ fld x.toNat 533 528 ≠ (linkOf k s).farLink))) :
    exec (.frameReceive k x fl bad cor) s =
      .next (framed (frameTaken k x.toNat (linkOf k s).rxNo fl bad (takeSlot k x.toNat bad cor s)) s) := by
  rw [exec_frameReceive_live fl cor ha hlive, if_neg hsame]

end

end Sys2Proof.Machine

open Sys2Proof Sys2Proof.Machine

/-- Settles O54: a frame that finds no live link trains it or is lost, one of another far end ends it, and any other is taken by its
slot, its checks and its number. -/
theorem framesAreReceived : Obligations.FramesAreReceived :=
  ⟨fun _ _ _ fl _ cor ha hdown hgood hbringup hlight => exec_frameReceive_trains fl cor ha hdown hgood hbringup hlight,
    fun _ _ _ fl _ cor ha hlive hno => exec_frameReceive_idle fl cor ha hlive hno,
    fun _ _ _ fl _ cor ha hlive hgood hother => exec_frameReceive_otherEnd fl cor ha hlive hgood hother,
    fun _ _ _ fl _ cor ha hlive hsame hnaks => by
      rw [exec_frameReceive_takes fl cor ha hlive hsame, frameTaken_ends hnaks],
    fun _ _ _ fl _ cor ha hlive hsame hnaks hbroken => by
      rw [exec_frameReceive_takes fl cor ha hlive hsame, frameTaken_naks hnaks hbroken],
    fun _ _ _ fl _ cor ha hlive hsame hnaks hfec hslot hflits hno => by
      rw [exec_frameReceive_takes fl cor ha hlive hsame, frameTaken_ignores hnaks hfec hslot hflits hno],
    fun _ _ _ fl _ cor ha hlive hsame hnaks hfec hslot hflits hno => by
      rw [exec_frameReceive_takes fl cor ha hlive hsame, frameTaken_accepts hnaks hfec hslot hflits hno]⟩
end

section
/-! PROOF. Flits transmitted: the order in which a replay, the Sit-out token, the waiting flits and an idle flit come to the next
position of a link that is UP (10 R349, R353 to R356, R358; 11 R399, R411). -/

namespace Sys2Proof.Machine

open Sys2Proof

/-- The position goes to the flit that the order of 10 R355 and the windows of 11 R399 choose, or to an idle flit. -/
def chosenPlaced (k : Nat) (s : State) : State :=
  let t := windowStep k (chooseFlit k s).2 s
  match (chooseFlit k s).1 with
  | none => placeFlit k idleFlit t
  | some f => match useCredit f (linkOf k t) with
    | none => placeFlit k idleFlit t
    | some (g, l) => sendFlit k f g l t

/-- What the next position of a link that is UP is filled with. -/
def positionFilled (k : Nat) (s : State) : State :=
  if (linkOf k s).again.isSome = true then replayFlit k s
  else if (linkOf k s).tokenDue = true ∧ (linkOf k s).token0 = true then
    placeFlit k (sitoutToken s) (modLink k (fun l => { l with tokenDue := false, token0 := false }) s)
  else if (linkOf k s).cur = [] ∧ (linkOf k s).replaying ≠ [] then replayFlit k s
  else if replayRoom k s = false then placeFlit k idleFlit s
  else chosenPlaced k s

section

variable {s : State} {k : Nat} (ha : alive s = true)

include ha

theorem exec_flitTransmit_down (hdown : (linkOf k (routesRetried s)).state ≠ .up) :
    exec (.flitTransmit k) s = .next (framed (routesRetried s) s) := by
  simp only [exec, execFlitTransmit]
  rw [run_alive _ _ ha, if_pos hdown]

theorem exec_flitTransmit_up (hup : (linkOf k (routesRetried s)).state = .up) :
    exec (.flitTransmit k) s = .next (framed (positionFilled k (routesRetried s)) s) := by
  simp only [exec, execFlitTransmit]
  rw [run_alive _ _ ha, if_neg (not_not_intro hup)]
  rfl

end

section

variable {t : State} {k : Nat}

theorem chosenPlaced_idle (hnone : (chooseFlit k t).1 = none) :
    chosenPlaced k t = placeFlit k idleFlit (windowStep k (chooseFlit k t).2 t) := by
  simp only [chosenPlaced, hnone]

theorem chosenPlaced_sends {f g : Flit} {l : Link} (hsome : (chooseFlit k t).1 = some f)
    (hcredit : useCredit f (linkOf k (windowStep k (chooseFlit k t).2 t)) = some (g, l)) :
    chosenPlaced k t = sendFlit k f g l (windowStep k (chooseFlit k t).2 t) := by
  simp only [chosenPlaced, hsome, hcredit]

theorem positionFilled_goesOn (hagain : (linkOf k t).again.isSome = true) : positionFilled k t = replayFlit k t :=
  if_pos hagain

variable (hagain : (linkOf k t).again = none)

include hagain

theorem positionFilled_token (hdue : (linkOf k t).tokenDue = true) (hcredit : (linkOf k t).token0 = true) :
    positionFilled k t =
      placeFlit k (sitoutToken t) (modLink k (fun l => { l with tokenDue := false, token0 := false }) t) := by
  rw [positionFilled, if_neg (by simp [hagain]), if_pos ⟨hdue, hcredit⟩]

variable (htoken : (linkOf k t).tokenDue = false ∨ (linkOf k t).token0 = false)

include htoken

/-- With no frame under way again and no token to go, a replay begins where a frame has ended. -/
theorem positionFilled_noToken : positionFilled k t =
    if (linkOf k t).cur = [] ∧ (linkOf k t).replaying ≠ [] then replayFlit k t
    else if replayRoom k t = false then placeFlit k idleFlit t
    else chosenPlaced k t := by
  have hnotoken : ¬ ((linkOf k t).tokenDue = true ∧ (linkOf k t).token0 = true) := by
    rcases htoken with h | h <;> simp [h]
  rw [positionFilled, if_neg (by simp [hagain]), if_neg hnotoken]

theorem positionFilled_replays (hended : (linkOf k t).cur = []) (hdue : (linkOf k t).replaying ≠ []) :
    positionFilled k t = replayFlit k t := by
  rw [positionFilled_noToken hagain htoken, if_pos ⟨hended, hdue⟩]

variable (hnew : (linkOf k t).cur ≠ [] ∨ (linkOf k t).replaying = [])

include hnew

theorem positionFilled_new : positionFilled k t =
    if replayRoom k t = false then placeFlit k idleFlit t else chosenPlaced k t := by
  rw [positionFilled_noToken hagain htoken, if_neg fun h => hnew.elim (· h.1) h.2]

theorem positionFilled_full (hroom : replayRoom k t = false) : positionFilled k t = placeFlit k idleFlit t := by
  rw [positionFilled_new hagain htoken hnew, if_pos hroom]

theorem positionFilled_chosen (hroom : replayRoom k t = true) : positionFilled k t = chosenPlaced k t := by
  rw [positionFilled_new hagain htoken hnew, if_neg (by simp [hroom])]

end

end Sys2Proof.Machine

open Sys2Proof Sys2Proof.Machine

/-- Settles O55: a link that is not UP sends nothing, and the next position of one that is UP is filled in the order of the
clauses. -/
theorem flitsAreTransmitted : Obligations.FlitsAreTransmitted :=
  ⟨fun _ _ _ ha ht hdown => by subst ht; exact exec_flitTransmit_down ha hdown,
    fun _ _ _ ha ht hup hagain => by subst ht; rw [exec_flitTransmit_up ha hup, positionFilled_goesOn hagain],
    fun _ _ _ ha ht hup hagain hdue hcredit => by
      subst ht; rw [exec_flitTransmit_up ha hup, positionFilled_token hagain hdue hcredit],
    fun _ _ _ ha ht hup hagain htoken hended hdue => by
      subst ht; rw [exec_flitTransmit_up ha hup, positionFilled_replays hagain htoken hended hdue],
    fun _ _ _ ha ht hup hagain htoken hnew hroom => by
      subst ht; rw [exec_flitTransmit_up ha hup, positionFilled_full hagain htoken hnew hroom],
    fun _ _ _ ha ht hup hagain htoken hnew hroom hnone => by
      subst ht; rw [exec_flitTransmit_up ha hup, positionFilled_chosen hagain htoken hnew hroom, chosenPlaced_idle hnone],
    fun _ _ _ _ _ _ ha ht hup hagain htoken hnew hroom hsome hcredit => by
      subst ht
      rw [exec_flitTransmit_up ha hup, positionFilled_chosen hagain htoken hnew hroom, chosenPlaced_sends hsome hcredit]⟩
end

section
/-! PROOF. Holds and ring calibration, and the calibration of a link's asymmetry (10 R357 to R359, R371). -/

namespace Sys2Proof.Machine

open Sys2Proof

/-! ### Ring calibration and holds (10 R357 to R359) -/

section

variable {s : State} {k : Nat} (ha : alive s = true)

include ha

theorem exec_ringCalLink_elsewhere (hat : ringLink s ≠ some k) : exec (.ringCalLink k) s = .next (framed s s) := by
  simp only [exec, execRingCalLink]
  rw [run_alive _ _ ha, if_pos hat]

theorem exec_ringCalLink_givesUp {r : RingFig} {rest : List RingFig} (hat : ringLink s = some k)
    (hmay : ringMayStart s = false) (hfigs : s.net.ringFigs = r :: rest) : exec (.ringCalLink k) s =
      .next (framed (endFigure r.entry 0 { s with net := { s.net with ringFigs := rest } }) s) := by
  simp only [exec, execRingCalLink]
  rw [run_alive _ _ ha, if_neg (not_not_intro hat), if_pos hmay, hfigs]

/-- A calibration that is at this link and may start there holds a link that is UP, waits for one in a hold and passes over any
other. -/
theorem exec_ringCalLink_here (hat : ringLink s = some k) (hmay : ringMayStart s = true) : exec (.ringCalLink k) s =
    .next (framed (if (linkOf k s).state = .up then announceHold k s
      else if (linkOf k s).state = .hold then s else ringNext k s) s) := by
  simp only [exec, execRingCalLink]
  rw [run_alive _ _ ha, if_neg (not_not_intro hat), if_neg (by simp [hmay])]

theorem exec_holdEnd_replays (hhold : (linkOf k s).state = .hold) : exec (.holdEnd k) s =
    .next (framed (ringNext k (modLink k (fun l => { replayAll l with state := .up, stateAt := s.clk.ticks }) s)) s) := by
  simp only [exec, execHoldEnd]
  rw [run_alive _ _ ha, if_neg (not_not_intro hhold)]

theorem exec_holdEnd_idle (hhold : (linkOf k s).state ≠ .hold) : exec (.holdEnd k) s = .next (framed s s) := by
  simp only [exec, execHoldEnd]
  rw [run_alive _ _ ha, if_pos hhold]

theorem exec_ringMaxAgeExpire_begins {e : Nat} (hage : (engineOf e s).calAge + rd Obj.RING_MAX_AGE s ≤ opSec s)
    (hfree : (s.net.ringFigs.any fun r => r.urgent && r.engines.contains e) = false) (hbusy : ringBusy e s = false)
    (he : e < 8) : exec (.ringMaxAgeExpire e) s = .next (framed (emit 0x3021 e e (bump Obj.URGENT_RING_CALS
      { s with net := { s.net with ringFigs := ⟨0, [e], 0, true⟩ :: s.net.ringFigs } })) s) := by
  simp only [exec, execRingMaxAgeExpire]
  rw [run_alive _ _ ha, if_pos ⟨hage, hfree, hbusy, he⟩]

end

/-! ### Asymmetry (10 R371) -/

theorem writeAsymCal_begins {w : Writer} {s : State} (hlocked : s.tim.servo = .locked)
    (hsource : ¬ (rd Obj.TIME_MODE s = 0 ∧ rd Obj.PTP_LINK s = selectorOf w.via 0x8005 s))
    (hlive : linkLive (selectorOf w.via 0x8005 s) s = true) : writeAsymCal w 1 s =
      (0, modLink (selectorOf w.via 0x8005 s) (fun l => { l with asymCal := true, asymAt := s.clk.ticks }) s) := by
  have hfree : ¬ (s.tim.servo ≠ .locked ∨ (rd Obj.TIME_MODE s = 0 ∧ rd Obj.PTP_LINK s = selectorOf w.via 0x8005 s) ∨
      linkLive (selectorOf w.via 0x8005 s) s = false) := by
    simp only [hlocked, hsource, hlive]; decide
  rw [writeAsymCal, if_neg (not_not_intro rfl), if_neg hfree]

section

variable {s : State} {k : Nat} {both : Bool} (asym : BitVec 32) (hcal : (linkOf k s).asymCal = true)

include hcal

theorem exec_asymCalEnd_stores (ha : alive s = true) (hboth : both = true) (hlocked : s.tim.servo = .locked)
    (hfull : (linkOf k s).asymAt + 64000000000 ≤ s.clk.ticks) : exec (.asymCalEnd k both asym) s =
      .next (framed (saveDue [(Obj.ASYM_VALID k).key, (Obj.LINK_ASYM k).key] (wr (Obj.ASYM_VALID k) 1
        (wr (Obj.LINK_ASYM k) asym.toNat (modLink k (fun l => { l with asymCal := false }) s)))) s) := by
  simp only [exec, execAsymCalEnd]
  rw [run_alive _ _ ha, if_neg (by simp [hcal]), if_pos ⟨hboth, hlocked⟩, if_neg (not_not_intro hfull)]

theorem exec_asymCalEnd_measures (hboth : both = true) (hlocked : s.tim.servo = .locked)
    (hshort : s.clk.ticks < (linkOf k s).asymAt + 64000000000) : exec (.asymCalEnd k both asym) s = .next s := by
  simp only [exec, execAsymCalEnd]
  apply run_idle
  rw [if_neg (by simp [hcal]), if_pos ⟨hboth, hlocked⟩, if_pos (Nat.not_le.mpr hshort)]

theorem exec_asymCalEnd_fails (ha : alive s = true) (hleft : both = false ∨ s.tim.servo ≠ .locked) :
    exec (.asymCalEnd k both asym) s = .next (framed (asymFails k s) s) := by
  have hnotboth : ¬ (both = true ∧ s.tim.servo = .locked) := fun h => hleft.elim (by simp [h.1]) (· h.2)
  simp only [exec, execAsymCalEnd]
  rw [run_alive _ _ ha, if_neg (by simp [hcal]), if_neg hnotboth]

end

end Sys2Proof.Machine

open Sys2Proof Sys2Proof.Machine

/-- Settles O56: the calibration by the state of the link it is at, the two sides of a hold's end, the urgent calibration, and the
asymmetry's beginning and three ends. -/
theorem holdsRingsAndAsymmetry : Obligations.HoldsRingsAndAsymmetry :=
  ⟨fun _ _ ha hat hmay hup => by rw [exec_ringCalLink_here ha hat hmay, if_pos hup],
    fun _ _ ha hat hmay hhold => by rw [exec_ringCalLink_here ha hat hmay, if_neg (by simp [hhold]), if_pos hhold],
    fun _ _ ha hat hmay hlive => by
      obtain ⟨hup, hhold⟩ := not_linkLive_iff.mp hlive
      rw [exec_ringCalLink_here ha hat hmay, if_neg hup, if_neg hhold],
    fun _ _ _ _ ha hat hmay hfigs => exec_ringCalLink_givesUp ha hat hmay hfigs,
    fun _ _ ha hat => exec_ringCalLink_elsewhere ha hat,
    fun _ _ ha hhold => exec_holdEnd_replays ha hhold,
    fun _ _ ha hhold => exec_holdEnd_idle ha hhold,
    fun _ _ ha hage hfree hbusy he => exec_ringMaxAgeExpire_begins ha hage hfree hbusy he,
    fun s w ha hacc hlocked hsource hlive => by
      simp only [exec, execAsymCal]
      rw [run_command_accepted _ _ _ _ _ _ ha hacc, writeAsymCal_begins hlocked hsource hlive],
    fun _ _ _ asym ha hcal hboth hlocked hfull => exec_asymCalEnd_stores asym hcal ha hboth hlocked hfull,
    fun _ _ _ asym _ hcal hboth hlocked hshort => exec_asymCalEnd_measures asym hcal hboth hlocked hshort,
    fun _ _ _ asym ha hcal hleft => exec_asymCalEnd_fails asym hcal ha hleft⟩
end

section
/-! PROOF. The collective engine's flits and tokens: what a VL0 flit meets by the collective of its TAG, what an abort token ends
or is kept for, and what goes at its deadline (11 R392 to R398, R408 to R412, R635; 14 R494, R502). -/

namespace Sys2Proof.Machine

open Sys2Proof

/-! ### VL0 flits (11 R392, R397, R398, R635) -/

/-- What a VL0 flit comes to when the collective of its TAG is not in flight: it is discarded for one that has ended, discarded
with code 0x3109 when its TAG has no deadline ahead, and else staged while the landing buffer has room. -/
def strayVl0 (k : Nat) (f : Flit) (u : State) : State :=
  if tagEnded (flitTag f) u then takenRx k f u
  else match tagDeadline (flitTag f) u with
    | none => emit 0x3109 0 (flitTag f) (takenRx k f u)
    | some d =>
      if 131072 ≤ u.col.staged.length then u
      else { takenRx k f u with col := { (takenRx k f u).col with staged := (takenRx k f u).col.staged ++ [(k, f, d)] } }

section

variable {k : Nat} {f : Flit} {u : State} (hended : tagEnded (flitTag f) u = false)

theorem strayVl0_ended (hended : tagEnded (flitTag f) u = true) : strayVl0 k f u = takenRx k f u := if_pos hended

include hended

theorem strayVl0_late (hd : tagDeadline (flitTag f) u = none) :
    strayVl0 k f u = emit 0x3109 0 (flitTag f) (takenRx k f u) := by
  simp only [strayVl0, hended, hd, Bool.false_eq_true, if_false]

theorem strayVl0_stages {d : Nat} (hd : tagDeadline (flitTag f) u = some d) (hroom : u.col.staged.length < 131072) :
    strayVl0 k f u = { takenRx k f u with col := { (takenRx k f u).col with
      staged := (takenRx k f u).col.staged ++ [(k, f, d)] } } := by
  simp only [strayVl0, hended, hd, Nat.not_le.mpr hroom, Bool.false_eq_true, if_false]

end

section

variable {s u : State} {k kind : Nat} {f : Flit} (hvl : f.vl = 0) (hkind : f.kind = kind) (hu : u = engineTurn s)
  (hrx : (linkOf k u).rx.contains f = true)

include hvl hkind hu hrx

/-- A flit of a collective in flight goes to it, unless a snoop holds its destination or its digest is in an earlier round. -/
theorem takeVl0_inFlight {c : Coll} (hslot : slotOf (flitTag f) u = some c) (hround : ¬ (c.kind = 6 ∧ c.round < flitRound f))
    (hsnoop : c.kind = 0 → snoopLines true [((tensorOf (collDest c) u).home, (tensorOf (collDest c) u).size)] u = []) :
    takeVl0 kind k f s = handleFlit k f (takenRx k f u) := by
  simp only [takeVl0, hvl, hkind, ← hu, hslot, hround, ne_eq, not_true_eq_false, or_self, if_false]
  by_cases hcoll : c.kind = 0
  · rw [if_pos hcoll, afterSnoops_clear _ _ _ _ (hsnoop hcoll), takeRx_taken _ _ _ _ hrx]
  · rw [if_neg hcoll, takeRx_taken _ _ _ _ hrx]

theorem takeVl0_stray (hslot : slotOf (flitTag f) u = none) : takeVl0 kind k f s = strayVl0 k f u := by
  simp only [takeVl0, hvl, hkind, ← hu, hslot, takeRx_taken _ _ _ _ hrx, ne_eq, not_true_eq_false, or_self, if_false]
  rfl

end

/-- REDUCE, RECORD and COMBINE each take the flits of their KIND. -/
theorem exec_vl0Row {kind : Nat} {row : Nat → Flit → Instr} (hrow : (kind, row) ∈ vl0Rows) {s : State} (ha : alive s = true)
    (k : Nat) (f : Flit) : exec (row k f) s = .next (framed (takeVl0 kind k f s) s) := by
  simp only [vl0Rows, List.mem_cons, List.not_mem_nil, or_false, Prod.mk.injEq] at hrow
  obtain ⟨rfl, rfl⟩ | ⟨rfl, rfl⟩ | ⟨rfl, rfl⟩ := hrow <;> exact run_alive _ _ ha

/-- PLAIN takes its flit, which may make a digest's round whole. -/
theorem exec_plain_takes {s : State} (ha : alive s = true) (k : Nat) (f : Flit) :
    exec (.plain k f) s = .next (framed (digestRound 3 (flitTag f) (takeVl0 0xA k f s)) s) := by
  simp only [exec, execPlain]
  rw [run_alive _ _ ha]

/-! ### Abort tokens (11 R410 to R412; 14 R494) -/

/-- What an abort token from link `k` does: with ABORT_ALL it aborts every collective whose plan names the link, else the one of
its TAG; one for a collective that has ended or has no deadline ahead is discarded, and any other is kept until that deadline. -/
def meetToken (k : Nat) (f : Flit) (v : State) : State :=
  if bitOf f.hdr.toNat 106 then
    forEach (v.col.slots.filter fun c => (collLinks c).contains k) (fun c => tokenAbort c (fld f.hdr.toNat 97 74)) v
  else match slotOf (flitTag f) v with
    | some c => tokenAbort c (fld f.hdr.toNat 97 74) v
    | none =>
      if tagEnded (flitTag f) v then v
      else match tagDeadline (flitTag f) v with
        | none => v
        | some d => { v with col := { v.col with tokens := (v.col.tokens.filter fun t => t.tag != flitTag f) ++
            [⟨flitTag f, fld f.hdr.toNat 97 74, fld f.hdr.toNat 105 98, d⟩] } }

section

variable {k : Nat} {f : Flit} {v : State}

theorem meetToken_all (hall : bitOf f.hdr.toNat 106 = true) : meetToken k f v =
    forEach (v.col.slots.filter fun c => (collLinks c).contains k) (fun c => tokenAbort c (fld f.hdr.toNat 97 74)) v :=
  if_pos hall

variable (hone : bitOf f.hdr.toNat 106 = false)

include hone

theorem meetToken_aborts {c : Coll} (hslot : slotOf (flitTag f) v = some c) :
    meetToken k f v = tokenAbort c (fld f.hdr.toNat 97 74) v := by
  simp only [meetToken, hone, hslot, Bool.false_eq_true, if_false]

theorem meetToken_kept {d : Nat} (hslot : slotOf (flitTag f) v = none) (hended : tagEnded (flitTag f) v = false)
    (hd : tagDeadline (flitTag f) v = some d) : meetToken k f v =
      { v with col := { v.col with tokens := (v.col.tokens.filter fun t => t.tag != flitTag f) ++
        [⟨flitTag f, fld f.hdr.toNat 97 74, fld f.hdr.toNat 105 98, d⟩] } } := by
  simp only [meetToken, hone, hslot, hended, hd, Bool.false_eq_true, if_false]

end

/-- A token of REASON 1 or 2 may also tell that the partner is in Sit-out; one of any other REASON only meets the collectives. -/
theorem exec_abortToken_meets {s u : State} {k : Nat} {f : Flit} (ha : alive s = true) (hvl : f.vl = 2) (hkind : f.kind = 7)
    (hu : u = engineTurn s) (hrx : (linkOf k u).rx.contains f = true) (hnotSitout : fld f.hdr.toNat 105 98 ≠ 1)
    (hnotRelay : fld f.hdr.toNat 105 98 ≠ 2) :
    exec (.abortToken k f) s = .next (framed (meetToken k f (takenRx k f u)) s) := by
  simp only [exec, execAbortToken]
  rw [run_alive _ _ ha]
  simp only [hvl, hkind, ← hu, takeRx_taken _ _ _ _ hrx, hnotSitout, hnotRelay, ne_eq, not_true_eq_false, or_self, false_and,
    if_false]
  rfl

/-! ### Local faults and deadlines (11 R398, R410, R412; 14 R502) -/

theorem exec_collectiveLocalFault_aborts {s u : State} {tag : Nat} {c : Coll} (ha : alive s = true) (hu : u = engineTurn s)
    (hslot : slotOf tag u = some c) :
    exec (.collectiveLocalFault tag) s = .next (framed (countRepeat 192 (localFault c u)) s) := by
  simp only [exec, execCollectiveLocalFault]
  rw [run_alive _ _ ha]
  simp only [← hu, hslot]

theorem exec_stagedFlitExpire_drops {s : State} {tag : Nat} (ha : alive s = true)
    (hdue : (s.col.staged.any fun p => flitTag p.2.1 == tag && decide (p.2.2 ≤ now s)) = true) :
    exec (.stagedFlitExpire tag) s = .next (framed (emit 0x3109 0 tag (dropStaged tag s)) s) := by
  simp only [exec, execStagedFlitExpire]
  rw [run_alive _ _ ha, if_pos hdue]

/-- Kept tokens go at their deadline, and nothing else of the state moves. -/
theorem exec_keptTokenExpire_drops {s : State} (tag : Nat) (ha : alive s = true) : exec (.keptTokenExpire tag) s =
    .next { s with col := { s.col with
      tokens := s.col.tokens.filter fun t => !(t.tag == tag && decide (t.deadline ≤ now s)) } } := by
  simp only [exec, execKeptTokenExpire]
  rw [run_alive _ _ ha]
  rfl

end Sys2Proof.Machine

open Sys2Proof Sys2Proof.Machine

/-- Settles O49: after the engine's turn, a flit by the collective of its TAG, an abort token by its ABORT_ALL and its TAG, and
each deadline by what it drops. -/
theorem collectiveFlitsAndTokens : Obligations.CollectiveFlitsAndTokens :=
  ⟨fun _ _ _ _ _ _ _ hrow ha hvl hkind hu hrx hslot hcoll hsnoop => by
      rw [exec_vl0Row hrow ha, takeVl0_inFlight hvl hkind hu hrx hslot (by simp [hcoll]) fun _ => hsnoop],
    fun _ _ _ _ _ _ _ hrow ha hvl hkind hu hrx hslot hother hround => by
      rw [exec_vl0Row hrow ha, takeVl0_inFlight hvl hkind hu hrx hslot
        (fun h => hround.elim (· h.1) (Nat.not_le.mpr h.2)) (absurd · hother)],
    fun _ _ _ _ _ _ hrow ha hvl hkind hu hrx hslot hended => by
      rw [exec_vl0Row hrow ha, takeVl0_stray hvl hkind hu hrx hslot, strayVl0_ended hended],
    fun _ _ _ _ _ _ hrow ha hvl hkind hu hrx hslot hended hd => by
      rw [exec_vl0Row hrow ha, takeVl0_stray hvl hkind hu hrx hslot, strayVl0_late hended hd],
    fun _ _ _ _ _ _ _ hrow ha hvl hkind hu hrx hslot hended hd hroom => by
      rw [exec_vl0Row hrow ha, takeVl0_stray hvl hkind hu hrx hslot, strayVl0_stages hended hd hroom],
    fun _ _ _ _ _ ha hvl hkind hu hrx hslot hcoll hsnoop => by
      rw [exec_plain_takes ha, takeVl0_inFlight hvl hkind hu hrx hslot (by simp [hcoll]) fun _ => hsnoop],
    fun _ _ _ _ _ ha hvl hkind hu hrx hslot hdigest hround => by
      rw [exec_plain_takes ha, takeVl0_inFlight hvl hkind hu hrx hslot (fun h => Nat.not_le.mpr h.2 hround) (by simp [hdigest])],
    fun _ _ _ _ ha hvl hkind hu hrx hnotSitout hnotRelay hall => by
      rw [exec_abortToken_meets ha hvl hkind hu hrx hnotSitout hnotRelay, meetToken_all hall],
    fun _ _ _ _ _ ha hvl hkind hu hrx hnotSitout hnotRelay hone hslot => by
      rw [exec_abortToken_meets ha hvl hkind hu hrx hnotSitout hnotRelay, meetToken_aborts hone hslot],
    fun _ _ _ _ _ ha hvl hkind hu hrx hnotSitout hnotRelay hone hslot hended hd => by
      rw [exec_abortToken_meets ha hvl hkind hu hrx hnotSitout hnotRelay, meetToken_kept hone hslot hended hd],
    fun _ _ _ _ ha hu hslot => exec_collectiveLocalFault_aborts ha hu hslot,
    fun _ _ ha hdue => exec_stagedFlitExpire_drops ha hdue,
    fun _ tag ha => exec_keptTokenExpire_drops tag ha⟩
end

section
/-! PROOF. Tasks: how an entry of a queue is taken, how a task begins on its cores, and how it is pre-empted and resumes (04 R148 to
R151; 12 R436 to R442). -/

namespace Sys2Proof.Machine

open Sys2Proof

/-! ### TASK and BARRIER (12 R436, R438, R439) -/

/-- The task that a TASK entry of queue `q` stands for, in the phase in effect (09 R336). -/
def taskOf (q : Nat) (e : BitVec 1024) (s : State) : Task := { Task.init with queue := q, body := e, phase := rd Obj.PHASE s }

section

variable {s : State} {q : Nat} {e : BitVec 1024} (ha : alive s = true) (hopen : queueOpen q s = true)
  (hroom : bufferFull q s = false) (hturn : queueTurn q s = true)

include ha hopen hroom hturn

/-- Outside Sit-out a TASK entry waits when its body keeps the rules, and is refused when it does not. -/
theorem exec_task_takes (hkind : entryKind e = 1) (hso : inSitout s = false) :
    exec (.task q e) s = .next (framed (if taskBodyOk (taskOf q e s) s = false then refuseEntry q e (takeHead q (entryCid e) s)
      else modQueue q (fun x => { x with waiting := true })
        { takeHead q (entryCid e) s with tasks := s.tasks ++ [taskOf q e s] }) s) := by
  have hnotOther : ¬ (entryKind e = 2 ∨ entryKind e = 3) := by omega
  simp only [exec, execTask]
  rw [run_alive _ _ ha, if_neg hnotOther, takeEntry_taken e _ hopen hroom hturn, if_neg (not_not_intro hkind),
    inSitout_takeHead, hso, if_neg Bool.false_ne_true]
  rfl

theorem exec_barrier_takes (hkind : entryKind e = 3) (hzero : fld e.toNat 998 0 = 0) {u : State}
    (hu : u = modQueue q (fun x => { x with
      barriers := x.barriers ++ [(entryCid e, entryIrq e, (queueOf q s).open_)], waiting := !(queueOf q s).open_.isEmpty })
      (takeHead q (entryCid e) s)) :
    exec (.barrier q e) s = .next (framed (releaseBarriers q ((queueOf q u).barriers.length) u) s) := by
  subst hu
  simp only [exec, execBarrier]
  rw [run_alive _ _ ha, if_neg (not_not_intro hkind), takeEntry_taken e _ hopen hroom hturn, if_neg (not_not_intro hzero)]

end

/-! ### TASK_BEGIN (12 R440, R441) -/

/-- What a task whose turn it is does about its cores: on free ones it begins, and ones that pre-emptible tasks of lower PRIO hold it
asks for. -/
def wantCores (t : Task) (s : State) : State :=
  if coresFree t s then beginWhenFree t s
  else if (holders t s).all fun u => decide (u.prio < t.prio) && u.spill != 0 then
    forEach (holders t s) (fun u => requestPreempt u (some t.key)) s
  else s

section

variable {s : State} {t : Task}

theorem exec_taskBegin_due {q cid : Nat} (ha : alive s = true)
    (ht : s.tasks.find? (fun t => t.queue == q && t.key % 65536 == cid && t.state == .waiting) = some t)
    (hissue : running 0 s = true) (hpreload : running 1 s = true) (hstart : startMet t s = true)
    (hfirst : resumeFirst t s = false) : exec (.taskBegin q cid) s = .next (framed (wantCores t s) s) := by
  simp only [exec, execTaskBegin]
  rw [run_alive _ _ ha]
  simp only [ht, hissue, hpreload, hstart, hfirst, Bool.true_eq_false, Bool.false_eq_true, or_self, if_false]
  rfl

theorem wantCores_begins (hfree : coresFree t s = true)
    (hheld : ((preloadRanges t s).any fun r => frozenAt 3 r.1 s || rangeHeld r.1 r.2 s) = false)
    (hsnoop : snoopLines false (preloadRanges t s) s = []) : wantCores t s = beginTask t s := by
  simp only [wantCores, beginWhenFree, hfree, hheld, if_true, Bool.false_eq_true, if_false]
  exact afterSnoops_clear _ _ _ _ hsnoop

theorem wantCores_preempts (hbusy : coresFree t s = false) (hyield : ∀ u ∈ holders t s, u.prio < t.prio ∧ u.spill ≠ 0) :
    wantCores t s = forEach (holders t s) (fun u => requestPreempt u (some t.key)) s := by
  have hall : ((holders t s).all fun u => decide (u.prio < t.prio) && u.spill != 0) = true := by
    simpa only [List.all_eq_true, Bool.and_eq_true, decide_eq_true_eq, bne_iff_ne] using hyield
  simp only [wantCores, hbusy, hall, Bool.false_eq_true, if_false, if_true]

/-- A task whose preloads are all there and all readable begins on every core of its mask. -/
theorem beginTask_begins {u : State} (hthere : (t.preloads.find? fun p => !preloadOk p s) = none)
    (hread : preloadAll t s = (true, u)) :
    beginTask t s = forEach t.cores (beginCore t) (modQueue t.queue (fun x => { x with waiting := false })
      (modTask t.key (fun x => { x with state := .running }) u)) := by
  simp only [beginTask, hthere, hread]

end

/-! ### PREEMPTION_DONE and TASK_RESUME (04 R148, R149, R151) -/

section

variable {s : State} {t : Task} (ha : alive s = true)

include ha

/-- A core at its pass boundary is saved; the last one of its task ends the pre-emption. -/
theorem exec_preemptionDone_saves {c : Nat} (ht : taskOn c s = some t) (hpre : (coreOf c s).preempting = true)
    (hat : atBoundary (coreOf c s) = true) (hheld : spillHeld t [c] s = false)
    (hsnoop : snoopLines true [spillRange t s c] s = []) :
    exec (.preemptionDone c) s = .next (framed
      (if t.cores.any fun k => (coreOf k (saveCore t c s)).task == some t.key then saveCore t c s
        else preempted t c ((coreClock s - (coreOf c s).preemptCyc) / 1000) (coreOf c s).claim (saveCore t c s)) s) := by
  simp only [exec, execPreemptionDone]
  rw [run_alive _ _ ha]
  simp only [ht, hpre, hat, hheld, Bool.true_eq_false, Bool.false_eq_true, or_self, if_false]
  rw [afterSnoops_clear _ _ _ _ hsnoop]

/-- The saved cores of a task go on as they were saved, and the cores it had ended on are its own again. -/
theorem exec_taskResume_restores {u v : State} {q cid : Nat} {ks : List (Nat × Core)}
    (ht : s.tasks.find? (fun t => t.queue == q && t.key % 65536 == cid && mayResume t s) = some t)
    (hissue : running 0 s = true) (hload : running 1 s = true) (hheld : spillHeld t (t.saved.map (·.1)) s = false)
    (hsnoop : snoopLines false (t.saved.map fun p => spillRange t s p.1) s = [])
    (hu : u = forEach (t.cores.filter fun c => !(t.saved.any fun p => p.1 == c))
      (fun c => modCore c fun k => { k with task := some t.key, status := 0 }) s)
    (hread : restoreCores t t.saved u = (.ok ks, v)) :
    exec (.taskResume q cid) s = .next (framed (modTask t.key (fun x => { x with state := .running, saved := [] })
      (forEach ks (fun (c, k) => modCore c fun _ => k) v)) s) := by
  simp only [exec, execTaskResume]
  rw [run_alive _ _ ha]
  simp only [ht, hissue, hload, hheld, Bool.true_eq_false, Bool.false_eq_true, or_self, if_false]
  rw [afterSnoops_clear _ _ _ _ hsnoop]
  simp only [← hu, hread]

end

end Sys2Proof.Machine

open Sys2Proof Sys2Proof.Machine

/-- Settles O35: an entry by its kind and its body, a task that is due by what stands on its cores, and a pre-emption core by core. -/
theorem tasksAreTakenAndBegin : Obligations.TasksAreTakenAndBegin :=
  ⟨fun _ _ _ ha hkind hopen hroom hturn hso hok =>
      (exec_task_takes ha hopen hroom hturn hkind hso).trans (by rw [taskOf, hok, if_neg Bool.noConfusion]),
    fun _ _ _ ha hkind hopen hroom hturn hso hbad =>
      (exec_task_takes ha hopen hroom hturn hkind hso).trans (by rw [taskOf, if_pos hbad, refuseEntry]),
    fun _ _ _ _ ha hkind hzero hopen hroom hturn hu => exec_barrier_takes ha hopen hroom hturn hkind hzero hu,
    fun _ _ _ _ ha ht hissue hpreload hstart hfirst hfree hheld hsnoop => by
      rw [exec_taskBegin_due ha ht hissue hpreload hstart hfirst, wantCores_begins hfree hheld hsnoop],
    fun _ _ _ hthere hread => beginTask_begins hthere hread,
    fun _ _ _ _ ha ht hissue hpreload hstart hfirst hbusy hyield => by
      rw [exec_taskBegin_due ha ht hissue hpreload hstart hfirst, wantCores_preempts hbusy hyield],
    fun _ _ _ ha ht hpre hat hheld hsnoop hmore => by
      rw [exec_preemptionDone_saves ha ht hpre hat hheld hsnoop, if_pos hmore],
    fun _ _ _ ha ht hpre hat hheld hsnoop hlast => by
      rw [exec_preemptionDone_saves ha ht hpre hat hheld hsnoop, if_neg (by rw [hlast]; exact Bool.false_ne_true)],
    fun _ _ _ _ _ _ _ ha ht hissue hload hheld hsnoop hu hread =>
      exec_taskResume_restores ha ht hissue hload hheld hsnoop hu hread⟩
end

section
/-! PROOF. Host accesses: when one is served at once, what it meets in each window, and how an answered or unanswered snoop ends
(12 R426 to R435; 14 R492). -/

namespace Sys2Proof.Machine

open Sys2Proof

/-! ### CXL.mem (12 R426 to R432) -/

/-- An access to a line that nothing holds or waits for, with room in the snoop filter where it needs room, is served at once. -/
theorem admitHost_serves {a : HostAcc} {s : State} (first again : BitVec 288) (hheld : lineHeld a.dpa s = false)
    (hqueued : (s.host.waitAcc.any fun b => b.dpa / 64 == a.dpa / 64) = false)
    (hsnooped : (s.host.snoopWait.find? fun p => p.2.any fun b => b.dpa / 64 == a.dpa / 64) = none)
    (hroom : a.cache = 0 ∨ (s.host.snoop.any fun p => p.1 == a.dpa / 64) = true ∨ s.host.snoop.length < filterLines) :
    admitHost a first again s =
      if a.write then serveHostWrite a.dpa a.data a.mask (trackLine (a.dpa / 64) a.cache s)
      else serveHostRead a.dpa first again (trackLine (a.dpa / 64) a.cache s) := by
  have hfits : ¬ (a.cache ≠ 0 ∧ (s.host.snoop.any fun p => p.1 == a.dpa / 64) = false ∧ filterLines ≤ s.host.snoop.length) := by
    rintro ⟨hcached, huntracked, hfull⟩
    rcases hroom with h | h | h
    · exact hcached h
    · rw [h] at huntracked
      exact Bool.noConfusion huntracked
    · exact Nat.not_le.mpr h hfull
  simp only [admitHost, hheld, hqueued, hsnooped, hfits, Bool.false_eq_true, or_self, if_false]

/-- An access at an address that a committed decoder maps reaches the module as one to its line. -/
theorem hostAccess_mapped {s : State} {write : Bool} {hpa : BitVec 64} {d : Nat} (data : BitVec 512) (mask : BitVec 64)
    (cache : Nat) (first again : BitVec 288) (hup : s.host.up = true) (hmap : hostDpa hpa.toNat s = some d) :
    hostAccess write hpa data mask cache first again s = admitHost ⟨write, d / 64 * 64, data, mask, cache⟩ first again s := by
  simp only [hostAccess, hup, hmap, Bool.true_eq_false, if_false]

section

variable {s : State} {dpa : Nat} (data : BitVec 512) (mask : BitVec 64)

/-- Sit-out discards every host write (14 R492). -/
theorem serveHostWrite_inSitout (hso : inSitout s = true) : serveHostWrite dpa data mask s = emit 0x6010 0 dpa s := by
  simp only [serveHostWrite, hso, if_true]

theorem serveHostWrite_system {a : Nat} (hso : inSitout s = false) (hw : hostWindow dpa = .system a) :
    serveHostWrite dpa data mask s = emit 0x1609 0 a s := by
  simp only [serveHostWrite, hso, hw, Bool.false_eq_true, if_false]

theorem serveHostRead_empty (first again : BitVec 288) (hw : hostWindow dpa = .empty) :
    serveHostRead dpa first again s = returnRead dpa 0 (emit 0x6004 0 dpa s) := by
  simp only [serveHostRead, hw]

end

/-! ### Back-invalidate snoops (12 R429, R430) -/

section

variable {s : State} {line : Nat} (ha : alive s = true) (hwait : (s.host.snoopWait.any fun p => p.1 == line) = true)

include ha hwait

/-- The host had modified the line, and its answer is written before what waited goes on. -/
theorem exec_backInvalidateAnswer_modified (d : BitVec 512) :
    exec (.backInvalidateAnswer line (some d)) s = .next (framed (snoopDone line
      (serveHostWrite (64 * line) d (BitVec.ofNat 64 (2 ^ 64 - 1)) s)) s) := by
  simp only [exec, execBackInvalidateAnswer]
  rw [run_alive _ _ ha, if_neg (by simp [hwait])]

theorem exec_backInvalidateAnswer_clean :
    exec (.backInvalidateAnswer line none) s = .next (framed (snoopDone line s) s) := by
  simp only [exec, execBackInvalidateAnswer]
  rw [run_alive _ _ ha, if_neg (by simp [hwait])]

theorem exec_biSnoopTimeout_expires (hlate : snoopLate line s = true) :
    exec (.biSnoopTimeout line) s =
      .next (framed (snoopDone line (emit 0x6006 0 (64 * line) (bump Obj.BI_TIMEOUTS s))) s) := by
  simp only [exec, execBiSnoopTimeout]
  rw [run_alive _ _ ha, if_neg (by simp [hwait, hlate])]

end

end Sys2Proof.Machine

open Sys2Proof Sys2Proof.Machine

/-- Settles O39: an access that nothing holds goes through the decoders and the snoop filter to its window, and a snoop ends by its
answer or its timeout. -/
theorem hostAccessesRun : Obligations.HostAccessesRun :=
  ⟨fun _ _ _ _ _ _ ha hup hmap hheld hqueued hsnooped hroom => by
      simp only [exec, execCxlMemRead]
      rw [run_alive _ _ ha, hostAccess_mapped _ _ _ _ _ hup hmap, admitHost_serves _ _ hheld hqueued hsnooped hroom]
      rfl,
    fun _ _ _ _ _ _ ha hup hmap hheld hqueued hsnooped hroom => by
      simp only [exec, execCxlMemWrite]
      rw [run_alive _ _ ha, hostAccess_mapped _ _ _ _ _ hup hmap, admitHost_serves _ _ hheld hqueued hsnooped hroom]
      rfl,
    fun _ _ data mask hso => serveHostWrite_inSitout data mask hso,
    fun _ _ _ data mask hso hw => serveHostWrite_system data mask hso hw,
    fun _ _ first again hw => serveHostRead_empty first again hw,
    fun _ _ d ha hwait => exec_backInvalidateAnswer_modified ha hwait d,
    fun _ _ ha hwait => exec_backInvalidateAnswer_clean ha hwait,
    fun _ _ ha hwait hlate => exec_biSnoopTimeout_expires ha hwait hlate,
    fun _ ha => by simp only [exec, execHostRequestLate]; rw [run_alive _ _ ha]⟩
end

section
/-! PROOF. Doorbells, completions and the host link: which queue a doorbell moves, when a vector's timer fires, how failing lanes
narrow the link or take it down, and what its loss and its decoders leave (12 R421 to R427, R437, R445). -/

namespace Sys2Proof.Machine

open Sys2Proof

/-! ### Doorbells (12 R425) -/

/-- The doorbells that begin at `first` lie 8 bytes apart, one for each of the 16 queues. -/
theorem doorbellQueue_eq_some {first off q : Nat} : doorbellQueue first off = some q ↔ off = first + 8 * q ∧ q < 16 := by
  unfold doorbellQueue
  split
  · rw [Option.some.injEq]
    omega
  · simp only [reduceCtorEq, false_iff]
    omega

/-- What the doorbells that begin at `first` do with an index: `f` for the queue there, where the link is up, the queue is enabled
and the index is below the size of its ring. -/
def ringBell (first : Nat) (size : Nat → RegId) (f : Queue → Queue) (off n : Nat) (s : State) : State :=
  match doorbellQueue first off with
  | none => s
  | some q => if s.host.up ∧ rd (Obj.QUEUE_ENABLE q) s = 1 ∧ n < rd (size q) s then modQueue q f s else s

theorem exec_sqDoorbell (off n : Nat) (s : State) :
    exec (.sqDoorbell off n) s = run (ringBell 0x1000 Obj.SQ_SIZE (fun x => { x with tail := n }) off n) s := rfl

theorem exec_cqHeadDoorbell (off n : Nat) (s : State) :
    exec (.cqHeadDoorbell off n) s = run (ringBell 0x1004 Obj.CQ_SIZE (fun x => { x with cqHead := n }) off n) s := rfl

section

variable {s : State} {first n : Nat} {size : Nat → RegId} {f : Queue → Queue}

theorem ringBell_moves {q : Nat} (hup : s.host.up = true) (hq : q < 16) (hon : rd (Obj.QUEUE_ENABLE q) s = 1)
    (hn : n < rd (size q) s) : ringBell first size f (first + 8 * q) n s = modQueue q f s := by
  have hbell : doorbellQueue first (first + 8 * q) = some q := doorbellQueue_eq_some.mpr ⟨rfl, hq⟩
  simp only [ringBell, hbell]
  exact if_pos ⟨hup, hon, hn⟩

theorem ringBell_idle {off : Nat} (h : doorbellQueue first off = none ∨ ∃ q, doorbellQueue first off = some q ∧
    (s.host.up = false ∨ rd (Obj.QUEUE_ENABLE q) s ≠ 1 ∨ rd (size q) s ≤ n)) : ringBell first size f off n s = s := by
  rcases h with h | ⟨q, h, hoff⟩
  · simp only [ringBell, h]
  · simp only [ringBell, h]
    refine if_neg fun ⟨hup, hon, hn⟩ => ?_
    rcases hoff with hdown | hdisabled | hpast
    · exact Bool.noConfusion (hup.symm.trans hdown)
    · exact hdisabled hon
    · exact Nat.not_lt.mpr hpast hn

end

/-! ### Lanes (12 R421) -/

section

variable {s : State} {l : BitVec 16} (ha : alive s = true) (hup : s.host.up = true)

include ha hup

/-- The first lanes to fail, of one half only, narrow the link. -/
theorem exec_cxlLaneFailure_narrows (hwhole : s.host.badLanes = 0) (hl : l ≠ 0)
    (hhalf : l.toNat % 256 = 0 ∨ l.toNat / 256 = 0) : exec (.cxlLaneFailure l) s =
      .next (framed (emit 0x6001 0 8 (wr Obj.LINK_WIDTH 8 { s with host := { s.host with badLanes := l } })) s) := by
  have hor : (0 : BitVec 16) ||| l = l := BitVec.zero_or
  simp only [exec, execCxlLaneFailure]
  rw [run_alive _ _ ha]
  simp only [hwhole, hor, hup, hl, Bool.true_eq_false, or_self, if_false, hhalf, if_true]

/-- With bad lanes in both halves, and not only more of a half that was bad, the link has no half left. -/
theorem exec_cxlLaneFailure_takesDown (hnew : s.host.badLanes ||| l ≠ s.host.badLanes)
    (hlow : (s.host.badLanes ||| l).toNat % 256 ≠ 0) (hhigh : (s.host.badLanes ||| l).toNat / 256 ≠ 0)
    (hused : ¬ ((s.host.badLanes.toNat % 256 = 0 ∧ l.toNat % 256 = 0) ∨
      (s.host.badLanes.toNat / 256 = 0 ∧ l.toNat / 256 = 0))) :
    exec (.cxlLaneFailure l) s =
      .next (framed (hostLinkDown { s with host := { s.host with badLanes := s.host.badLanes ||| l } }) s) := by
  simp only [exec, execCxlLaneFailure]
  rw [run_alive _ _ ha]
  simp only [hup, hnew, hlow, hhigh, hused, Bool.true_eq_false, or_self, and_false, if_false]

/-- More bad lanes of the half that is not in use change no width. -/
theorem exec_cxlLaneFailure_unused (hbad : s.host.badLanes ≠ 0)
    (hunused : (s.host.badLanes.toNat % 256 = 0 ∧ l.toNat % 256 = 0) ∨
      (s.host.badLanes.toNat / 256 = 0 ∧ l.toNat / 256 = 0)) :
    exec (.cxlLaneFailure l) s =
      .next (framed { s with host := { s.host with badLanes := s.host.badLanes ||| l } } s) := by
  simp only [exec, execCxlLaneFailure]
  rw [run_alive _ _ ha]
  by_cases hknown : s.host.badLanes ||| l = s.host.badLanes
  · simp only [hknown, or_true, if_true]
  · simp only [hup, hknown, hbad, hunused, ne_eq, not_false_eq_true, and_self, Bool.true_eq_false, or_self, if_false, if_true,
      ite_self]

end

/-! ### The link goes down (12 R422, R423; 13 R460) -/

@[simp] theorem releaseStaging_host (s : State) : (releaseStaging s).host = s.host := by
  simp only [releaseStaging]
  split <;> rfl

@[simp] theorem releaseStaging_tasks (s : State) : (releaseStaging s).tasks = s.tasks := by
  simp only [releaseStaging]
  split <;> rfl

@[simp] theorem hostLinkDown_tasks (s : State) : (hostLinkDown s).tasks = s.tasks := by
  simp only [hostLinkDown]
  split
  · rfl
  · split
    · split
      · exact releaseStaging_tasks _
      · rfl
    · rfl

/-- The queues stay as they are, and the time of the loss is kept. -/
theorem hostLinkDown_host {s : State} (hup : s.host.up = true) :
    (hostLinkDown s).host = { s.host with up := false, downAt := some s.pow.opTime, cancelled := false } := by
  simp only [hostLinkDown, hup, Bool.true_eq_false, if_false]
  split
  · split
    · exact releaseStaging_host _
    · rfl
  · rfl

theorem exec_hostLinkUp_trains {s : State} (width rate : Nat) (ha : alive s = true) (hdown : s.host.up = false)
    (hstep : 4 ≤ s.boot.stepDone) : exec (.hostLinkUp width rate) s = .next (framed (hostLinkUp width rate s) s) := by
  simp only [exec, execHostLinkUp]
  rw [run_alive _ _ ha, if_neg (by simp [hdown, hstep])]

/-- LINKDOWN_CANCEL, once its limit of 16 ms units has passed since the loss, cancels every waiting task. -/
theorem exec_linkdownCancel_cancels {s : State} {a : Nat} (ha : alive s = true) (hdown : s.host.downAt = some a)
    (hnot : s.host.cancelled = false) (hlimit : rd Obj.LINKDOWN_CANCEL s ≠ 0)
    (hdue : a + 16 * rd Obj.LINKDOWN_CANCEL s ≤ s.pow.opTime) :
    exec .linkdownCancel s = .next (framed (forEach (s.tasks.filter fun t => t.state == .waiting) (fun t s =>
      abortTask t 5 0x6009 true (emit 0x6009 0 t.key s)) { s with host := { s.host with cancelled := true } }) s) := by
  simp only [exec, execLinkdownCancel]
  rw [run_alive _ _ ha]
  simp only [hdown, hnot, hlimit, Nat.not_lt.mpr hdue, Bool.false_eq_true, or_self, if_false]

/-! ### Timers and decoders (12 R427, R445) -/

theorem exec_coalesceTimeout_fires {s : State} {q : Nat} (ha : alive s = true) (htimer : (queueOf q s).timer = true)
    (hq : q < 16) (hdue : (queueOf q s).firstAt + fld (rd (Obj.COALESCE q) s) 15 0 * 1000 ≤ s.clk.ticks) :
    exec (.coalesceTimeout q) s = .next (framed (fireVector q s) s) := by
  simp only [exec, execCoalesceTimeout]
  rw [run_alive _ _ ha, if_pos ⟨htimer, hq, hdue⟩]

/-- A decoder that may be committed maps its range, and one that may not shows its failure. -/
theorem exec_hdmDecoderCommit_sets {s : State} (i dpa ways : Nat) (base size : BitVec 64) (ha : alive s = true)
    (hup : s.host.up = true) : exec (.hdmDecoderCommit i base size dpa ways) s = .next (framed { s with host := { s.host with
      decoders := s.host.decoders.set i (if decoderOk i base.toNat size.toNat dpa ways s
        then ⟨true, base.toNat, size.toNat, dpa, false⟩ else ⟨false, 0, 0, 0, true⟩) } } s) := by
  simp only [exec, execHdmDecoderCommit]
  rw [run_alive _ _ ha, if_neg (by simp [hup])]

end Sys2Proof.Machine

open Sys2Proof Sys2Proof.Machine

/-- Settles O40: both doorbells by one rule, the lanes by which half they leave, and the link's loss by what it keeps. -/
theorem doorbellsAndHostLink : Obligations.DoorbellsAndHostLink :=
  ⟨fun _ _ _ ha hup hq hon hn => by rw [exec_sqDoorbell, run_alive _ _ ha, ringBell_moves hup hq hon hn],
    fun _ _ _ h => by rw [exec_sqDoorbell, run_idle _ _ (ringBell_idle h)],
    fun _ _ _ ha hup hq hon hn => by rw [exec_cqHeadDoorbell, run_alive _ _ ha, ringBell_moves hup hq hon hn],
    fun _ _ _ h => by rw [exec_cqHeadDoorbell, run_idle _ _ (ringBell_idle h)],
    fun _ _ _ => doorbellQueue_eq_some,
    fun _ _ ha => run_alive _ _ ha,
    fun _ _ ha htimer hq hdue => exec_coalesceTimeout_fires ha htimer hq hdue,
    fun _ _ ha hup hwhole hl hhalf => exec_cxlLaneFailure_narrows ha hup hwhole hl hhalf,
    fun _ _ ha hup hnew hlow hhigh hused => exec_cxlLaneFailure_takesDown ha hup hnew hlow hhigh hused,
    fun _ _ ha hup hbad hunused => exec_cxlLaneFailure_unused ha hup hbad hunused,
    fun _ ha => run_alive _ _ ha,
    fun s hup => by
      have hhost := hostLinkDown_host hup
      exact ⟨by rw [hhost], by rw [hhost], hostLinkDown_tasks s, hostLinkDown_mem s, by rw [hhost]⟩,
    fun _ width rate ha hdown hstep => exec_hostLinkUp_trains width rate ha hdown hstep,
    fun _ _ ha hdown hnot hlimit hdue => exec_linkdownCancel_cancels ha hdown hnot hlimit hdue,
    fun _ i dpa ways base size ha hup hok => by rw [exec_hdmDecoderCommit_sets i dpa ways base size ha hup, if_pos hok],
    fun _ i dpa ways base size ha hup hbad => by
      rw [exec_hdmDecoderCommit_sets i dpa ways base size ha hup, if_neg (by rw [hbad]; exact Bool.false_ne_true)]⟩
end

section
/-! PROOF. One step: the front command leaves the queue and its effect is a next state with the rest waiting, and a module that is
not active takes none but the commands of power, pins, dictionary and recorder (chapter 95; 14 R499; 16 R557; 17 R563; 18 R576). -/

namespace Sys2Proof.Machine

open Sys2Proof

/-! ### The front command -/

theorem step_withQueue (c : Instr) (q : List Instr) (s : State) : step (s.withQueue (c :: q)) = exec c (s.withQueue q) := rfl

theorem step_idle {s : State} (h : s.pending = []) : step s = .next s := by
  simp only [step, h]

theorem step_front {s : State} {c : Instr} {q : List Instr} (h : s.pending = c :: q) : step s = exec c (s.withQueue q) := by
  simp only [step, h]

/-! ### Every frame keeps the queue (log entries 4, 18) -/

/-- The command answers a next state, with the queue of `s`. -/
def KeepsQueue (o : Host.Outcome State Fault Refusal) (s : State) : Prop := ∃ t, o = .next t ∧ t.pending = s.pending

theorem keepsQueue_run (f : State → State) (s : State) : KeepsQueue (run f s) s := by
  refine ⟨_, rfl, ?_⟩
  split <;> rfl

theorem keepsQueue_runClk (f : State → State) (s : State) : KeepsQueue (runClk f s) s := by
  refine ⟨_, rfl, ?_⟩
  split <;> rfl

theorem keepsQueue_runFuse (f : State → State) (s : State) : KeepsQueue (runFuse f s) s := by
  refine ⟨_, rfl, ?_⟩
  split <;> rfl

theorem keepsQueue_runFw (f : State → State) (s : State) : KeepsQueue (runFw f s) s := by
  refine ⟨_, rfl, ?_⟩
  split <;> rfl

theorem keepsQueue_runAny (f : State → State) (s : State) : KeepsQueue (runAny f s) s := ⟨_, rfl, rfl⟩

theorem keepsQueue_runReset (f : State → State) (s : State) : KeepsQueue (runReset f s) s := ⟨_, rfl, rfl⟩

theorem keepsQueue_runWrite (idx sub : Nat) (f : State → State) (s : State) : KeepsQueue (runWrite idx sub f s) s :=
  ⟨_, rfl, rfl⟩

/-- Every command runs in the frame its row of the dispatch gives it. -/
theorem exec_keepsQueue (c : Instr) (s : State) : KeepsQueue (exec c s) s := by
  cases c with
  | tick | countStep | countHoldRelease | ptpSync | timePpsInEdge | functionReset => simp only [exec]; exact keepsQueue_runClk _ _
  | powerOn | powerRemoved | perstNFall => simp only [exec]; exact keepsQueue_runReset _ _
  | dictWrite | selectRead | objectWrite => simp only [exec]; exact keepsQueue_runWrite _ _ _ _
  | dictRead | readSegment | recordUpdate | flushSnapshot | flushComplete | perstNResetEnd | pwrFailNFall | pwrFailNRise
  | laserEnFall | laserEnRise | dynamicAddressAssignment => simp only [exec]; exact keepsQueue_runAny _ _
  | fwData | fwVerify | fwClearPending => simp only [exec]; exact keepsQueue_runFw _ _
  | fuseSvn | revokeKey => simp only [exec]; exact keepsQueue_runFuse _ _
  | _ => simp only [exec]; exact keepsQueue_run _ _

/-! ### A module that is not active (log entry 19) -/

/-- The frames of the commands that `h` leaves are those an inactive module does not enter. -/
theorem exec_dead {c : Instr} {s : State} (hd : alive s = false) (h : actsAlways c = false) : exec c s = .next s := by
  cases c with
  | powerOn | powerRemoved | perstNFall | perstNResetEnd | pwrFailNFall | pwrFailNRise | laserEnFall | laserEnRise
  | dynamicAddressAssignment | dictRead | dictWrite | selectRead | readSegment | objectWrite | recordUpdate | flushSnapshot
  | flushComplete | fwData | fwVerify | fwClearPending => exact absurd h (by simp [actsAlways])
  | tick | countStep | countHoldRelease | ptpSync | timePpsInEdge | functionReset => simp only [exec]; exact runClk_dead _ _ hd
  | fuseSvn | revokeKey => simp only [exec]; exact runFuse_dead _ _ hd
  | _ => simp only [exec]; exact run_dead _ _ hd

end Sys2Proof.Machine

open Sys2Proof Sys2Proof.Machine

/-- Settles O24: the queue is looked at once, and each of its two forms is one case of the step. -/
theorem stepRunsTheFrontCommand : Obligations.StepRunsTheFrontCommand :=
  ⟨fun s c q => step_withQueue c q s, fun _ h => step_idle h⟩

/-- Settles O26: the front command runs on the rest of the queue, which its frame puts back. -/
theorem everyStepTakesOneCommand : Obligations.EveryStepTakesOneCommand := by
  intro s c q hq
  obtain ⟨t, ht, hpending⟩ := exec_keepsQueue c (s.withQueue q)
  exact ⟨t, (step_front hq).trans ht, hpending⟩

/-- Settles O29, from the frame of each command. -/
theorem deadModuleIgnoresCommands : Obligations.DeadModuleIgnoresCommands :=
  fun _ _ hd h => exec_dead hd h
end

section
/-! PROOF. What a frame and an accepted write leave, stated on the result of the rule inside it: the lemmas the commands of chapters
13 to 18 are settled by. -/

namespace Sys2Proof.Machine

open Sys2Proof

section
variable {s t : State} {f : State → State}

theorem run_next (ha : alive s = true) (h : f s = t) : run f s = .next (framed t s) := h ▸ run_alive f s ha

theorem runAny_next (h : f s = t) : runAny f s = .next (framed t s) := h ▸ runAny_eq f s

theorem runReset_next (h : f s = t) : runReset f s = .next (framedReset t s) := h ▸ runReset_eq f s

end

section
variable {s t : State} {w : Writer} {idx sub v c : Nat} {f : State → Nat × State}

theorem command_answers (hacc : accepts w idx sub v s = true) (h : f s = (c, t)) :
    command w idx sub v f s = answerWith w 0 c [] t := by
  rw [command_accepted _ _ _ _ _ _ hacc, h]

theorem run_command (ha : alive s = true) (hacc : accepts w idx sub v s = true) (h : f s = (c, t)) :
    run (command w idx sub v f) s = .next (framed (answerWith w 0 c [] t) s) := by
  rw [run_command_accepted _ _ _ _ _ _ ha hacc, h]

theorem runClk_command (ha : alive s = true) (hacc : accepts w idx sub v s = true) (h : f s = (c, t)) :
    runClk (command w idx sub v f) s = .next (framedClk (answerWith w 0 c [] t) s) := by
  rw [runClk_alive _ _ ha, command_answers hacc h]

theorem runFuse_command (ha : alive s = true) (hacc : accepts w idx sub v s = true) (h : f s = (c, t)) :
    runFuse (command w idx sub v f) s = .next (framedFuse (answerWith w 0 c [] t) s) := by
  rw [runFuse_alive _ _ ha, command_answers hacc h]

theorem runFw_command (hon : alive s = true ∨ s.pow.phase = .recovery) (hacc : accepts w idx sub v s = true)
    (h : f s = (c, t)) : runFw (command w idx sub v f) s = .next (framed (answerWith w 0 c [] t) s) := by
  rw [runFw_on _ _ hon, command_answers hacc h]

end

end Sys2Proof.Machine
end

section
/-! PROOF. FUNCTION_RESET: which function each number resets, and which refuse in Sit-out (18 R575 to R580). -/

namespace Sys2Proof.Machine

open Sys2Proof

/-- What the reset of function `f` does once every reset's first steps are done (18 R579). -/
def resetOf : Nat → State → State
  | 0 | 1 => resetCores
  | 2 => resetUpdates
  | 3 => resetCollectives
  | 4 => resetLinks
  | 5 => resetCaller
  | 6 => resetRecorder
  | _ => id

theorem writeFunctionReset_resets {f : Nat} {s : State} (h : 2 < f ∨ inSitout s = false) :
    writeFunctionReset f 0x5A s = (0, resetOf f (beforeReset f s)) := by
  have hon : ¬ (f ≤ 2 ∧ inSitout s = true) := fun ⟨hf, hso⟩ => h.elim (Nat.not_lt.mpr hf) (by simp [hso])
  unfold writeFunctionReset
  rw [if_neg (fun h => h rfl), if_neg hon]
  rcases f with _ | _ | _ | _ | _ | _ | _ | f <;> rfl

theorem writeFunctionReset_sitout {f : Nat} {s : State} (hf : f ≤ 2) (hso : inSitout s = true) :
    writeFunctionReset f 0x5A s = (0x03000003, s) := by
  unfold writeFunctionReset
  rw [if_neg (fun h => h rfl), if_pos ⟨hf, hso⟩]

section
variable {w : Writer} {f : Nat} {s : State} (ha : alive s = true) (hacc : accepts w 0x2040 (f + 1) 0x5A s = true)
include ha hacc

theorem exec_functionReset_resets {n : Nat} (hf : f = n) (h : 2 < f ∨ inSitout s = false) : exec (.functionReset w f) s =
    .next (framedClk (answerWith w 0 0 [] (resetOf n (beforeReset f s))) s) :=
  runClk_command ha hacc (hf ▸ writeFunctionReset_resets h)

theorem exec_functionReset_sitout (hf : f ≤ 2) (hso : inSitout s = true) : exec (.functionReset w f) s =
    .next (framedClk (answerWith w 0 0x03000003 [] s) s) :=
  runClk_command ha hacc (writeFunctionReset_sitout hf hso)

end

end Sys2Proof.Machine

open Sys2Proof Sys2Proof.Machine

/-- Settles O17: the reset of each function by its number, and the refusal of the first three in Sit-out. -/
theorem functionsReset : Obligations.FunctionsReset :=
  ⟨fun _ _ f ha hacc hf hso => by
      obtain h | h : f = 0 ∨ f = 1 := by omega
      · exact exec_functionReset_resets (n := 0) ha hacc h (.inr hso)
      · exact exec_functionReset_resets (n := 1) ha hacc h (.inr hso),
    fun _ _ _ ha hacc hf hso => exec_functionReset_resets (n := 2) ha hacc hf (.inr hso),
    fun _ _ _ ha hacc hf => exec_functionReset_resets (n := 3) ha hacc hf (.inl (by omega)),
    fun _ _ _ ha hacc hf => exec_functionReset_resets (n := 4) ha hacc hf (.inl (by omega)),
    fun _ _ _ ha hacc hf => exec_functionReset_resets (n := 5) ha hacc hf (.inl (by omega)),
    fun _ _ _ ha hacc hf => exec_functionReset_resets (n := 6) ha hacc hf (.inl (by omega)),
    fun _ _ _ ha hacc hf hso => exec_functionReset_sitout ha hacc hf hso⟩
end

section
/-! PROOF. The error handler, alerts, the causes of Sit-out and halt, and extraction (14 R483 to R506; 16 R535, R547). -/

namespace Sys2Proof.Machine

open Sys2Proof

/-! ### The error handler (14 R483, R485) -/

section
variable {s : State} (ha : alive s = true)
include ha

theorem exec_handlerEntry_takes {e : ErrEntry} (hnext : nextEntry s = some e) (hfw : s.boot.fwRunning = true)
    (hbelow : handBelow e.sev s = true) : exec .handlerEntry s = .next (framed (takeError e s) s) := by
  simp only [exec, execHandlerEntry]
  exact run_next ha (by simp only [hnext, hfw, hbelow, Bool.and_self, if_true])

theorem exec_handlerEntry_keeps {e : ErrEntry} (hnext : nextEntry s = some e) (hbelow : handBelow e.sev s = false) :
    exec .handlerEntry s = .next (framed s s) := by
  simp only [exec, execHandlerEntry]
  exact run_next ha (by simp only [hnext, hbelow, Bool.and_false, Bool.false_eq_true, if_false])

theorem exec_handlerEntry_idle (h : nextEntry s = none ∨ s.boot.fwRunning = false) :
    exec .handlerEntry s = .next (framed s s) := by
  simp only [exec, execHandlerEntry]
  refine run_next ha ?_
  rcases h with hnext | hfw
  · simp only [hnext]
  · simp only [hfw, Bool.false_and, Bool.false_eq_true, if_false]
    split <;> rfl

theorem exec_handlerEntryDone_takesUp (hhand : s.flt.hand.isSome = true) : exec .handlerEntryDone s = .next (framed
    (showHandling { s with flt := { s.flt with hand := s.flt.aside.head?, aside := s.flt.aside.tail } }) s) := by
  simp only [exec, execHandlerEntryDone]
  exact run_next ha (if_neg (by simp [Option.isNone_iff_eq_none, Option.isSome_iff_ne_none.mp hhand]))

theorem exec_handlerEntryDone_idle (hhand : s.flt.hand = none) : exec .handlerEntryDone s = .next (framed s s) := by
  simp only [exec, execHandlerEntryDone]
  exact run_next ha (if_pos (by simp [hhand]))

end

/-! ### Alerts (14 R506) -/

theorem writeAlertClear_all {s : State} (h : rd Obj.FAULT_STATE s = 0) :
    writeAlertClear s = (0, wr Obj.ALERT_LATCH (rd Obj.ALERT_LATCH s &&& 0) s) := by
  simp only [writeAlertClear, h]

theorem writeAlertClear_sitout {s : State} (h : rd Obj.FAULT_STATE s = 1) :
    writeAlertClear s = (0, wr Obj.ALERT_LATCH (rd Obj.ALERT_LATCH s &&& 8) s) := by
  simp only [writeAlertClear, h]

/-! ### Causes of Sit-out and halt (14 R488, R500) -/

/-- The state in which the machines of Sit-out have no power (14 R489). -/
def machinesDark (s : State) : State := { s with
  cores := s.cores.map darkCore
  upd := { s.upd with units := [] }
  flt := { s.flt with powerDown := true }
  pow := { s.pow with change := none, passHold := false, samples := [], throttling := false } }

section
variable {s : State} (ha : alive s = true)
include ha

theorem exec_watchdogExpire_halts (hfw : s.boot.fwRunning = true) (hso : inSitout s = true) :
    exec .watchdogExpire s = .next (framed (haltModule 0x9404 0 0 s) s) := by
  simp only [exec, execWatchdogExpire]
  exact run_next ha (by simp only [hfw, hso, Bool.true_eq_false, if_false, if_true])

theorem exec_watchdogExpire_entersSitout (hfw : s.boot.fwRunning = true) (hso : inSitout s = false) :
    exec .watchdogExpire s =
      .next (framed (faultS3 0x9403 0 0 { s with boot := { s.boot with fwRunning := false } }) s) := by
  simp only [exec, execWatchdogExpire]
  exact run_next ha (by simp only [hfw, hso, Bool.true_eq_false, Bool.false_eq_true, if_false])

theorem exec_watchdogExpire_idle (hfw : s.boot.fwRunning = false) : exec .watchdogExpire s = .next (framed s s) := by
  simp only [exec, execWatchdogExpire]
  exact run_next ha (if_pos hfw)

theorem exec_firmwareRestartDone_answers (hso : inSitout s = true) :
    exec .firmwareRestartDone s = .next (framed { s with boot := { s.boot with fwRunning := true } } s) := by
  simp only [exec, execFirmwareRestartDone]
  exact run_next ha (if_pos hso)

theorem exec_sitoutPowerDown_darkens (hso : inSitout s = true) (hlit : s.flt.powerDown = false) : exec .sitoutPowerDown s =
    .next (framed (emit 0x5101 0 3 (bump Obj.POINT_CHANGES (setPoint 3 (machinesDark s)))) s) := by
  simp only [exec, execSitoutPowerDown]
  exact run_next ha (if_neg (by simp [hso, hlit]))

theorem exec_sitoutPowerDown_idle (h : inSitout s = false ∨ s.flt.powerDown = true) :
    exec .sitoutPowerDown s = .next (framed s s) := by
  simp only [exec, execSitoutPowerDown]
  exact run_next ha (if_pos h)

end

/-! ### Extraction (14 R495, R496) -/

theorem startExtract_begins {s : State} (h : extractOk s = true) : writeExtractControl 1 s = (0, beginExtract s) := by
  simp only [writeExtractControl, startExtract, h, Bool.true_eq_false, if_true, if_false]

theorem startExtract_refused {s : State} (h : extractOk s = false) : writeExtractControl 1 s = (0x03000004, s) := by
  simp only [writeExtractControl, startExtract, h, if_true]

theorem cancelExtract_ends {s : State} {x : Extract} (hso : inSitout s = true) (hx : s.flt.extract = some x) :
    writeExtractControl 2 s =
      (0, endExtract (if bitOf (Config.freeWord (drawFree s).1).toNat 0 then 3 else 0) (dropTx x.xfer (drawFree s).2)) := by
  simp only [writeExtractControl, cancelExtract, hso, hx, OfNat.ofNat_ne_one, Bool.true_eq_false, if_false]

theorem cancelExtract_none {s : State} (hso : inSitout s = true) (hx : s.flt.extract = none) :
    writeExtractControl 2 s = (0, s) := by
  simp only [writeExtractControl, cancelExtract, hso, hx, OfNat.ofNat_ne_one, Bool.true_eq_false, if_false]

section
variable {s : State} {x : Extract} (ha : alive s = true) (hx : s.flt.extract = some x)
include ha hx

theorem exec_extractSector_sends (hopen : (s.net.txX.any fun y => y.no == x.xfer && y.opened) = true)
    (hfw : s.boot.fwRunning = true) : exec .extractSector s = .next (framed (extractNext x s) s) := by
  simp only [exec, execExtractSector]
  exact run_next ha (by simp only [hx, hopen, hfw, Bool.true_eq_false, or_self, if_false])

theorem exec_extractSector_waits
    (h : (s.net.txX.any fun y => y.no == x.xfer && y.opened) = false ∨ s.boot.fwRunning = false) :
    exec .extractSector s = .next (framed s s) := by
  simp only [exec, execExtractSector]
  exact run_next ha (by simp only [hx, if_pos h])

end

section
variable {s t : State} {x : Extract} {n : Nat}

theorem extractSector_corrected {d : BitVec 256} (hgone : sectorGone n s = false) (hcut : x.cut = false)
    (hread : consumeClean n s = (some d, t)) : extractSector x n s = (some (encodeSector d), bump Obj.EXTRACT_SENT t) := by
  simp only [extractSector, hgone, hcut, hread, Bool.false_eq_true, or_self, if_false]

theorem extractSector_asStored (hgone : sectorGone n s = false) (hcut : x.cut = false)
    (hread : consumeClean n s = (none, t)) : extractSector x n s = (some (readOverlay n s), bump Obj.EXTRACT_SENT
      (bump Obj.EXTRACT_BAD (onlyIf (rd Obj.EXTRACT_BAD t == 0) (wr Obj.EXTRACT_FIRST_BAD x.next) t))) := by
  simp only [extractSector, hgone, hcut, hread, Bool.false_eq_true, or_self, if_false]

theorem extractSector_missing (h : sectorGone n s = true ∨ x.cut = true) :
    extractSector x n s = (none, bump Obj.EXTRACT_MISSING s) := if_pos h

end

end Sys2Proof.Machine

open Sys2Proof Sys2Proof.Machine

/-- Settles O7: the handler by what waits and what is in hand, and ALERT_CLEAR by FAULT_STATE. -/
theorem errorsAreHandledInTurn : Obligations.ErrorsAreHandledInTurn :=
  ⟨fun _ _ ha hnext hfw hbelow => exec_handlerEntry_takes ha hnext hfw hbelow,
    fun _ _ ha hnext hbelow => exec_handlerEntry_keeps ha hnext hbelow,
    fun _ ha h => exec_handlerEntry_idle ha h,
    fun _ ha hhand => exec_handlerEntryDone_takesUp ha hhand,
    fun _ ha hhand => exec_handlerEntryDone_idle ha hhand,
    fun _ _ ha hacc h => run_command ha hacc (writeAlertClear_all h),
    fun _ _ ha hacc h => run_command ha hacc (writeAlertClear_sitout h)⟩

/-- Settles O8: each cause by the fault its command names, the watchdog by FAULT_STATE, and the loss of power once. -/
theorem sitoutIsEnteredAndPowersDown : Obligations.SitoutIsEnteredAndPowersDown :=
  ⟨fun _ _ _ ha hacc => run_command ha hacc rfl,
    fun _ _ ha => run_alive _ _ ha,
    fun _ _ ha => run_alive _ _ ha,
    fun _ ha => run_alive _ _ ha,
    fun _ _ ha => run_alive _ _ ha,
    fun _ ha => run_alive _ _ ha,
    fun _ _ ha => run_alive _ _ ha,
    fun _ ha hfw hso => exec_watchdogExpire_halts ha hfw hso,
    fun _ ha hfw hso => exec_watchdogExpire_entersSitout ha hfw hso,
    fun _ ha hfw => exec_watchdogExpire_idle ha hfw,
    fun _ ha hso => exec_firmwareRestartDone_answers ha hso,
    fun _ ha hso hlit => exec_sitoutPowerDown_darkens ha hso hlit,
    fun _ ha h => exec_sitoutPowerDown_idle ha h⟩

/-- Settles O9: EXTRACT_CONTROL by what runs, and a sector by how it reads. -/
theorem extractionsSendSectors : Obligations.ExtractionsSendSectors :=
  ⟨fun _ _ ha hacc h => run_command ha hacc (startExtract_begins h),
    fun _ _ ha hacc h => run_command ha hacc (startExtract_refused h),
    fun _ _ _ ha hacc hso hx => run_command ha hacc (cancelExtract_ends hso hx),
    fun _ _ ha hacc hso hx => run_command ha hacc (cancelExtract_none hso hx),
    fun _ _ ha hx hopen hfw => exec_extractSector_sends ha hx hopen hfw,
    fun _ _ _ _ _ hgone hcut hread => extractSector_corrected hgone hcut hread,
    fun _ _ _ _ hgone hcut hread => extractSector_asStored hgone hcut hread,
    fun _ _ _ h => extractSector_missing h,
    fun _ _ ha hx h => exec_extractSector_waits ha hx h⟩
end

section
/-! PROOF. The event recorder: one update for the waiting events of a pair, the snapshot of a flush, and the end of its programming
(15 R507 to R527). -/

namespace Sys2Proof.Machine

open Sys2Proof

/-! ### Updates (15 R511, R517) -/

theorem heldFirst_none {s : State} (h : s.rcd.hold = []) : heldFirst s = s := by
  simp only [heldFirst, h, List.isEmpty_nil, Bool.not_true, Bool.and_false, onlyIf, Bool.false_eq_true, if_false]

/-- The oldest waiting pair is reported, and enters its records where the recorder is not Stopped. -/
theorem recordUpdate_applies {s : State} {e : Event} {p : List Event × State} (hold : s.rcd.batch.head? = some e)
    (hp : p = reportAll (s.rcd.batch.filter fun x => x.code == e.code && x.source == e.source)
      { s with rcd := { s.rcd with batch := s.rcd.batch.filter fun x => !(x.code == e.code && x.source == e.source) } })
    (hrun : runOf 6 p.2 ≠ .stopped) : recordUpdate s = applyPair p.1 p.2 := by
  subst hp
  cases hb : s.rcd.batch with
  | nil => simp [hb] at hold
  | cons a l =>
    obtain rfl : a = e := by simpa [hb] using hold
    simp only [hb] at hrun
    simp only [recordUpdate, hb, List.partition_eq_filter_filter]
    exact if_neg fun h => hrun h.1

section
variable {s : State}

theorem exec_recordUpdate_alive (h : recorderAlive s = true) :
    exec .recordUpdate s = .next (framed (recordUpdate (heldFirst s)) s) := by
  simp only [exec, execRecordUpdate]
  exact runAny_next (if_pos h)

theorem exec_recordUpdate_dead (h : recorderAlive s = false) :
    exec .recordUpdate s = .next (framed (heldFirst s) s) := by
  simp only [exec, execRecordUpdate]
  exact runAny_next (if_neg (by simp [h]))

/-! ### Flushing to flash (15 R519, R523) -/

theorem flushSnapshot_takes {f : FlushRun} {k : Nat} (hf : s.rcd.flush = some f) (hsnap : f.snap = none)
    (hk : erasedSlot s = some k) : flushSnapshot s = { s with rcd := { s.rcd with
      flush := some { f with snap := some (snapshot f s), slot := k },
      records := if f.emptyAfter then [] else s.rcd.records } } := by
  simp only [flushSnapshot, hf, hsnap, hk, Option.isSome_none, Bool.false_eq_true, if_false]

theorem exec_flushSnapshot_alive (h : flushAlive s = true) : exec .flushSnapshot s = .next (framed (flushSnapshot s) s) := by
  simp only [exec, execFlushSnapshot]
  exact runAny_next (if_pos h)

theorem exec_flushComplete_alive (ok : Bool) (h : flushAlive s = true) :
    exec (.flushComplete ok) s = .next (framed (flushComplete ok s) s) := by
  simp only [exec, execFlushComplete]
  exact runAny_next (if_pos h)

section
variable {f : FlushRun} {img : RecImage} (hf : s.rcd.flush = some f) (hsnap : f.snap = some img)
include hf hsnap

theorem flushComplete_ends : flushComplete true s = nextFlush (emit 0x9501 0 f.cause (bump Obj.FLUSHES
    { setSlot f.slot ⟨.used, some img⟩ s with
      flash := { (setSlot f.slot ⟨.used, some img⟩ s).flash with imageSeq := img.seq } })) := by
  simp only [flushComplete, hf, hsnap, if_true]

theorem flushComplete_retries {k : Nat} (hfirst : f.retried = false)
    (hk : erasedSlot (setSlot f.slot ⟨.invalid, none⟩ s) = some k) : flushComplete false s =
      { setSlot f.slot ⟨.invalid, none⟩ s with rcd := { (setSlot f.slot ⟨.invalid, none⟩ s).rcd with
        flush := some { f with retried := true, slot := k } } } := by
  simp only [flushComplete, hf, hsnap, hfirst, hk, Bool.false_eq_true, if_false]

/-- A programming that fails with nothing left to try ends the flush. -/
theorem flushComplete_fails (h : f.retried = true ∨ erasedSlot (setSlot f.slot ⟨.invalid, none⟩ s) = none) :
    flushComplete false s = nextFlush (emit 0x9503 0 f.slot (setSlot f.slot ⟨.invalid, none⟩ s)) := by
  rcases h with hlast | hnone
  · simp only [flushComplete, hf, hsnap, hlast, Bool.false_eq_true, if_false]
  · cases hretried : f.retried <;>
      simp only [flushComplete, hf, hsnap, hnone, hretried, Bool.false_eq_true, if_false]

end

end

end Sys2Proof.Machine

open Sys2Proof Sys2Proof.Machine

/-- Settles O10: the recorder's update and flush by what waits, and its write commands by their rules. -/
theorem eventsAreRecordedAndFlushed : Obligations.EventsAreRecordedAndFlushed :=
  ⟨fun _ h => exec_recordUpdate_alive h,
    fun _ h => exec_recordUpdate_dead h,
    fun _ _ _ h hhold hold hp hrun => by
      rw [exec_recordUpdate_alive h, heldFirst_none hhold, recordUpdate_applies hold hp hrun],
    fun _ _ ha hacc => run_command ha hacc rfl,
    fun _ _ _ h hf hsnap hk => by rw [exec_flushSnapshot_alive h, flushSnapshot_takes hf hsnap hk],
    fun _ _ _ h hf hsnap => by rw [exec_flushComplete_alive true h, flushComplete_ends hf hsnap],
    fun _ ha => run_alive _ _ ha,
    fun _ _ _ ha hacc => run_command ha hacc rfl,
    fun _ _ _ _ _ ha => by simp only [exec, execTelemetrySample]; exact run_alive _ _ ha⟩

/-- Settles O20: a failed programming by whether it was retried and whether an erased slot is left. -/
theorem failedProgrammingRetriesOnce : Obligations.FailedProgrammingRetriesOnce :=
  ⟨fun _ _ _ _ h hf hsnap hfirst hk => by
      rw [exec_flushComplete_alive false h, flushComplete_retries hf hsnap hfirst hk],
    fun _ _ _ h hf hsnap hlast => by rw [exec_flushComplete_alive false h, flushComplete_fails hf hsnap (.inl hlast)],
    fun _ _ _ h hf hsnap _ hnone => by rw [exec_flushComplete_alive false h, flushComplete_fails hf hsnap (.inr hnone)],
    rfl⟩
end

section
/-! PROOF. Operating points, budgets, the over-current clamp, temperatures, supply, coolant and the wear ledger (16 R534 to
R556). -/

namespace Sys2Proof.Machine

open Sys2Proof

/-! ### Requests (16 R534, R543, R544) -/

theorem writeOpRequest_surge {s : State} (h : surgeRefusal s = 0) : writeOpRequest 1 s =
    (0, startChange 0 0 (wr Obj.OP_REQUEST 1 (modPow (fun x => { x with softReduced := false }) s))) := by
  simp only [writeOpRequest, h, if_true]

theorem writeOpRequest_surgeRefused {s : State} (h : surgeRefusal s ≠ 0) : writeOpRequest 1 s =
    (0, emit 0x5102 0 (surgeRefusal s) (wr Obj.OP_REQUEST 0 s)) := by
  unfold writeOpRequest
  rw [if_pos rfl]
  split
  · exact absurd ‹_› h
  · rfl

/-- The point that an OP_REQUEST other than Surge asks for. -/
def targetOf (v : Nat) : Nat := if v = 2 then 2 else 1

section
variable {v : Nat} {s : State} (hv : v ≠ 1)
include hv

theorem writeOpRequest_changes (hp : rd Obj.OP_POINT s ≠ 0) : writeOpRequest v s = (0, startChange (targetOf v) 0
    (wr Obj.OP_REQUEST v (modPow (fun x => { x with softReduced := v == 2 }) s))) := by
  simp only [writeOpRequest, hv, beq_iff_eq, hp, if_false, targetOf]

theorem writeOpRequest_endsSurge (hp : rd Obj.OP_POINT s = 0) : writeOpRequest v s =
    (0, endSurge 5 (targetOf v) (modPow (fun x => { x with softReduced := v == 2 }) s)) := by
  simp only [writeOpRequest, hv, beq_iff_eq, hp, if_false, if_true, targetOf]

end

/-! ### The change (16 R534) -/

section
variable {s : State} {c : PointChange} (ha : alive s = true) (hc : s.pow.change = some c)
include ha hc

theorem exec_coreRailRaised_raises : exec .coreRailRaised s = .next (framed
    (modPow (fun x => { x with change := some { c with railUp := true }, passHold := true }) s) s) := by
  simp only [exec, execCoreRailRaised]
  exact run_next ha (by simp only [hc])

theorem exec_pointClockSwitch_switches (hrail : c.railUp = true) (hpass : noPass s = true) : exec .pointClockSwitch s =
    .next (framed (emit 0x5101 0 c.target (bump Obj.POINT_CHANGES (setPoint c.target (modPow (fun x => { x with
      change := none, passHold := false, samples := [], lowMs := 0, idleFreeMs := 0, surgeAt := s.clk.ticks }) s)))) s) := by
  simp only [exec, execPointClockSwitch]
  exact run_next ha (by simp only [hc, hrail, hpass, Bool.true_eq_false, or_self, if_false])

theorem exec_pointClockSwitch_waits (h : c.railUp = false ∨ noPass s = false) :
    exec .pointClockSwitch s = .next (framed s s) := by
  simp only [exec, execPointClockSwitch]
  exact run_next ha (by simp only [hc, if_pos h])

end

/-! ### The clamp (16 R541; 04 R154) -/

section
variable {s : State} {x : BitVec 16}

theorem exec_clampEngage_stops (ha : alive s = true) (hoff : s.pow.clamp = false) (hx : 2075 < x.toNat) :
    exec (.clampEngage x) s = .next (framed
      (modPow (fun p => { p with clamp := true, clampAt := s.clk.ticks, clampCyc := coreClock s }) s) s) := by
  simp only [exec, execClampEngage]
  exact run_next ha (if_neg (by simp [hoff, hx]))

theorem exec_clampEngage_idle (h : s.pow.clamp = true ∨ x.toNat ≤ 2075) : exec (.clampEngage x) s = .next s := by
  simp only [exec, execClampEngage]
  exact run_idle _ _ (if_pos h)

theorem exec_clampRelease_ends (ha : alive s = true) (hon : s.pow.clamp = true) (hx : x.toNat < 1950) :
    exec (.clampRelease x) s = .next (framed (clampEnds (s.clk.ticks - s.pow.clampAt) s) s) := by
  simp only [exec, execClampRelease]
  exact run_next ha (if_neg (by simp [hon, hx]))

theorem exec_clampRelease_idle (h : s.pow.clamp = false ∨ 1950 ≤ x.toNat) : exec (.clampRelease x) s = .next s := by
  simp only [exec, execClampRelease]
  exact run_idle _ _ (if_pos h)

end

/-! ### Temperatures, supply and coolant (16 R547, R551, R552) -/

/-- A reading of the die's hot spot is stored, its length above 105 °C counted, and Surge ended at 97 °C (16 R544, R547). -/
def hotspotRead (x : BitVec 16) (s : State) : State :=
  onlyIf (decide (776 ≤ toSigned 16 x.toNat)) (endSurge 2 1)
    (modPow (fun p => { p with hot105 := if 840 < toSigned 16 x.toNat then p.hot105 + 1 else 0 }) (wr Obj.DIE_HOTSPOT x.toNat s))

section
variable {s : State} (ha : alive s = true)
include ha

theorem exec_hotspotReading_cool {x : BitVec 16} (g : BitVec 16) (hx : toSigned 16 x.toNat ≤ 800) :
    exec (.hotspotReading x g) s =
      .next (framed (modPow (fun p => { p with hot100 := 0, hot100Noted := false }) (hotspotRead x s)) s) := by
  simp only [exec, execHotspotReading]
  exact run_next ha (if_pos hx)

theorem exec_hotspotReading_over {x : BitVec 16} (g : BitVec 16) (hx : 800 < toSigned 16 x.toNat) :
    exec (.hotspotReading x g) s = .next (framed (hotspotOver x.toNat g.toNat (hotspotRead x s)) s) := by
  simp only [exec, execHotspotReading]
  exact run_next ha (if_neg (Int.not_le.mpr hx))

theorem exec_voltageOutOfRange_records {x : BitVec 16}
    (h : (4500 ≤ x.toNat ∧ x.toNat < 4800) ∨ (5800 < x.toNat ∧ x.toNat ≤ 6000)) : exec (.voltageOutOfRange x) s =
      .next (framed (endSurge 7 1 (modPow (fun p => { p with voltOut := true })
        (onlyIf (!s.pow.voltOut) (emit 0x5115 0 x.toNat) s))) s) := by
  simp only [exec, execVoltageOutOfRange]
  exact run_next ha (if_neg (by omega))

theorem exec_flowEstimate_rules {x i u : BitVec 16} {f : Nat}
    (h : flowEstimate x.toNat (toSigned 16 u.toNat - toSigned 16 i.toNat) = some f) : exec (.flowEstimate x i u true) s =
      .next (framed (showBudget (inletRule i (flowRule f (coolantRead i u (some f) s)))) s) := by
  simp only [exec, execFlowEstimate]
  exact run_next ha (by simp only [if_true, h])

theorem exec_flowEstimate_none {x i u : BitVec 16} {valid : Bool}
    (h : valid = false ∨ flowEstimate x.toNat (toSigned 16 u.toNat - toSigned 16 i.toNat) = none) :
    exec (.flowEstimate x i u valid) s = .next (framed (showBudget (coolantRead i u none s)) s) := by
  simp only [exec, execFlowEstimate]
  refine run_next ha ?_
  rcases h with hbad | hnone
  · simp only [hbad, Bool.false_eq_true, if_false]
  · simp only [hnone, ite_self]

end

theorem exec_voltageOutOfRange_idle {s : State} {x : BitVec 16}
    (h : (4800 ≤ x.toNat ∧ x.toNat ≤ 5800) ∨ x.toNat < 4500 ∨ 6000 < x.toNat) :
    exec (.voltageOutOfRange x) s = .next s := by
  simp only [exec, execVoltageOutOfRange]
  exact run_idle _ _ (if_pos h)

/-! ### The wear ledger (16 R555) -/

section
variable {s : State} {n : Nat} (ha : alive s = true) (hsecs : 60 ≤ s.pow.ledgerSecs)
  (hfree : s.pins.pwrFailN = true ∨ ((s.rcd.flush.any fun f => f.powerFail) = false ∧ s.boot.saveDirty = false))
include ha hsecs hfree

/-- Nothing of a power failure stands before a ledger that is due, so it is written or its failure recorded. -/
theorem exec_ledgerWrite_due : exec (.ledgerWrite n) s = .next (framed
    (if n < 2 then { s with pow := { s.pow with ledgerSecs := 0 }, flash := { s.flash with ledger := s.pow.ledger } }
      else emit 0x5120 0 0 { s with pow := { s.pow with ledgerSecs := 0 } }) s) := by
  have hturn : (!s.pins.pwrFailN && ((s.rcd.flush.any fun f => f.powerFail) || s.boot.saveDirty)) = false := by
    rcases hfree with hpin | ⟨hflush, hsave⟩
    · simp only [hpin, Bool.not_true, Bool.false_and]
    · simp only [hflush, hsave, Bool.or_self, Bool.and_false]
  simp only [exec, execLedgerWrite]
  refine run_next ha ?_
  rw [if_neg (by rw [hturn]; simp [hsecs])]
  rfl

theorem exec_ledgerWrite_stores (hn : n < 2) : exec (.ledgerWrite n) s = .next (framed
    { s with pow := { s.pow with ledgerSecs := 0 }, flash := { s.flash with ledger := s.pow.ledger } } s) := by
  rw [exec_ledgerWrite_due ha hsecs hfree, if_pos hn]

theorem exec_ledgerWrite_fails (hn : 2 ≤ n) : exec (.ledgerWrite n) s =
    .next (framed (emit 0x5120 0 0 { s with pow := { s.pow with ledgerSecs := 0 } }) s) := by
  rw [exec_ledgerWrite_due ha hsecs hfree, if_neg (Nat.not_lt.mpr hn)]

end

end Sys2Proof.Machine

open Sys2Proof Sys2Proof.Machine

/-- Settles O11: OP_REQUEST by the point in force and the point asked for, and the change by its rail and its passes. -/
theorem operatingPointsChange : Obligations.OperatingPointsChange :=
  ⟨fun _ _ ha hacc h => run_command ha hacc (writeOpRequest_surge h),
    fun _ _ ha hacc h => run_command ha hacc (writeOpRequest_surgeRefused h),
    fun _ _ ha hacc hp => run_command ha hacc (writeOpRequest_changes (by decide) hp),
    fun _ _ ha hacc hp => run_command ha hacc (writeOpRequest_endsSurge (by decide) hp),
    fun _ _ ha hacc hp => run_command ha hacc (writeOpRequest_changes (by decide) hp),
    fun _ _ ha hacc hp => run_command ha hacc (writeOpRequest_endsSurge (by decide) hp),
    fun _ _ ha hc => exec_coreRailRaised_raises ha hc,
    fun _ _ ha hc hrail hpass => exec_pointClockSwitch_switches ha hc hrail hpass,
    fun _ _ ha hc h => exec_pointClockSwitch_waits ha hc h,
    fun _ ha => run_alive _ _ ha⟩

/-- Settles O12: each reading by the limits it is held against. -/
theorem budgetsClampsAndWear : Obligations.BudgetsClampsAndWear :=
  ⟨fun _ _ ha => by simp only [exec, execPowerSample]; exact run_alive _ _ ha,
    fun _ _ _ ha => by simp only [exec, execThrottlePeriod]; exact run_alive _ _ ha,
    fun _ _ ha hoff hx => exec_clampEngage_stops ha hoff hx,
    fun _ _ _ h => exec_clampEngage_idle h,
    fun _ _ ha hon hx => exec_clampRelease_ends ha hon hx,
    fun _ _ _ h => exec_clampRelease_idle h,
    fun _ _ g ha hx => exec_hotspotReading_cool ha g hx,
    fun _ _ g ha hx => exec_hotspotReading_over ha g hx,
    fun _ _ ha h => exec_voltageOutOfRange_records ha h,
    fun _ _ _ h => exec_voltageOutOfRange_idle h,
    fun _ _ _ _ _ ha h => exec_flowEstimate_rules ha h,
    fun _ _ _ _ ha h => exec_flowEstimate_none ha (.inr h),
    fun _ _ _ _ ha => exec_flowEstimate_none ha (.inl rfl),
    fun _ _ ha => by simp only [exec, execWearCharge]; exact run_alive _ _ ha,
    fun _ _ ha hsecs hfree hn => exec_ledgerWrite_stores ha hsecs hfree hn,
    fun _ _ ha hsecs hfree hn => exec_ledgerWrite_fails ha hsecs hfree hn⟩
end

section
/-! PROOF. Power, the resets of the module and the power and laser pins, by the phase they find (14 R488, R504; 16 R557; 18 R575 to
R581; 20 R622 to R628). -/

namespace Sys2Proof.Machine

open Sys2Proof

/-! ### Power and PERST_N (18 R575 to R577, R581) -/

section
variable {s : State} (i : BitVec 6) (r p f l : Bool)

theorem exec_powerOn_starts (h : s.pow.phase = .unpowered) : exec (.powerOn i r p f l) s =
    .next (framedReset (tryBringup (emit 0x9603 0 0 (coldReset { s with pins := ⟨p, f, l, i, r⟩ }))) s) := by
  simp only [exec, execPowerOn]
  exact runReset_next (if_neg fun hon => hon h)

theorem exec_powerOn_idle (h : s.pow.phase ≠ .unpowered) :
    exec (.powerOn i r p f l) s = .next (framedReset s s) := by
  simp only [exec, execPowerOn]
  exact runReset_next (if_pos h)

end

section
variable {s : State}

theorem exec_powerRemoved_resets (h : s.pow.phase ≠ .unpowered) : exec .powerRemoved s = .next (framedReset
    { wholeReset (dropFlush s) with pow := { (wholeReset (dropFlush s)).pow with phase := .unpowered } } s) := by
  simp only [exec, execPowerRemoved]
  exact runReset_next (if_neg h)

theorem exec_powerRemoved_idle (h : s.pow.phase = .unpowered) : exec .powerRemoved s = .next (framedReset s s) := by
  simp only [exec, execPowerRemoved]
  exact runReset_next (if_pos h)

theorem exec_perstNFall_resets (hpower : s.pow.phase ≠ .unpowered) (hheld : s.pow.phase ≠ .held) : exec .perstNFall s =
    .next (framedReset { perstReset s with pins := { (perstReset s).pins with perstN := false } } s) := by
  simp only [exec, execPerstNFall]
  exact runReset_next (if_neg (not_or_intro hpower hheld))

theorem exec_perstNFall_pin (h : s.pow.phase = .unpowered ∨ s.pow.phase = .held) : exec .perstNFall s =
    .next (framedReset { s with pins := { s.pins with perstN := false } } s) := by
  simp only [exec, execPerstNFall]
  exact runReset_next (if_pos h)

/-! ### PWR_FAIL_N and LASER_EN (14 R488; 20 R625, R628) -/

/-- In a module that runs or is halted the falling pin begins a power failure. -/
theorem exec_pwrFailNFall_fails (h : s.pow.phase = .active ∨ s.pow.phase = .halted) : exec .pwrFailNFall s =
    .next (framed (powerFailing { s with pins := { s.pins with pwrFailN := false } }) s) := by
  simp only [exec, execPwrFailNFall]
  refine runAny_next ?_
  rcases h with h | h <;> simp only [h]

theorem exec_pwrFailNFall_flushes (h : s.pow.phase = .held) : exec .pwrFailNFall s =
    .next (framed (requestFlush 0x5903 0 true { s with pins := { s.pins with pwrFailN := false } }) s) := by
  simp only [exec, execPwrFailNFall]
  exact runAny_next (by simp only [h])

theorem exec_pwrFailNFall_pin (h : s.pow.phase = .unpowered ∨ s.pow.phase = .recovery) : exec .pwrFailNFall s =
    .next (framed { s with pins := { s.pins with pwrFailN := false } } s) := by
  simp only [exec, execPwrFailNFall]
  refine runAny_next ?_
  rcases h with h | h <;> simp only [h]

theorem exec_laserEnFall_darkens (ha : alive s = true) : exec .laserEnFall s = .next (framed
    (forEach (List.range 64) (fun k t => onlyIf ((linkOf k t).state != .lockedOut) (darken k 1) t)
      { s with pins := { s.pins with laserEn := false }, net := { s.net with laserOn := false } }) s) := by
  simp only [exec, execLaserEnFall]
  exact runAny_next (if_pos ha)

theorem exec_laserEnRise_lights (ha : alive s = true) (hstep : 2 ≤ s.boot.stepDone) : exec .laserEnRise s = .next (framed
    (lightLinks { s with pins := { s.pins with laserEn := true }, net := { s.net with laserOn := true } }) s) := by
  simp only [exec, execLaserEnRise]
  exact runAny_next (if_pos ⟨ha, hstep⟩)

theorem exec_laserEnRise_pin (h : alive s = false ∨ s.boot.stepDone < 2) : exec .laserEnRise s =
    .next (framed { s with pins := { s.pins with laserEn := true } } s) := by
  simp only [exec, execLaserEnRise]
  refine runAny_next (if_neg fun ⟨ha, hstep⟩ => ?_)
  rcases h with hdead | hearly
  · exact Bool.noConfusion (ha.symm.trans hdead)
  · exact Nat.not_le.mpr hearly hstep

/-! ### The I3C address and the CXL function (18 R578; 20 R622) -/

theorem exec_dynamicAddressAssignment_takes (a : BitVec 7) (h : answers ⟨.i3c, 0⟩ s = true) :
    exec (.dynamicAddressAssignment a) s = .next (framed { s with boot := { s.boot with i3cAddr := a.toNat } } s) := by
  simp only [exec, execDynamicAddressAssignment]
  exact runAny_next (if_pos h)

theorem exec_functionLevelReset_resets (ha : alive s = true) (hup : s.host.up = true) :
    exec .functionLevelReset s = .next (framed (hostFunctionReset s) s) := by
  simp only [exec, execFunctionLevelReset]
  exact run_next ha (if_neg (by simp [hup]))

theorem exec_functionLevelReset_idle (ha : alive s = true) (hdown : s.host.up = false) :
    exec .functionLevelReset s = .next (framed s s) := by
  simp only [exec, execFunctionLevelReset]
  exact run_next ha (if_pos hdown)

end

end Sys2Proof.Machine

open Sys2Proof Sys2Proof.Machine

/-- Settles O15: each change of power and of a pin by the phase it finds. -/
theorem powerPinsAndResetsAct : Obligations.PowerPinsAndResetsAct :=
  ⟨fun _ i r p f l h => exec_powerOn_starts i r p f l h,
    fun _ i r p f l h => exec_powerOn_idle i r p f l h,
    fun _ h => exec_powerRemoved_resets h,
    fun _ h => exec_powerRemoved_idle h,
    fun _ hpower hheld => exec_perstNFall_resets hpower hheld,
    fun _ h => exec_perstNFall_pin h,
    fun _ _ _ => rfl,
    fun _ h => exec_pwrFailNFall_fails (.inl h),
    fun _ h => exec_pwrFailNFall_fails (.inr h),
    fun _ h => exec_pwrFailNFall_flushes h,
    fun _ h => exec_pwrFailNFall_pin h,
    fun _ => rfl,
    fun _ ha => run_alive _ _ ha,
    fun _ ha => exec_laserEnFall_darkens ha,
    fun _ ha hstep => exec_laserEnRise_lights ha hstep,
    fun _ h => exec_laserEnRise_pin h,
    fun _ a h => exec_dynamicAddressAssignment_takes a h,
    fun _ ha hup => exec_functionLevelReset_resets ha hup,
    fun _ ha hdown => exec_functionLevelReset_idle ha hdown⟩
end

section
/-! PROOF. Firmware slots, fuses, reports, measurements and debug tokens (17 R559 to R573; 20 R623). -/

namespace Sys2Proof.Machine

open Sys2Proof

/-! ### Loading (17 R561) -/

section
variable {s : State} {v : Nat}

theorem writeFwData_puts (h : rd Obj.FW_OFFSET s + 8 ≤ 0x800000) : writeFwData v s =
    (0, wr Obj.FW_STATE 1 (wr Obj.FW_OFFSET (rd Obj.FW_OFFSET s + 8) (setSlotCells (inactiveSlot s)
      (putBytes (rd Obj.FW_OFFSET s) (leBytes 8 v) (slotCells (inactiveSlot s) (clearPending s))) (clearPending s)))) :=
  if_neg (Nat.not_lt.mpr h)

theorem writeFwData_refused (h : 0x800000 < rd Obj.FW_OFFSET s + 8) : writeFwData v s = (0x03000004, s) := if_pos h

theorem writeFwFromFloor_reads (h : floorRefusal v s = 0) : writeFwFromFloor v s =
    floorTaken v (floorLength v s) (readSectors (v / 32) ((v + 8192 + floorLength v s + 31) / 32 - v / 32) s) := by
  simp only [writeFwFromFloor, h]

theorem writeFwFromFloor_refused (h : floorRefusal v s ≠ 0) : writeFwFromFloor v s = (floorRefusal v s, s) := by
  unfold writeFwFromFloor
  split
  · exact absurd ‹_› h
  · rfl

/-! ### Checking (17 R559, R562) -/

/-- Outside recovery a slot without a reason against it becomes pending, and one with a reason is refused with its code. -/
theorem writeFwControl_checks (hphase : s.pow.phase ≠ .recovery) : writeFwControl 1 s =
    (if imageReason (slotCells (inactiveSlot s) s) s = 0 then 0 else reasonCode (imageReason (slotCells (inactiveSlot s) s) s),
      if imageReason (slotCells (inactiveSlot s) s) s = 0 then
        emit 0x7004 0 (cellNum (slotCells (inactiveSlot s) s) 12 2) (wr Obj.FW_STATE 3 { s with
          flash := { s.flash with pendingSlot := some (inactiveSlot s), pendTried := false } })
      else wr Obj.FW_STATE 4 s) := by
  simp only [writeFwControl, OfNat.one_ne_ofNat, if_false]
  split
  case h_1 hgood => simp only [hgood, hphase, if_true, if_false]
  case h_2 hbad => simp only [if_neg hbad]

theorem writeFwControl_clears : writeFwControl 2 s = (0, wr Obj.FW_STATE 0 (clearPending s)) := if_pos rfl

/-! ### Fuses (17 R564, R565) -/

theorem writeFuseSvn_raises (hrise : s.fuse.svn < v) (himage : v ≤ rd Obj.IMAGE_SVN s)
    (hpend : (s.flash.pendingSlot.all fun k => decide (v ≤ cellNum (slotCells k s) 12 2)) = true) :
    writeFuseSvn v s = (0, emit 0x7005 0 v { s with fuse := { s.fuse with svn := v } }) :=
  if_neg (by simp only [hpend, Nat.not_le.mpr hrise, Nat.not_lt.mpr himage, Bool.true_eq_false, or_self, not_false_eq_true])

theorem writeFuseSvn_refused (h : v ≤ s.fuse.svn ∨ rd Obj.IMAGE_SVN s < v ∨
    (s.flash.pendingSlot.all fun k => decide (v ≤ cellNum (slotCells k s) 12 2)) = false) :
    writeFuseSvn v s = (0x06000005, s) := if_pos h

theorem writeRevokeKey_revokes (hrun : v ≠ s.boot.runKey)
    (hleft : (((List.range 4).filter fun j => j != v).all fun j => bitOf s.fuse.revoked.toNat j) = false) :
    writeRevokeKey v s = (0, emit 0x7006 0 v
      { s with fuse := { s.fuse with revoked := s.fuse.revoked ||| BitVec.ofNat 4 (2 ^ v) } }) :=
  if_neg (not_or_intro hrun (by rw [hleft]; exact Bool.false_ne_true))

theorem writeRevokeKey_refused (h : v = s.boot.runKey ∨
    (((List.range 4).filter fun j => j != v).all fun j => bitOf s.fuse.revoked.toNat j) = true) :
    writeRevokeKey v s = (0x06000005, s) := if_pos h

end

/-! ### Attestation (17 R568 to R570) -/

section
variable {s : State}

theorem writeAttest_takes (hstate : rd Obj.ATTEST_STATE s ≠ 1) (hkey : s.sec.keyErased = false) : writeAttest s =
    (0, wr Obj.ATTEST_STATE 1 { s with sec := { s.sec with attest := some (reportBody s) } }) := by
  unfold writeAttest
  rw [if_neg hstate, if_neg (by simp [hkey])]

theorem writeAttest_building (hstate : rd Obj.ATTEST_STATE s = 1) : writeAttest s = (0x06000006, s) := if_pos hstate

theorem writeAttest_erased (hstate : rd Obj.ATTEST_STATE s ≠ 1) (hkey : s.sec.keyErased = true) :
    writeAttest s = (0x06000007, wr Obj.ATTEST_STATE 3 s) := by
  unfold writeAttest
  rw [if_neg hstate, if_pos hkey]

theorem exec_reportBuilt_signs {b : List Byte} (ha : alive s = true) (hb : s.sec.attest = some b) : exec .reportBuilt s =
    .next (framed (emit 0x7010 0 0 (wr Obj.ATTEST_STATE 2 { s with
      sec := { s.sec with attest := none, report := b ++ Config.mldsaSign b (ascii "JZ2-ATT") } })) s) := by
  simp only [exec, execReportBuilt]
  exact run_next ha (by simp only [hb])

theorem exec_reportBuilt_idle (ha : alive s = true) (hb : s.sec.attest = none) :
    exec .reportBuilt s = .next (framed s s) := by
  simp only [exec, execReportBuilt]
  exact run_next ha (by simp only [hb])

/-! ### Measurement (17 R571; 09 R332) -/

theorem writeMeasure_queues {v : Nat} (h : (tensorOf (v % 2 ^ 24) s).state = 1) : writeMeasure v s =
    (0, wr Obj.MEASURE_STATE 1 { takeRef (v % 2 ^ 24) s with sec := { (takeRef (v % 2 ^ 24) s).sec with
      measuring := s.sec.measuring ++ [v % 2 ^ 24]
      measWritten := !s.sec.measuring.isEmpty && s.sec.measWritten } }) := by
  unfold writeMeasure
  simp only [h, ne_eq, not_true_eq_false, if_false, takeRef_sec]

theorem writeMeasure_refused {v : Nat} (h : (tensorOf (v % 2 ^ 24) s).state ≠ 1) : writeMeasure v s = (0x0600000A, s) :=
  if_pos h

theorem exec_measurementDone_none (ha : alive s = true) (hm : s.sec.measuring = []) :
    exec .measurementDone s = .next (framed s s) := by
  simp only [exec, execMeasurementDone]
  exact run_next ha (by simp only [hm])

section
variable {t : Nat} {rest : List Nat} (ha : alive s = true) (hm : s.sec.measuring = t :: rest)
include ha hm

/-- A measurement waits while its tensor's class is frozen or a write to it is under way. -/
theorem exec_measurementDone_waits
    (h : frozenAt 7 (tensorOf t s).home s = true ∨ rangeHeld (tensorOf t s).home (tensorOf t s).size s = true) :
    exec .measurementDone s = .next (framed s s) := by
  simp only [exec, execMeasurementDone]
  exact run_next ha (by simp only [hm, if_pos h])

section
variable (hthawed : frozenAt 7 (tensorOf t s).home s = false)
  (hfree : rangeHeld (tensorOf t s).home (tensorOf t s).size s = false)
include hthawed hfree

theorem exec_measurementDone_written (hw : s.sec.measWritten = true) :
    exec .measurementDone s = .next (framed (measured t rest none s) s) := by
  simp only [exec, execMeasurementDone]
  exact run_next ha (by simp only [hm, hthawed, hfree, hw, Bool.false_eq_true, or_self, if_false, if_true])

theorem exec_measurementDone_digests (hw : s.sec.measWritten = false)
    (hclear : snoopLines false [((tensorOf t s).home, (tensorOf t s).size)] s = []) : exec .measurementDone s =
      .next (framed (measured t rest (homeDigest (tensorOf t s).home (tensorOf t s).size s).1
        (homeDigest (tensorOf t s).home (tensorOf t s).size s).2) s) := by
  simp only [exec, execMeasurementDone]
  exact run_next ha (by
    simp only [hm, hthawed, hfree, hw, Bool.false_eq_true, or_self, if_false, afterSnoops_clear _ _ _ _ hclear])

end

end

/-! ### Debug unlock (17 R572, R573; 20 R623) -/

theorem writeDebugControl_considers (h : s.sec.refusals < 3) : writeDebugControl 1 s =
    if tokenOk s = true then
      (0, openScopes (cellNum s.sec.token 4 4 % 8) { s with sec := { s.sec with challenge := s.sec.challenge + 1 } })
    else (0x06000008, emit 0x7021 0 (s.sec.refusals + 1) { s with
      sec := { s.sec with challenge := s.sec.challenge + 1, refusals := s.sec.refusals + 1 } }) := by
  simp only [writeDebugControl, submitToken, if_true, if_neg (Nat.not_le.mpr h)]

theorem writeDebugControl_spent (h : 3 ≤ s.sec.refusals) : writeDebugControl 1 s = (0x06000009, s) := by
  simp only [writeDebugControl, submitToken, if_true, if_pos h]

theorem exec_debugSubmit_considers {w : Writer} (ha : alive s = true) (hacc : accepts w 0xD040 4 1 s = true)
    (h : s.sec.refusals < 3) : exec (.debugSubmit w) s = .next (framed (if tokenOk s = true then
      answerWith w 0 0 [] (openScopes (cellNum s.sec.token 4 4 % 8)
        { s with sec := { s.sec with challenge := s.sec.challenge + 1 } })
    else answerWith w 0 0x06000008 [] (emit 0x7021 0 (s.sec.refusals + 1) { s with
      sec := { s.sec with challenge := s.sec.challenge + 1, refusals := s.sec.refusals + 1 } })) s) := by
  by_cases hok : tokenOk s = true
  · rw [if_pos hok]
    exact run_command ha hacc ((writeDebugControl_considers h).trans (if_pos hok))
  · rw [if_neg hok]
    exact run_command ha hacc ((writeDebugControl_considers h).trans (if_neg hok))

/-- With no scope open the test access port holds one of its two other instructions. -/
theorem loadTap_closed (i : TapInstr) (h : rd Obj.DEBUG_SCOPE s = 0) :
    (loadTap i s).sec.tap = .bypass ∨ (loadTap i s).sec.tap = .idcode := by
  cases i with
  | bypass => exact .inl rfl
  | idcode => exact .inr rfl
  | other => exact .inl (if_pos ⟨rfl, h⟩)

end

end Sys2Proof.Machine

open Sys2Proof Sys2Proof.Machine

/-- Settles O13: each loading command by what it finds in the slot or in the Floor, and each fuse by its conditions. -/
theorem firmwareIsLoadedAndChecked : Obligations.FirmwareIsLoadedAndChecked :=
  ⟨fun _ _ _ hon hacc h => runFw_command hon hacc (writeFwData_puts h),
    fun _ _ _ hon hacc h => runFw_command hon hacc (writeFwData_refused h),
    fun _ _ _ ha hacc h => run_command ha hacc (writeFwFromFloor_reads h),
    fun _ _ _ _ => rfl,
    fun _ _ _ ha hacc h => run_command ha hacc (writeFwFromFloor_refused h),
    fun _ _ hon hacc hphase => runFw_command hon hacc (writeFwControl_checks hphase),
    fun _ _ hphase => runFw_on _ _ (.inr hphase),
    fun _ _ hon hacc => runFw_command hon hacc writeFwControl_clears,
    fun _ _ _ ha hacc hrise himage hpend => runFuse_command ha hacc (writeFuseSvn_raises hrise himage hpend),
    fun _ _ _ ha hacc h => runFuse_command ha hacc (writeFuseSvn_refused h),
    fun _ _ _ ha hacc hrun hleft => runFuse_command ha hacc (writeRevokeKey_revokes hrun hleft),
    fun _ _ _ ha hacc h => runFuse_command ha hacc (writeRevokeKey_refused h)⟩

/-- Settles O14: a report by ATTEST_STATE and the identity key, a measurement by its tensor, and a token by its refusals. -/
theorem reportsMeasuresAndDebug : Obligations.ReportsMeasuresAndDebug :=
  ⟨fun _ _ ha hacc hstate hkey => run_command ha hacc (writeAttest_takes hstate hkey),
    fun _ _ ha hacc hstate => run_command ha hacc (writeAttest_building hstate),
    fun _ _ ha hacc hstate hkey => run_command ha hacc (writeAttest_erased hstate hkey),
    fun _ _ ha hb => exec_reportBuilt_signs ha hb,
    fun _ ha hb => exec_reportBuilt_idle ha hb,
    fun _ _ _ ha hacc h => run_command ha hacc (writeMeasure_queues h),
    fun _ _ _ ha hacc h => run_command ha hacc (writeMeasure_refused h),
    fun _ _ _ ha hm hthawed hfree hw hclear => exec_measurementDone_digests ha hm hthawed hfree hw hclear,
    fun _ _ _ ha hm _ hheld => exec_measurementDone_waits ha hm (.inr hheld),
    fun _ _ _ ha hm hthawed hfree hw => exec_measurementDone_written ha hm hthawed hfree hw,
    fun _ _ _ ha hm hfrozen => exec_measurementDone_waits ha hm (.inl hfrozen),
    fun _ ha hm => exec_measurementDone_none ha hm,
    fun _ _ _ ha hacc => run_command ha hacc rfl,
    fun _ _ ha hacc h => exec_debugSubmit_considers ha hacc h,
    fun _ _ ha hacc h => run_command ha hacc (writeDebugControl_spent h),
    fun _ _ ha hacc => run_command ha hacc rfl,
    fun _ i h => loadTap_closed i h⟩
end

section
/-! PROOF. The dictionary server: what a write does by the class of its object, and what a read answers (13 R447 to R460, R472 to
R477; 19 R600, R604). -/

namespace Sys2Proof.Machine

open Sys2Proof

/-! ### Writes by the class of the object (13 R451, R455 to R458) -/

section
variable {w : Writer} {idx sub len v : Nat} {s : State}

theorem writeObject_refused (h : writeGate w idx sub len v s ≠ 0) :
    writeObject w idx sub len v s = (writeGate w idx sub len v s, s) := by
  unfold writeObject
  split
  · exact absurd ‹_› h
  · rfl

theorem writeObject_passes {r : ObjRow} (h : writeGate w idx sub len v s = 0) (hr : findObj idx sub = .ok r) :
    writeObject w idx sub len v s = writeByClass w r idx sub v s := by
  simp only [writeObject, h, hr]

variable {r : ObjRow}

theorem writeByClass_selector (hsel : isSelector idx sub = true) :
    writeByClass w r idx sub v s = (0, setSelector w.via idx v s) := if_pos hsel

section
variable (hsel : isSelector idx sub = false)
include hsel

theorem writeByClass_writeOnly (hwo : r.access = .wo) : writeByClass w r idx sub v s = writeAction w idx sub v s := by
  unfold writeByClass
  rw [if_neg (by simp [hsel]), if_pos hwo]

variable (hrw : r.access ≠ .wo)
include hrw

theorem writeByClass_control (hlo : 0x2000 ≤ idx) (hhi : idx ≤ 0x2FFF) :
    writeByClass w r idx sub v s = writeControl w idx sub v s := by
  unfold writeByClass
  rw [if_neg (by simp [hsel]), if_neg hrw, if_pos ⟨hlo, hhi⟩]

variable (hout : ¬ (0x2000 ≤ idx ∧ idx ≤ 0x2FFF))
include hout

theorem writeByClass_staged (h : r.change = .commit ∨ nth false s.dict.stageMode (transportNum w.via) = true) :
    writeByClass w r idx sub v s = stage w (keyOf idx sub (selOf w.via idx sub s)) v s := by
  unfold writeByClass
  rw [if_neg (by simp [hsel]), if_neg hrw, if_neg hout, if_pos h]

variable (hcommit : r.change ≠ .commit) (hstage : nth false s.dict.stageMode (transportNum w.via) = false)
include hcommit hstage

theorem writeByClass_notStopped {f : Nat} (hchange : r.change = .stopped) (hf : ownerFn idx = some f) (hgen : f ≠ 15)
    (hrun : runOf f s ≠ .stopped) : writeByClass w r idx sub v s = (0x03000001, s) := by
  unfold writeByClass
  rw [if_neg (by simp [hsel]), if_neg hrw, if_neg hout, if_neg (by simp [hcommit, hstage]), if_pos hchange]
  simp [hf, hgen, hrun]

/-- A value that no class holds back takes effect at once. -/
theorem writeByClass_applies (h : r.change ≠ .stopped ∨ ownerFn idx = none ∨
    ∃ f, ownerFn idx = some f ∧ (f = 15 ∨ runOf f s = .stopped)) :
    writeByClass w r idx sub v s = applyValue (keyOf idx sub (selOf w.via idx sub s)) v s := by
  unfold writeByClass
  rw [if_neg (by simp [hsel]), if_neg hrw, if_neg hout, if_neg (by simp [hcommit, hstage])]
  rcases h with hlive | hnone | ⟨f, hf, hfree⟩
  · rw [if_neg hlive]
  · simp only [hnone, if_true, ite_self]
  · have hstopped : (f == 15 || runOf f s == .stopped) = true := by simpa using hfree
    simp only [hf, hstopped, if_true, ite_self]

end

end

/-! ### A write as a request -/

section
variable {c : Instr} {w : Writer} {tag idx sub len v : Nat} {s : State} (hc : writesObject c w tag idx sub len v)
  (htaken : requestTaken w idx sub s = true)
include hc htaken

theorem exec_writesObject_refused (h : writeGate w idx sub len v s ≠ 0) : exec c s =
    .next (framedWrite idx sub (answerWith w tag (writeGate w idx sub len v s) [] s) s) := by
  rw [exec_writes _ _ _ _ _ _ _ _ hc htaken, writeObject_refused h]

theorem exec_writesObject_passes {r : ObjRow} {p : Nat × State} (h : writeGate w idx sub len v s = 0)
    (hr : findObj idx sub = .ok r) (hp : writeByClass w r idx sub v s = p) :
    exec c s = .next (framedWrite idx sub (answerWith w tag p.1 [] p.2) s) := by
  rw [exec_writes _ _ _ _ _ _ _ _ hc htaken, writeObject_passes h hr, hp]

end

/-! ### FREEZE (19 R600) -/

/-- The row of FREEZE, a Live object. -/
def freezeRow : ObjRow := ⟨0x6201, 0x6201, 1, 1, 1, .rw, .live, false, 0, 0x7f, [], 1, false, false⟩

theorem findObj_freeze : findObj 0x6201 1 = .ok freezeRow := rfl

theorem selOf_freeze (t : Transport) (s : State) : selOf t 0x6201 1 s = 0 := rfl

theorem applyValue_freeze (v : Nat) (s : State) : applyValue (keyOf 0x6201 1 0) v s = writeFreeze v s := by
  have hidx : keyIdx (keyOf 0x6201 1 0) = 0x6201 := by decide
  have hsub : keySub (keyOf 0x6201 1 0) = 1 := by decide
  simp [applyValue, hidx, hsub]

theorem writeByClass_freeze {w : Writer} {v : Nat} {s : State}
    (hstage : nth false s.dict.stageMode (transportNum w.via) = false) :
    writeByClass w freezeRow 0x6201 1 v s = writeFreeze v s := by
  rw [writeByClass_applies rfl (by decide) (by decide) (by decide) hstage (.inl (by decide)), selOf_freeze, applyValue_freeze]

/-! ### Reads (13 R448, R450, R473, R476) -/

/-- Control space reads an object that is no domain, and the node's name. -/
theorem not_barDomain {w : Writer} {r : ObjRow} {idx : Nat} (hopen : isBar w = false ∨ r.size ≠ 0 ∨ idx = 0x1000) :
    ¬ (isBar w = true ∧ r.size = 0 ∧ idx ≠ 0x1000) := fun ⟨hbar, hsize, hidx⟩ => by
  rcases hopen with hmctp | hsized | hname
  · exact Bool.noConfusion (hbar.symm.trans hmctp)
  · exact hsized hsize
  · exact hidx hname

section
variable {w : Writer} {idx sub : Nat} {s : State} (off : Nat)

theorem readFrom_down (hfw : firmwareDown s = true) : readFrom w idx sub off s = (0x05000003, [], s) := if_pos hfw

section
variable (hfw : firmwareDown s = false)
include hfw

theorem readFrom_absent {e : Nat} (he : findObj idx sub = .error e) :
    readFrom w idx sub off s = (e, if isBar w then List.replicate 8 0xFF#8 else [], s) := by
  simp only [readFrom, hfw, he, Bool.false_eq_true, if_false]

variable {r : ObjRow} (hr : findObj idx sub = .ok r)
include hr

theorem readFrom_barDomain (hbar : isBar w = true) (hsize : r.size = 0) (hidx : idx ≠ 0x1000) :
    readFrom w idx sub off s = (0x01000001, List.replicate 8 0xFF#8, s) := by
  simp only [readFrom, hfw, hr, Bool.false_eq_true, if_false]
  exact if_pos ⟨hbar, hsize, hidx⟩

variable (hopen : isBar w = false ∨ r.size ≠ 0 ∨ idx = 0x1000)
include hopen

theorem readFrom_writeOnly (hwo : r.access = .wo) : readFrom w idx sub off s = (0x01000004, [], s) := by
  simp only [readFrom, hfw, hr, Bool.false_eq_true, if_false]
  rw [if_neg (not_barDomain hopen), if_pos hwo]

theorem readFrom_bytes (hrw : r.access ≠ .wo) : readFrom w idx sub off s =
    (0, if r.size = 0 then ((readBytes w.via r idx sub s).1.drop off).take 240 else (readBytes w.via r idx sub s).1,
      (readBytes w.via r idx sub s).2) := by
  simp only [readFrom, hfw, hr, Bool.false_eq_true, if_false]
  rw [if_neg (not_barDomain hopen), if_neg hrw]

end

end

/-! ### The requests (13 R473) -/

section
variable {w : Writer} {a : BitVec 16} {b d : BitVec 24} {v : List Byte} {s : State}
  (htaken : requestTaken w (dictIndex (dictHeader a b d)) (dictSub (dictHeader a b d)) s = true)
include htaken

section
variable (hhead : headerCheck 1 (dictHeader a b d) 0 = 0)
include hhead

/-- A read that is taken answers what it reads. -/
theorem exec_dictRead_answers {c : Nat} {bs : List Byte} {t : State}
    (h : readFrom w (dictIndex (dictHeader a b d)) (dictSub (dictHeader a b d)) 0 s = (c, bs, t)) :
    exec (.dictRead w a b d) s = .next (framed (answerAs w 1 (dictTag (dictHeader a b d)) c bs t) s) := by
  simp only [exec, execDictRead]
  exact runAny_next (by rw [request_taken _ _ _ _ _ _ _ htaken hhead, readRequest, h])

end

theorem exec_dictRead_refused (hhead : headerCheck 1 (dictHeader a b d) 0 ≠ 0) : exec (.dictRead w a b d) s =
    .next (framed (answerAs w (dictCommand (dictHeader a b d)) (dictTag (dictHeader a b d))
      (headerCheck 1 (dictHeader a b d) 0) [] s) s) := by
  simp only [exec, execDictRead]
  exact runAny_next (request_refused _ _ _ _ _ _ _ htaken hhead)

theorem exec_dictWrite_refused (hhead : headerCheck 2 (dictHeader a b d) v.length ≠ 0) : exec (.dictWrite w a b d v) s =
    .next (framedWrite (dictIndex (dictHeader a b d)) (dictSub (dictHeader a b d))
      (answerAs w (dictCommand (dictHeader a b d)) (dictTag (dictHeader a b d))
        (headerCheck 2 (dictHeader a b d) v.length) [] s) s) := by
  simp only [exec, execDictWrite]
  rw [runWrite_eq, request_refused _ _ _ _ _ _ _ htaken hhead]

theorem exec_readSegment_refused (hhead : headerCheck 4 (dictHeader a b d) v.length ≠ 0) :
    exec (.readSegment w a b d v) s = .next (framed (answerAs w (dictCommand (dictHeader a b d))
      (dictTag (dictHeader a b d)) (headerCheck 4 (dictHeader a b d) v.length) [] s) s) := by
  simp only [exec, execReadSegment]
  exact runAny_next (request_refused _ _ _ _ _ _ _ htaken hhead)

section
variable (hhead : headerCheck 4 (dictHeader a b d) v.length = 0)
include hhead

theorem exec_readSegment_noDomain
    (h : v.length ≠ 4 ∨ isDomain (dictIndex (dictHeader a b d)) (dictSub (dictHeader a b d)) = false) :
    exec (.readSegment w a b d v) s =
      .next (framed (answerAs w 4 (dictTag (dictHeader a b d)) 0x01000005 [] s) s) := by
  simp only [exec, execReadSegment]
  exact runAny_next (by rw [request_taken _ _ _ _ _ _ _ htaken hhead, if_pos h])

theorem exec_readSegment_reads (hlen : v.length = 4)
    (hdom : isDomain (dictIndex (dictHeader a b d)) (dictSub (dictHeader a b d)) = true) :
    exec (.readSegment w a b d v) s = .next (framed (readRequest w 4 (dictTag (dictHeader a b d))
      (dictIndex (dictHeader a b d)) (dictSub (dictHeader a b d)) (ofLeBytes v) s) s) := by
  simp only [exec, execReadSegment]
  exact runAny_next (by rw [request_taken _ _ _ _ _ _ _ htaken hhead, if_neg (by simp [hlen, hdom])])

end

section
variable (hone : requestTaken w (dictIndex (dictHeader a b d)) 1 s = true)
include hone

theorem exec_selectRead_refused (hhead : headerCheck 3 (dictHeader a b d) v.length ≠ 0) : exec (.selectRead w a b d v) s =
    .next (framedWrite (dictIndex (dictHeader a b d)) 1 (answerAs w (dictCommand (dictHeader a b d))
      (dictTag (dictHeader a b d)) (headerCheck 3 (dictHeader a b d) v.length) [] s) s) := by
  simp only [exec, execSelectRead]
  rw [runWrite_eq, request_refused _ _ _ _ _ _ _ (Bool.and_eq_true_iff.mpr ⟨htaken, hone⟩) hhead]

/-- SELECT_READ writes sub 1 first, and reads where that was taken. -/
theorem exec_selectRead_writes {p : Nat × State} (hhead : headerCheck 3 (dictHeader a b d) v.length = 0)
    (hp : writeObject w (dictIndex (dictHeader a b d)) 1 v.length (ofLeBytes v) s = p) : exec (.selectRead w a b d v) s =
      .next (framedWrite (dictIndex (dictHeader a b d)) 1 (if p.1 = 0 then
        readRequest w 3 (dictTag (dictHeader a b d)) (dictIndex (dictHeader a b d)) (dictSub (dictHeader a b d)) 0 p.2
      else answerAs w 3 (dictTag (dictHeader a b d)) p.1 [] p.2) s) := by
  simp only [exec, execSelectRead]
  rw [runWrite_eq, request_taken _ _ _ _ _ _ _ (Bool.and_eq_true_iff.mpr ⟨htaken, hone⟩) hhead, hp]

end

end

/-! ### Responses over Cavo (19 R604) -/

section
variable {s : State} (ha : alive s = true)
include ha

theorem exec_dictResponseDrop_drops {p : Flit × Nat} (hp : lateResponse s = some p) :
    exec .dictResponseDrop s = .next (framed (dropResponse p.1 s) s) := by
  simp only [exec, execDictResponseDrop]
  exact run_next ha (by simp only [hp])

theorem exec_dictResponseDrop_idle (hnone : lateResponse s = none) :
    exec .dictResponseDrop s = .next (framed s s) := by
  simp only [exec, execDictResponseDrop]
  exact run_next ha (by simp only [hnone])

end

end Sys2Proof.Machine

open Sys2Proof Sys2Proof.Machine

/-- Settles O57: the gate first, then the classes in the order the rule tries them. -/
theorem dictionaryWritesActByClass : Obligations.DictionaryWritesActByClass :=
  ⟨fun _ _ _ _ _ _ _ _ hc htaken h => exec_writesObject_refused hc htaken h,
    fun _ _ _ _ _ _ _ _ _ hc htaken h hr hsel => exec_writesObject_passes hc htaken h hr (writeByClass_selector hsel),
    fun _ _ _ _ _ _ _ _ _ hc htaken h hr hsel hwo =>
      exec_writesObject_passes hc htaken h hr (writeByClass_writeOnly hsel hwo),
    fun _ _ _ _ _ _ _ _ _ hc htaken h hr hsel hrw hlo hhi =>
      exec_writesObject_passes hc htaken h hr (writeByClass_control hsel hrw hlo hhi),
    fun _ _ _ _ _ _ _ _ _ hc htaken h hr hsel hrw hout hstage =>
      exec_writesObject_passes hc htaken h hr (writeByClass_staged hsel hrw hout hstage),
    fun _ _ _ _ _ _ _ _ _ _ hc htaken h hr hsel hrw hout hcommit hstage hchange hf hgen hrun =>
      exec_writesObject_passes hc htaken h hr
        (writeByClass_notStopped hsel hrw hout hcommit hstage hchange hf hgen hrun),
    fun _ _ _ _ _ _ _ _ _ hc htaken h hr hsel hrw hout hcommit hstage hfree =>
      exec_writesObject_passes hc htaken h hr (writeByClass_applies hsel hrw hout hcommit hstage hfree)⟩

/-- Settles O58: a read by what stands in its way, and each other request by its header. -/
theorem dictionaryReadsAnswer : Obligations.DictionaryReadsAnswer :=
  ⟨fun _ _ _ _ _ htaken hhead hfw => exec_dictRead_answers htaken hhead (readFrom_down 0 hfw),
    fun _ _ _ _ _ _ htaken hhead hfw he => exec_dictRead_answers htaken hhead (readFrom_absent 0 hfw he),
    fun _ _ _ _ _ _ htaken hhead hfw hr hbar hsize hidx =>
      exec_dictRead_answers htaken hhead (readFrom_barDomain 0 hfw hr hbar hsize hidx),
    fun _ _ _ _ _ _ htaken hhead hfw hr hopen hwo =>
      exec_dictRead_answers htaken hhead (readFrom_writeOnly 0 hfw hr hopen hwo),
    fun _ _ _ _ _ _ htaken hhead hfw hr hopen hrw =>
      exec_dictRead_answers htaken hhead (readFrom_bytes 0 hfw hr hopen hrw),
    fun _ _ _ _ _ _ htaken hone hhead hok => by
      rw [exec_selectRead_writes htaken hone hhead rfl, if_pos hok],
    fun _ _ _ _ _ _ htaken hone hhead hbad => by
      rw [exec_selectRead_writes htaken hone hhead rfl, if_neg hbad],
    fun _ _ _ _ _ _ htaken hhead h => exec_readSegment_noDomain htaken hhead h,
    fun _ _ _ _ _ _ htaken hhead hlen hdom => exec_readSegment_reads htaken hhead hlen hdom,
    fun _ _ _ _ _ htaken hhead => exec_dictRead_refused htaken hhead,
    fun _ _ _ _ _ _ htaken hhead => exec_dictWrite_refused htaken hhead,
    fun _ _ _ _ _ _ htaken hone hhead => exec_selectRead_refused htaken hone hhead,
    fun _ _ _ _ _ _ htaken hhead => exec_readSegment_refused htaken hhead,
    fun _ _ ha hp => exec_dictResponseDrop_drops ha hp,
    fun _ ha hnone => exec_dictResponseDrop_idle ha hnone⟩

/-- Settles O21: the command and the dictionary's write of FREEZE come to one rule, which refuses the bit. -/
theorem heldCollectivesRefuseFreeze : Obligations.HeldCollectivesRefuseFreeze :=
  ⟨fun _ _ _ ha hacc hbit hslots => run_command ha hacc (writeFreeze_refused hbit hslots),
    fun _ _ _ _ _ _ hc htaken hgate hstage hbit hslots =>
      exec_writesObject_passes hc htaken hgate findObj_freeze
        ((writeByClass_freeze hstage).trans (writeFreeze_refused hbit hslots))⟩
end

section
/-! PROOF. Commits, run control and the saved image (13 R452 to R471; 02 R45; 18 R585). -/

namespace Sys2Proof.Machine

open Sys2Proof

/-! ### COMMIT_CONTROL (13 R453, R460, R461) -/

/-- What each value of COMMIT_CONTROL does for the writer it belongs to. -/
def commitAction (v : Nat) (s : State) : Nat × State :=
  match v with
  | 1 => startCommit s
  | 2 => armCommit s
  | 3 => (0, { s with dict := { s.dict with commit := none } })
  | 4 => (0, unstage (fun x => inSet (rd Obj.COMMIT_SET s) x.key) s)
  | _ => validateOnly s

section
variable {w : Writer} {s : State}

theorem writeCommitControl_owner (v : Nat) (hbusy : commitBusy s = false) (howner : commitOwner w s = true) :
    writeCommitControl w v s = commitAction v (touchStaging w s) := by
  unfold writeCommitControl
  rw [if_neg (by simp [howner]), if_neg (by simp [hbusy]), if_neg (by simp [howner])]
  rfl

theorem writeCommitControl_notOwner {v : Nat} (hv : v ≠ 4) (hbusy : commitBusy s = false)
    (howner : commitOwner w s = false) : writeCommitControl w v s = (0x04000003, s) := by
  unfold writeCommitControl
  rw [if_neg fun h => hv h.2.1, if_neg (by simp [hbusy]), if_pos howner]

/-- A discard by I3C takes the area of another writer. -/
theorem writeCommitControl_takesArea (howner : commitOwner w s = false) (hvia : w.via = .i3c) :
    writeCommitControl w 4 s = (0, releaseStaging s) := if_pos ⟨howner, rfl, hvia⟩

/-- An accepted COMMIT_CONTROL of the owner is its value's action, on the area it keeps from idling. -/
theorem run_commitControl {v c : Nat} {t u : State} (ha : alive s = true) (hacc : accepts w 0x2010 3 v s = true)
    (hbusy : commitBusy s = false) (howner : commitOwner w s = true) (ht : t = touchStaging w s)
    (h : commitAction v t = (c, u)) :
    run (command w 0x2010 3 v (writeCommitControl w v)) s = .next (framed (answerWith w 0 c [] u) s) :=
  run_command ha hacc ((writeCommitControl_owner v hbusy howner).trans (ht ▸ h))

/-- An accepted COMMIT_CONTROL of another writer, other than a discard, is refused. -/
theorem run_commitControl_refused {v : Nat} (hv : v ≠ 4) (ha : alive s = true) (hacc : accepts w 0x2010 3 v s = true)
    (hbusy : commitBusy s = false) (howner : commitOwner w s = false) :
    run (command w 0x2010 3 v (writeCommitControl w v)) s = .next (framed (answerWith w 0 0x04000003 [] s) s) :=
  run_command ha hacc (writeCommitControl_notOwner hv hbusy howner)

end

/-! ### The actions (13 R462, R463, R467, R468; 02 R45) -/

section
variable {s : State}

/-- With a legal set and a time that is none or to come, and on the grids the Caller asks for, the commit begins. -/
theorem startCommit_begins (hphase : s.trn.phase = none) (hset : setLegal (rd Obj.COMMIT_SET s) = true)
    (htime : rd Obj.COMMIT_TIME s = 0 ∨ now s ≤ rd Obj.COMMIT_TIME s)
    (hgrid : rd Obj.COMMIT_TIME s = 0 ∨ bitOf (rd Obj.COMMIT_SET s) 5 = false ∨
      ((nextB (rd Obj.COMMIT_SET s) s = beatB s ∨
        onMeasure (commitGrid (rd Obj.COMMIT_SET s) s) (rd Obj.COMMIT_TIME s) = true) ∧
        onMeasure (beatB s) (rd Obj.COMMIT_TIME s) = true)) :
    startCommit s = (0, beginAtTime { s with dict := { s.dict with commit := some { Commit.init with
      phase := .waitTime, fset := BitVec.ofNat 16 (rd Obj.COMMIT_SET s), time := BitVec.ofNat 64 (rd Obj.COMMIT_TIME s),
      applyAt := if bitOf (rd Obj.COMMIT_SET s) 5 = true ∧ rd Obj.COMMIT_TIME s ≠ 0
        then some (rd Obj.COMMIT_TIME s) else none } } }) := by
  have hnotPast : ¬ (rd Obj.COMMIT_TIME s ≠ 0 ∧ rd Obj.COMMIT_TIME s < now s) := fun ⟨hne, hlt⟩ =>
    htime.elim hne (Nat.not_le.mpr hlt)
  have hnewGrid : ¬ (rd Obj.COMMIT_TIME s ≠ 0 ∧ bitOf (rd Obj.COMMIT_SET s) 5 = true ∧
      nextB (rd Obj.COMMIT_SET s) s ≠ beatB s ∧
      onMeasure (commitGrid (rd Obj.COMMIT_SET s) s) (rd Obj.COMMIT_TIME s) = false) := by
    rintro ⟨hne, hcaller, hb, hoff⟩
    simp [hne, hcaller, hb, hoff] at hgrid
  have hgridNow : ¬ (rd Obj.COMMIT_TIME s ≠ 0 ∧ bitOf (rd Obj.COMMIT_SET s) 5 = true ∧
      onMeasure (beatB s) (rd Obj.COMMIT_TIME s) = false) := by
    rintro ⟨hne, hcaller, hoff⟩
    simp [hne, hcaller, hoff] at hgrid
  unfold startCommit
  rw [if_neg (by simp [hphase]), if_neg (by simp [hset]), if_neg hnotPast, if_neg hnewGrid, if_neg hgridNow]

theorem armCommit_arms (hset : setLegal (rd Obj.COMMIT_SET s) = true) : armCommit s = (0, { s with
    dict := { s.dict with commit := some { Commit.init with fset := BitVec.ofNat 16 (rd Obj.COMMIT_SET s) } } }) := by
  unfold armCommit
  rw [if_neg (by simp [hset])]

theorem validateOnly_valid (hset : setLegal (rd Obj.COMMIT_SET s) = true)
    (hv : (validated (stagedIn (rd Obj.COMMIT_SET s) s) s).1 = none) :
    validateOnly s = (0, wr Obj.COMMIT_RESULT 0 s) := by
  simp only [validateOnly, hset, hv, Bool.true_eq_false, if_false]

theorem validateOnly_invalid {e a : Nat} (hset : setLegal (rd Obj.COMMIT_SET s) = true)
    (hv : (validated (stagedIn (rd Obj.COMMIT_SET s) s) s).1 = some (e, a)) :
    validateOnly s = (0, wr Obj.COMMIT_RESULT e (wr Obj.COMMIT_FAILED_AT a s)) := by
  simp only [validateOnly, hset, hv, Bool.true_eq_false, if_false]

/-! ### The commit goes on (13 R460, R462, R463) -/

theorem beginAtTime_begins {c : Commit} (hc : s.dict.commit = some c) (hwait : c.phase = .waitTime)
    (hdue : commitBegin c s ≤ now s) : beginAtTime s = stopForCommit s := by
  simp only [beginAtTime, hc]
  exact if_pos ⟨hwait, hdue⟩

theorem tryCommit_validates {c : Commit} {t : State} (hc : s.dict.commit = some c) (hstop : c.phase = .stopping)
    (ht : t = forEach ([0, 1, 2, 3, 4, 6].filter fun f => bitOf c.fset.toNat f)
      (fun f u => onlyIf (runOf f u == .stopping && atSafe f u) (setRun f .stopped) u) s)
    (hsafe : commitSafe c.fset.toNat t = true) : tryCommit s = validateCommit c t := by
  subst ht
  simp only [tryCommit, hc, hstop, ne_eq, not_true_eq_false, if_false, hsafe, if_true]

theorem exec_commitTimeoutExpire_fails {c : Commit} (ha : alive s = true) (hc : s.dict.commit = some c)
    (hstop : c.phase = .stopping) (hfig : c.figure = none)
    (hlate : c.deadline ≤ s.clk.ticks ∨ (c.applyAt.any fun t => decide (t < now s)) = true) :
    exec .commitTimeoutExpire s = .next (framed (failCommit 0x04000006 0 s) s) := by
  simp only [exec, execCommitTimeoutExpire]
  refine run_next ha ?_
  simp only [hc]
  exact if_pos ⟨hstop, by rw [hfig]; rfl, hlate⟩

theorem exec_stageIdleExpire_releases (ha : alive s = true) (howned : s.dict.owner.isSome = true)
    (hidle : s.dict.idleAt + rd Obj.STAGE_IDLE s ≤ opSec s) :
    exec .stageIdleExpire s = .next (framed (releaseStaging s) s) := by
  simp only [exec, execStageIdleExpire]
  exact run_next ha (if_pos ⟨howned, hidle⟩)

end

/-! ### RUN_CONTROL (13 R452, R454, R457; 18 R585) -/

/-- RUN_CONTROL of function `f` is considered: not in Sit-out for a function it keeps, after READY, and with no commit that holds
the function. -/
def runControlOpen (f : Nat) (s : State) : Prop :=
  (2 < f ∨ inSitout s = false) ∧ s.boot.ready = true ∧ commitHolds f s = false

section
variable {f : Nat} {s : State} (hopen : runControlOpen f s)
include hopen

/-- Past its three refusals the write looks at its value alone. -/
theorem runControlOpen_passes : ¬ (f ≤ 2 ∧ inSitout s = true) ∧ ¬ (s.boot.ready = false ∨ commitHolds f s = true) := by
  obtain ⟨hso, hready, hfree⟩ := hopen
  exact ⟨fun ⟨hf, hin⟩ => hso.elim (Nat.not_lt.mpr hf) (by simp [hin]), by simp [hready, hfree]⟩

theorem writeRunControl_starts (hcaller : f ≠ 5) (hrun : running f s = false) : writeRunControl f 1 s = (0, startFn f s) := by
  obtain ⟨hso, hready⟩ := runControlOpen_passes hopen
  have hrec : ¬ (f = 6 ∧ running 6 s = true) := fun ⟨h6, hon⟩ => Bool.noConfusion (hrun.symm.trans (h6 ▸ hon))
  unfold writeRunControl
  rw [if_neg hso, if_neg hready, if_pos rfl, if_neg hcaller, if_neg hrec, if_neg (by simp [hrun])]

theorem writeRunControl_runs (hcaller : f ≠ 5) (hrec : f ≠ 6) (hrun : running f s = true) :
    writeRunControl f 1 s = (0, s) := by
  obtain ⟨hso, hready⟩ := runControlOpen_passes hopen
  unfold writeRunControl
  rw [if_neg hso, if_neg hready, if_pos rfl, if_neg hcaller, if_neg fun h => hrec h.1, if_pos hrun]

theorem writeRunControl_startRefused (h : f = 5 ∨ (f = 6 ∧ running 6 s = true)) :
    writeRunControl f 1 s = (0x03000004, s) := by
  obtain ⟨hso, hready⟩ := runControlOpen_passes hopen
  unfold writeRunControl
  rw [if_neg hso, if_neg hready, if_pos rfl]
  rcases h with hcaller | hrec
  · rw [if_pos hcaller]
  · rw [if_pos hrec, ite_self]

theorem writeRunControl_stops (hcaller : f ≠ 5) (hrec : f ≠ 6) : writeRunControl f 2 s = (0, stopFn f s) := by
  obtain ⟨hso, hready⟩ := runControlOpen_passes hopen
  unfold writeRunControl
  rw [if_neg hso, if_neg hready, if_neg (by decide), if_neg hrec, if_neg hcaller]

theorem writeRunControl_recorderStays (hrec : f = 6) : writeRunControl f 2 s = (0x03000004, s) := by
  obtain ⟨hso, hready⟩ := runControlOpen_passes hopen
  unfold writeRunControl
  rw [if_neg hso, if_neg hready, if_neg (by decide), if_pos hrec]

/-- The Caller stops at its boundary; one that does not fire is left. -/
theorem writeRunControl_caller (hcaller : f = 5) : writeRunControl f 2 s = (0, if s.cal.firing = true then
    setRun 5 .stopping { s with cal := { s.cal with stopDue := some (s.cal.stopDue.getD .runControl) } } else s) := by
  obtain ⟨hso, hready⟩ := runControlOpen_passes hopen
  unfold writeRunControl
  rw [if_neg hso, if_neg hready, if_neg (by decide), if_neg (by omega), if_pos hcaller]
  cases s.cal.firing <;> rfl

end

theorem exec_functionSafeBoundary_stops {f : Nat} {s : State} (ha : alive s = true) (hcaller : f ≠ 5)
    (hstop : runOf f s = .stopping) (hsafe : atSafe f s = true) :
    exec (.functionSafeBoundary f) s = .next (framed (setRun f .stopped s) s) := by
  simp only [exec, execFunctionSafeBoundary]
  exact run_next ha (if_pos ⟨hcaller, hstop, hsafe⟩)

/-! ### The saved image (13 R469 to R471) -/

theorem exec_savedImageWrite_writes (ok : Bool) {s : State} (ha : alive s = true) (hdirty : s.boot.saveDirty = true)
    (hflush : (s.rcd.flush.any fun f => f.powerFail) = false) :
    exec (.savedImageWrite ok) s = .next (framed (writeImage ok s) s) := by
  simp only [exec, execSavedImageWrite]
  exact run_next ha (if_pos ⟨hdirty, hflush⟩)

end Sys2Proof.Machine

open Sys2Proof Sys2Proof.Machine

/-- Settles O59: COMMIT_CONTROL by its writer and its value, and the commit by its phase. -/
theorem commitsStartArmAndEnd : Obligations.CommitsStartArmAndEnd :=
  ⟨fun _ _ _ ha hacc hbusy howner ht hphase hset htime hgrid =>
      run_commitControl ha hacc hbusy howner ht (startCommit_begins hphase hset htime hgrid),
    fun _ _ _ ha hacc hbusy howner ht hset => run_commitControl ha hacc hbusy howner ht (armCommit_arms hset),
    fun _ _ _ ha hacc hbusy howner ht => run_commitControl ha hacc hbusy howner ht rfl,
    fun _ _ _ ha hacc hbusy howner ht => run_commitControl ha hacc hbusy howner ht rfl,
    fun _ _ ha hacc howner hvia => run_command ha hacc (writeCommitControl_takesArea howner hvia),
    fun _ _ _ ha hacc hbusy howner ht hset hv => run_commitControl ha hacc hbusy howner ht (validateOnly_valid hset hv),
    fun _ _ _ _ _ ha hacc hbusy howner ht hset hv =>
      run_commitControl ha hacc hbusy howner ht (validateOnly_invalid hset hv),
    fun _ _ ha hacc hbusy howner => run_commitControl_refused (by decide) ha hacc hbusy howner,
    fun _ _ ha hacc hbusy howner => run_commitControl_refused (by decide) ha hacc hbusy howner,
    fun _ _ ha hacc hbusy howner => run_commitControl_refused (by decide) ha hacc hbusy howner,
    fun _ _ ha hacc hbusy howner => run_commitControl_refused (by decide) ha hacc hbusy howner,
    fun _ _ ha hc hwait hdue => run_next ha (beginAtTime_begins hc hwait hdue),
    fun _ _ _ ha hc hstop ht hsafe => run_next ha (tryCommit_validates hc hstop ht hsafe),
    fun _ _ ha hc hstop hfig hlate => exec_commitTimeoutExpire_fails ha hc hstop hfig hlate,
    fun _ ha howned hidle => exec_stageIdleExpire_releases ha howned hidle⟩

/-- Settles O60: RUN_CONTROL by its value and its function, and the image by whether the flash took it. -/
theorem functionsStopAndStartAndSave : Obligations.FunctionsStopAndStartAndSave :=
  ⟨fun _ _ _ ha hacc hso hready hfree hcaller hrun =>
      run_command ha hacc (writeRunControl_starts ⟨hso, hready, hfree⟩ hcaller hrun),
    fun _ _ _ ha hacc hso hready hfree hcaller hrec hrun =>
      run_command ha hacc (writeRunControl_runs ⟨hso, hready, hfree⟩ hcaller hrec hrun),
    fun _ _ _ ha hacc hso hready hfree hcaller =>
      run_command ha hacc (writeRunControl_startRefused ⟨hso, hready, hfree⟩ (.inl hcaller)),
    fun _ _ _ ha hacc hso hready hfree hrec hrun =>
      run_command ha hacc (writeRunControl_startRefused ⟨hso, hready, hfree⟩ (.inr ⟨hrec, hrun⟩)),
    fun _ _ _ ha hacc hso hready hfree hcaller hrec =>
      run_command ha hacc (writeRunControl_stops ⟨hso, hready, hfree⟩ hcaller hrec),
    fun _ _ _ ha hacc hso hready hfree hrec =>
      run_command ha hacc (writeRunControl_recorderStays ⟨hso, hready, hfree⟩ hrec),
    fun _ _ _ ha hacc hso hready hfree hcaller hfire =>
      run_command ha hacc ((writeRunControl_caller ⟨hso, hready, hfree⟩ hcaller).trans (by rw [if_pos hfire])),
    fun _ _ _ ha hacc hso hready hfree hcaller hquiet =>
      run_command ha hacc ((writeRunControl_caller ⟨hso, hready, hfree⟩ hcaller).trans (by rw [if_neg (by simp [hquiet])])),
    fun _ _ ha hcaller hstop hsafe => exec_functionSafeBoundary_stops ha hcaller hstop hsafe,
    fun _ _ ha hacc => run_command ha hacc rfl,
    fun _ _ ha hacc => run_command ha hacc rfl,
    fun _ _ ha hacc => run_command ha hacc rfl,
    fun _ ok ha hdirty hflush => exec_savedImageWrite_writes ok ha hdirty hflush⟩
end
